-- ==== Sys2Proof/Word.lean ====
section
/-! DEFINITION. Words, identifiers and the width of node time: the plain types of the HT-520 model
(manual section 6 "Conventions" and R1, R4, R97, R193). -/

namespace Sys2Proof

/-- One byte of a frame, of the configuration image or of the trip record (manual section 6.3). -/
abbrev Byte := BitVec 8

/-- One raw axis count read over the SPI port: a signed 16-bit word (section 1.2, R4). -/
abbrev RawCount := BitVec 16

/-- A station id, 0..31 (manual section 2). -/
abbrev StationId := Fin 32

/-- A channel terminal, 0..15 (Chapter 5). -/
abbrev Channel := Fin 16

/-- The 32 station ids in ascending order. -/
def allStations : List StationId :=
  [0, 1, 2, 3, 4, 5, 6, 7, 8, 9, 10, 11, 12, 13, 14, 15,
   16, 17, 18, 19, 20, 21, 22, 23, 24, 25, 26, 27, 28, 29, 30, 31]

/-- The 16 channels in ascending order. -/
def allChannels : List Channel :=
  [0, 1, 2, 3, 4, 5, 6, 7, 8, 9, 10, 11, 12, 13, 14, 15]

/-- The eight stage numbers, for shutdown stages and for restart stages (manual section 6.4). -/
def allStages : List Nat := [1, 2, 3, 4, 5, 6, 7, 8]

/-- The last value of node time, 2^48 − 1, at which the count stays (R1). -/
def maxNodeTime : Nat := 281474976710655

end Sys2Proof
end

