-- ==== Sys2Proof/Syntax.lean ====
section
/-! DEFINITION. The commands of the HT-520: one constructor of `Instr` for each row of the table of
operations and events, with the operands each one carries. The coded values of frames (R53, R54) and
of the machine's own state (R18, R115) are inductive types here, because commands carry them.

Every command but COLD_RESET carries first the node time `t` at which it is taken (R1: "Each block
reads node time as now when it takes an event"; notes/assumptions/1.md). -/

namespace Sys2Proof

/-- Trip causes, codes 1..5 (Chapter 4, section 4.2). -/
inductive Cause where
  | vote | solo | wire | frame | console
  deriving DecidableEq, Repr

/-- Phases of a reported event, codes 1..4 (R53). -/
inductive ReportPhase where
  | onset | strong | update | ended
  deriving DecidableEq, Repr

/-- Reasons of a RELEASE, codes 1..2 (R53). -/
inductive ReleaseReason where
  | withdrawn | aborted
  deriving DecidableEq, Repr

/-- The node's mode, codes 0..1 (R54, R95). -/
inductive Mode where
  | armed | listen
  deriving DecidableEq, Repr

/-- Detector states, codes 0..4 (section 1.5). -/
inductive DetState where
  | idle | warmup | quiet | event | masked
  deriving DecidableEq, Repr

/-- Sequencer states, codes 0..8 (R115). -/
inductive SeqState where
  | unconfigured | starting | running | shutting | watch | awaitPermit | claiming | restarting | paused
  deriving DecidableEq, Repr

/-- Line error kinds, codes 0..4 (R39, R54). -/
inductive ErrKind where
  | none | bit | stuff | form | crc
  deriving DecidableEq, Repr

/-- The error kinds a receiver can find (R37). -/
inductive RxError where
  | stuff | crc | form
  deriving DecidableEq, Repr

/-- Results of a command, codes 0..3 (R54, R201). -/
inductive CmdResult where
  | none | done | ignored | refused
  deriving DecidableEq, Repr

/-- The fault ids 0..11 (R211). -/
inductive FaultId where
  | sensorLost | selftestFail | selftestAborted | lineIsolated | lineSuppressed | wireStuck
  | channelUnconfirmed | configMismatch | recordFail | recordLost | idConflict | configBad
  deriving DecidableEq, Repr

/-- A set of fault ids (R210), one truth value for each id of R211. -/
structure FaultSet where
  sensorLost         : Bool
  selftestFail       : Bool
  selftestAborted    : Bool
  lineIsolated       : Bool
  lineSuppressed     : Bool
  wireStuck          : Bool
  channelUnconfirmed : Bool
  configMismatch     : Bool
  recordFail         : Bool
  recordLost         : Bool
  idConflict         : Bool
  configBad          : Bool
  deriving DecidableEq, Repr

/-- A set of pause causes (R139), one truth value for each cause. -/
structure Causes where
  aftershock : Bool
  console    : Bool
  channel    : Bool
  precheck   : Bool
  line       : Bool
  reset      : Bool
  deriving DecidableEq, Repr

/-- Payload of a TRIP frame (R53, R88). -/
structure TripPayload where
  own    : Cause
  origin : Cause
  votes  : Nat
  grade  : Nat
  age    : Nat
  deriving DecidableEq, Repr

/-- Payload of an OBSERVE frame (R53). -/
structure ObservePayload where
  event : Nat
  phase : ReportPhase
  age   : Nat
  peak  : Nat
  grade : Nat
  deriving DecidableEq, Repr

/-- Payload of a CLAIM frame (R53): the duration is in units of 100 ms. -/
structure ClaimPayload where
  number   : Nat
  weight   : Nat
  duration : Nat
  deriving DecidableEq, Repr

/-- Payload of a RELEASE frame (R53). -/
structure ReleasePayload where
  number : Nat
  reason : ReleaseReason
  deriving DecidableEq, Repr

/-- Target and argument of a COMMAND frame (R53); the code is the command's constructor. -/
structure CommandPayload where
  target   : Nat
  argument : Nat
  deriving DecidableEq, Repr

/-- Payload of a STATUS frame (R54). -/
structure StatusPayload where
  mode         : Mode
  detector     : DetState
  sequencer    : SeqState
  currentStage : Nat
  nextStage    : Nat
  pause        : Causes
  grade        : Nat
  recordOpen   : Bool
  permit       : Bool
  lastError    : ErrKind
  active       : FaultSet
  sticky       : FaultSet
  digest       : Nat
  unconfirmed  : BitVec 16
  disagree     : BitVec 16
  lastCode     : Nat
  lastResult   : CmdResult
  wouldTrip    : Nat
  deriving DecidableEq, Repr

/-- The content of a frame, by class (R32): TRIP 0, OBSERVE 1, CLAIM 2, RELEASE 3, COMMAND 4, STATUS 5. -/
inductive FrameBody where
  | trip (p : TripPayload)
  | observe (p : ObservePayload)
  | claim (p : ClaimPayload)
  | release (p : ReleasePayload)
  | command (code : Nat) (p : CommandPayload)
  | status (p : StatusPayload)
  deriving DecidableEq, Repr

/-- A frame: the sender's station id and the content (R32). -/
structure Frame where
  sender : StationId
  body   : FrameBody
  deriving DecidableEq, Repr

/-- The commands of the HT-520, one constructor for each row of spec/opcode_table.json, in the table's
order. -/
inductive Instr where
  /-- COLD_RESET (R186): the id straps, the range strap and the sensor's identity byte (R3). -/
  | coldReset (id : StationId) (range16 : Bool) (identity : Byte)
  /-- IMAGE_READ (R189): the bytes of the image region as read. -/
  | imageRead (t : Nat) (image : List Byte)
  /-- RECORD_READ (R194): the bytes of the record region as read. -/
  | recordRead (t : Nat) (record : List Byte)
  /-- MEMORY_READ_TIMEOUT (R185). -/
  | memoryReadTimeout (t : Nat)
  /-- WARM_RESET (R55): assertion of the reset input. -/
  | warmReset (t : Nat)
  /-- END_OF_WARM_RESET (R150). -/
  | endOfWarmReset (t : Nat)
  /-- DATA_READY (R4): the three raw axis counts. -/
  | dataReady (t : Nat) (x y z : RawCount)
  /-- MISSING_DEADLINE (R5). -/
  | missingDeadline (t : Nat)
  /-- SELFTEST_DUE (R25). -/
  | selftestDue (t : Nat)
  /-- TRANSMIT_START (R47). -/
  | transmitStart (t : Nat)
  /-- ARBITRATION_LOST (R35). -/
  | arbitrationLost (t : Nat)
  /-- BIT_ERROR (R38). -/
  | bitError (t : Nat)
  /-- FRAME_COMPLETED (R43). -/
  | frameCompleted (t : Nat)
  /-- TRIP_FRAME (R78). -/
  | tripFrame (t : Nat) (sender : StationId) (p : TripPayload)
  /-- OBSERVE_FRAME (R64). -/
  | observeFrame (t : Nat) (sender : StationId) (p : ObservePayload)
  /-- CLAIM_FRAME (R152). -/
  | claimFrame (t : Nat) (sender : StationId) (p : ClaimPayload)
  /-- RELEASE_FRAME (R153). -/
  | releaseFrame (t : Nat) (sender : StationId) (p : ReleasePayload)
  /-- STATUS_FRAME (R61). -/
  | statusFrame (t : Nat) (sender : StationId) (p : StatusPayload)
  /-- IGNORED_FRAME (R32): a header of class 6 or 7. -/
  | ignoredFrame (t : Nat)
  /-- RECEIVE_ERROR (R37): the kind found. -/
  | receiveError (t : Nat) (kind : RxError)
  /-- ID_CONFLICT_DEADLINE (R44). -/
  | idConflictDeadline (t : Nat)
  /-- HEARD_DEADLINE (R45). -/
  | heardDeadline (t : Nat)
  /-- STATUS_PERIOD (R52). -/
  | statusPeriod (t : Nat)
  /-- SILENCE_DEADLINE (R59) of one Peer View entry. -/
  | silenceDeadline (t : Nat) (station : StationId)
  /-- WINDOW_DEADLINE (R72) of one Peer View entry. -/
  | windowDeadline (t : Nat) (station : StationId)
  /-- WIRE_ASSERTION_EDGE (R80). -/
  | wireAssertionEdge (t : Nat)
  /-- WIRE_RELEASE_EDGE (R82). -/
  | wireReleaseEdge (t : Nat)
  /-- CONFIRM_DEADLINE (R81). -/
  | confirmDeadline (t : Nat)
  /-- STUCK_DEADLINE (R82). -/
  | stuckDeadline (t : Nat)
  /-- REARM_DEADLINE (R84). -/
  | rearmDeadline (t : Nat)
  /-- DRIVE_DEADLINE (R89). -/
  | driveDeadline (t : Nat)
  /-- ACK_INPUT_CHANGE (R103): the channel and its new raw level. -/
  | ackInputChange (t : Nat) (ch : Channel) (high : Bool)
  /-- FILTER_DEADLINE (R103) of one channel. -/
  | filterDeadline (t : Nat) (ch : Channel)
  /-- ACK_DEADLINE (R107) of one channel. -/
  | ackDeadline (t : Nat) (ch : Channel)
  /-- GAP_DEADLINE (R122). -/
  | gapDeadline (t : Nat)
  /-- HOLD_DEADLINE (R136, R140). -/
  | holdDeadline (t : Nat)
  /-- START_WAIT (R138). -/
  | startWait (t : Nat)
  /-- RESET_DEADLINE (R144). -/
  | resetDeadline (t : Nat)
  /-- SETTLE_DEADLINE (R161). -/
  | settleDeadline (t : Nat)
  /-- BACKOFF_DEADLINE (R164). -/
  | backoffDeadline (t : Nat)
  /-- CLAIM_EXPIRY (R154) of one station's entry. -/
  | claimExpiry (t : Nat) (station : StationId)
  /-- OWN_EXPIRY (R165). -/
  | ownExpiry (t : Nat)
  /-- INRUSH_DEADLINE (R180). -/
  | inrushDeadline (t : Nat)
  /-- RESTART_GAP_DEADLINE (R181). -/
  | restartGapDeadline (t : Nat)
  /-- RECORD_WRITE_ACK (R197). -/
  | recordWriteAck (t : Nat)
  /-- ATTEMPT_DEADLINE (R198). -/
  | attemptDeadline (t : Nat)
  /-- PERMIT command, code 1 (R202). -/
  | permit (t : Nat) (sender : StationId) (p : CommandPayload)
  /-- HOLD command, code 2 (R203). -/
  | hold (t : Nat) (sender : StationId) (p : CommandPayload)
  /-- RESUME command, code 3 (R204). -/
  | resume (t : Nat) (sender : StationId) (p : CommandPayload)
  /-- SHUTDOWN command, code 4 (R205). -/
  | shutdown (t : Nat) (sender : StationId) (p : CommandPayload)
  /-- TEST command, code 5 (R206). -/
  | test (t : Nat) (sender : StationId) (p : CommandPayload)
  /-- MODE command, code 6 (R207). -/
  | mode (t : Nat) (sender : StationId) (p : CommandPayload)
  /-- ACK-FAULTS command, code 7 (R212). -/
  | ackFaults (t : Nat) (sender : StationId) (p : CommandPayload)
  /-- REPORT command, code 8 (R208). -/
  | report (t : Nat) (sender : StationId) (p : CommandPayload)
  /-- LINE_IDLE (R31). -/
  | lineIdle (t : Nat)
  /-- OTHER_STATION_SOF (R31). -/
  | otherStationSof (t : Nat)
  /-- DOMINANT_BIT_BEFORE_IDLE (R31). -/
  | dominantBitBeforeIdle (t : Nat)
  deriving DecidableEq, Repr

end Sys2Proof
end

