-- ==== Sys2Proof/Machine/Operands.lean ====
section
/-! DEFINITION. The operand forms: the codes of the coded fields (R53, R54) and the range checks that a
receiver makes of each payload (R37, R53, R54), where a value outside its range is a FORM error. The
lengths of the two memory regions (R185) stand here too. -/

namespace Sys2Proof.Machine

/-- The length of the configuration image (R185, R189). -/
def imageLength : Nat := 196

/-- The length of the trip record (R185, R193). -/
def recordLength : Nat := 43

/-- Code of a trip cause (section 4.2, R53). -/
def causeCode : Cause → Nat
  | .vote => 1 | .solo => 2 | .wire => 3 | .frame => 4 | .console => 5

/-- The cause a code names; none outside 1..5 (R53). -/
def causeOfCode : Nat → Option Cause
  | 1 => some .vote | 2 => some .solo | 3 => some .wire | 4 => some .frame | 5 => some .console
  | _ => none

/-- Code of a report phase (R53). -/
def phaseCode : ReportPhase → Nat
  | .onset => 1 | .strong => 2 | .update => 3 | .ended => 4

/-- The phase a code names; none outside 1..4 (R53). -/
def phaseOfCode : Nat → Option ReportPhase
  | 1 => some .onset | 2 => some .strong | 3 => some .update | 4 => some .ended | _ => none

/-- Code of a RELEASE reason (R53). -/
def reasonCode : ReleaseReason → Nat
  | .withdrawn => 1 | .aborted => 2

/-- The reason a code names; none outside 1..2 (R53). -/
def reasonOfCode : Nat → Option ReleaseReason
  | 1 => some .withdrawn | 2 => some .aborted | _ => none

/-- Code of a mode (R54). -/
def modeCode : Mode → Nat
  | .armed => 0 | .listen => 1

/-- The mode a code names; none outside 0..1 (R53, R54). -/
def modeOfCode : Nat → Option Mode
  | 0 => some .armed | 1 => some .listen | _ => none

/-- Code of a detector state (section 1.5). -/
def detCode : DetState → Nat
  | .idle => 0 | .warmup => 1 | .quiet => 2 | .event => 3 | .masked => 4

/-- The detector state a code names; none outside 0..4 (R54). -/
def detOfCode : Nat → Option DetState
  | 0 => some .idle | 1 => some .warmup | 2 => some .quiet | 3 => some .event | 4 => some .masked
  | _ => none

/-- Code of a sequencer state (R115). -/
def seqCode : SeqState → Nat
  | .unconfigured => 0 | .starting => 1 | .running => 2 | .shutting => 3 | .watch => 4
  | .awaitPermit => 5 | .claiming => 6 | .restarting => 7 | .paused => 8

/-- The sequencer state a code names; none outside 0..8 (R54). -/
def seqOfCode : Nat → Option SeqState
  | 0 => some .unconfigured | 1 => some .starting | 2 => some .running | 3 => some .shutting
  | 4 => some .watch | 5 => some .awaitPermit | 6 => some .claiming | 7 => some .restarting
  | 8 => some .paused | _ => none

/-- Code of a line error kind (R54). -/
def errCode : ErrKind → Nat
  | .none => 0 | .bit => 1 | .stuff => 2 | .form => 3 | .crc => 4

/-- The line error kind a code names; none outside 0..4 (R54). -/
def errOfCode : Nat → Option ErrKind
  | 0 => some .none | 1 => some .bit | 2 => some .stuff | 3 => some .form | 4 => some .crc
  | _ => Option.none

/-- Code of a command result (R54). -/
def resultCode : CmdResult → Nat
  | .none => 0 | .done => 1 | .ignored => 2 | .refused => 3

/-- The command result a code names; none outside 0..3 (R54). -/
def resultOfCode : Nat → Option CmdResult
  | 0 => some .none | 1 => some .done | 2 => some .ignored | 3 => some .refused
  | _ => Option.none

/-- The error kind a receiver records (R37). -/
def rxErrKind : RxError → ErrKind
  | .stuff => .stuff | .crc => .crc | .form => .form

/-- The range check of a TRIP payload (R53). -/
def tripInRange (p : TripPayload) : Bool :=
  decide (p.votes ≤ 32) && decide (p.grade ≤ 4) && decide (p.age ≤ 65535)

/-- The range check of an OBSERVE payload (R53). -/
def observeInRange (p : ObservePayload) : Bool :=
  decide (p.event ≤ 255) && decide (p.age ≤ 65535) && decide (p.peak ≤ 32767) && decide (p.grade ≤ 4)

/-- The range check of a CLAIM payload (R53). -/
def claimInRange (p : ClaimPayload) : Bool :=
  decide (p.number ≤ 255) && decide (1 ≤ p.weight) && decide (p.weight ≤ 65535) &&
    decide (1 ≤ p.duration) && decide (p.duration ≤ 6000)

/-- The range check of a RELEASE payload (R53). -/
def releaseInRange (p : ReleasePayload) : Bool :=
  decide (p.number ≤ 255)

/-- The range check of a COMMAND payload for every code but MODE (R53): the target is 0..31 or 255, and
the argument is any byte. -/
def commandInRange (p : CommandPayload) : Bool :=
  (decide (p.target ≤ 31) || decide (p.target = 255)) && decide (p.argument ≤ 255)

/-- The range check of a MODE command (R53): the argument is 0 or 1. -/
def modeCommandInRange (p : CommandPayload) : Bool :=
  commandInRange p && decide (p.argument ≤ 1)

/-- The range check of a STATUS payload (R54): the coded fields are checked, the set fields are taken
as they come. -/
def statusInRange (p : StatusPayload) : Bool :=
  decide (p.currentStage ≤ 8) && decide (1 ≤ p.nextStage) && decide (p.nextStage ≤ 9) &&
    decide (p.grade ≤ 4) && decide (p.digest ≤ 65535) && decide (p.lastCode ≤ 8) &&
    decide (p.wouldTrip ≤ 255)

/-- The mode a MODE command's argument names (R207): 0 is ARMED and 1 is LISTEN. -/
def modeArgument (p : CommandPayload) : Mode :=
  if p.argument = 0 then .armed else .listen

/-- Whether a set of causes is empty (R139). -/
def causesEmpty (c : Causes) : Bool :=
  !(c.aftershock || c.console || c.channel || c.precheck || c.line || c.reset)

/-- Two sets of causes together (R139, R209). -/
def causesUnion (a b : Causes) : Causes :=
  { aftershock := a.aftershock || b.aftershock, console := a.console || b.console,
    channel := a.channel || b.channel, precheck := a.precheck || b.precheck,
    line := a.line || b.line, reset := a.reset || b.reset }

end Sys2Proof.Machine
end

