-- ==== Sys2Proof/WellFormed.lean ====
section
/-! DEFINITION. Which command terms stand for something that can reach the part: node times within 48
bits (R1), memory regions of their lengths (R185), and frame fields within their ranges (R53, R54). A
frame command that is not well formed is what the manual calls a FORM error, and is taken as one. -/

namespace Sys2Proof

/-- A node time is a 48-bit count (R1). -/
def timeOk (t : Nat) : Bool := decide (t ≤ maxNodeTime)

/-- The check of a command term. -/
def Instr.wellFormed : Instr → Bool
  | .coldReset _ _ _ => true
  | .imageRead t image => timeOk t && decide (image.length = Machine.imageLength)
  | .recordRead t record => timeOk t && decide (record.length = Machine.recordLength)
  | .memoryReadTimeout t => timeOk t
  | .warmReset t => timeOk t
  | .endOfWarmReset t => timeOk t
  | .dataReady t _ _ _ => timeOk t
  | .missingDeadline t => timeOk t
  | .selftestDue t => timeOk t
  | .transmitStart t => timeOk t
  | .arbitrationLost t => timeOk t
  | .bitError t => timeOk t
  | .frameCompleted t => timeOk t
  | .tripFrame t _ p => timeOk t && Machine.tripInRange p
  | .observeFrame t _ p => timeOk t && Machine.observeInRange p
  | .claimFrame t _ p => timeOk t && Machine.claimInRange p
  | .releaseFrame t _ p => timeOk t && Machine.releaseInRange p
  | .statusFrame t _ p => timeOk t && Machine.statusInRange p
  | .ignoredFrame t => timeOk t
  | .receiveError t _ => timeOk t
  | .idConflictDeadline t => timeOk t
  | .heardDeadline t => timeOk t
  | .statusPeriod t => timeOk t
  | .silenceDeadline t _ => timeOk t
  | .windowDeadline t _ => timeOk t
  | .wireAssertionEdge t => timeOk t
  | .wireReleaseEdge t => timeOk t
  | .confirmDeadline t => timeOk t
  | .stuckDeadline t => timeOk t
  | .rearmDeadline t => timeOk t
  | .driveDeadline t => timeOk t
  | .ackInputChange t _ _ => timeOk t
  | .filterDeadline t _ => timeOk t
  | .ackDeadline t _ => timeOk t
  | .gapDeadline t => timeOk t
  | .holdDeadline t => timeOk t
  | .startWait t => timeOk t
  | .resetDeadline t => timeOk t
  | .settleDeadline t => timeOk t
  | .backoffDeadline t => timeOk t
  | .claimExpiry t _ => timeOk t
  | .ownExpiry t => timeOk t
  | .inrushDeadline t => timeOk t
  | .restartGapDeadline t => timeOk t
  | .recordWriteAck t => timeOk t
  | .attemptDeadline t => timeOk t
  | .permit t _ p => timeOk t && Machine.commandInRange p
  | .hold t _ p => timeOk t && Machine.commandInRange p
  | .resume t _ p => timeOk t && Machine.commandInRange p
  | .shutdown t _ p => timeOk t && Machine.commandInRange p
  | .test t _ p => timeOk t && Machine.commandInRange p
  | .mode t _ p => timeOk t && Machine.modeCommandInRange p
  | .ackFaults t _ p => timeOk t && Machine.commandInRange p
  | .report t _ p => timeOk t && Machine.commandInRange p
  | .lineIdle t => timeOk t
  | .otherStationSof t => timeOk t
  | .dominantBitBeforeIdle t => timeOk t

end Sys2Proof
end

