-- ==== Sys2Proof/Decode.lean ====
section
/-! DEFINITION. Commands and words. The table of operations and events gives no row any bits: its rows
are events at the part's connections, not words a processor fetches. So no word spells a command
(notes/assumptions/5.md). The bits of the frames that carry some of the commands are decoded in
Machine/Codec.lean. -/

namespace Sys2Proof

/-- The command that a word spells by the table's bits: no row of the table has bits, so none. -/
def decodeTableWord (_nbits _w : Nat) : Option Instr := none

end Sys2Proof
end

