-- ==== Sys2Proof/Machine/State.lean ====
section
/-! DEFINITION. The state of the HT-520 as plain data: the state each of its ten blocks owns (manual
section 3), the levels at its pins, the phase of its cold start or reset, the queue of waiting commands,
and the state after reset. A deadline is `none` while it does not run and `some d` while it does, d
being the node time at which it falls due (R1). -/

namespace Sys2Proof.Machine

/-- Why a command can stop the part. The manual gives every command an effect in every state, so there
is no such reason and no command faults. -/
inductive Fault where
  deriving DecidableEq, Repr

/-- Why a command has no meaning. -/
inductive Refusal where
  /-- Raised by `exec` for a row of the table whose meaning is not written. Safe: the model says nothing.
  No arm of `exec` raises it. -/
  | notModelled (mnemonic : String)
  deriving DecidableEq, Repr

/-- Bit timing fields of the site block (R30). -/
structure BitTiming where
  prescale : Nat
  seg1     : Nat
  seg2     : Nat
  jump     : Nat
  deriving DecidableEq, Repr

/-- Output kind of a channel (R97, R100, R101). -/
inductive OutputKind where
  | permit | request
  deriving DecidableEq, Repr

/-- Configured fields of one channel record (R97, R189). -/
structure ChannelConfig where
  enabled       : Bool
  kind          : OutputKind
  ackUsed       : Bool
  inverted      : Bool
  shutdownStage : Nat
  restartStage  : Nat
  weight        : Nat
  ackTimeout    : Nat
  deriving DecidableEq, Repr

/-- The configuration image as read (R189): the site block, then the local block. -/
structure NodeConfig where
  k           : Nat
  w           : Nat
  lc          : Nat
  gs          : Nat
  gsolo       : Nat
  gpermit     : Nat
  p1          : Nat
  p2          : Nat
  p3          : Nat
  p4          : Nat
  c1          : Nat
  c2          : Nat
  c3          : Nat
  c4          : Nat
  uci         : Nat
  q0          : Nat
  q1          : Nat
  q2          : Nat
  q3          : Nat
  q4          : Nat
  b           : Nat
  ts          : Nat
  bu          : Nat
  a           : Nat
  hw          : Nat
  ps          : Nat
  consoleSet  : BitVec 32
  timing      : BitTiming
  startMode   : Mode
  ks          : Nat
  kl          : Nat
  onsetRatio  : Nat
  endRatio    : Nat
  endHold     : Nat
  lmin        : Nat
  emax        : Nat
  testHours   : Nat
  dmin        : Nat
  dmax        : Nat
  shutdownGap : Nat
  restartGap  : Nat
  ir          : Vector Nat 8
  channels    : Vector ChannelConfig 16
  deriving DecidableEq, Repr

/-- Phase of the own event (R22). -/
inductive OwnPhase where
  | none | onset | strong | update | ended
  deriving DecidableEq, Repr

/-- Where a self-test stands (R25 to R28): measuring, or settling after the outcome named. -/
inductive TestPart where
  | measuring | passed | failed | aborted
  deriving DecidableEq, Repr

/-- Motion Processor (Chapter 1). -/
structure MotionState where
  /-- per-axis baselines, Q8 (R10) -/
  baseX          : Int
  baseY          : Int
  baseZ          : Int
  /-- S and L (R13, R16) -/
  sta            : Int
  lta            : Int
  /-- detector state (R18) -/
  det            : DetState
  warmupCount    : Nat
  endHold        : Nat
  /-- self-test state (R25 to R27) -/
  testPart       : TestPart
  testFromIdle   : Bool
  testCount      : Nat
  testSum        : Int
  settleCount    : Nat
  testDue        : Option Nat
  /-- missing samples and recovery (R5, R7) -/
  missingCount   : Nat
  missingDue     : Option Nat
  recovery       : Nat
  /-- own event record (R22) -/
  event          : Nat
  phase          : OwnPhase
  onsetTime      : Nat
  pmg            : Nat
  grade          : Nat
  inProgress     : Bool
  strongReached  : Bool
  /-- figures of the own event: P in counts and CI (R17) -/
  peak           : Nat
  ci             : Nat
  /-- settings last written to the sensor (R2, R25): range (true is ±16 g), 200 samples per second,
  data-ready enabled, deflection -/
  sensorRange16  : Bool
  sensorRate200  : Bool
  sensorDrdy     : Bool
  deflection     : Bool
  deriving DecidableEq, Repr

/-- Line states (R31), with the inactive SLC of R55 and the count to idle after a delimiter as members
of their own. -/
inductive LineState where
  | inactive | seeking | idle | receiving | sending | counting
  deriving DecidableEq, Repr

/-- An entry of the transmit queue: a frame of one class with the values it is to carry (section 2.8). -/
inductive TxEntry where
  | trip (own origin : Cause) (votes grade : Nat) (tripTime : Nat)
  | observe (event : Nat) (phase : ReportPhase) (onsetTime peak grade : Nat)
  | claim (number weight duration : Nat)
  | release (number : Nat) (reason : ReleaseReason)
  | status
  deriving DecidableEq, Repr

/-- What has become of the queue entry of the attempt in flight since its SOF (R47). -/
inductive EntryFate where
  | unchanged | replaced | removed
  deriving DecidableEq, Repr

/-- An attempt to send: the copy on the line, its SOF stamp, the fate of its entry, and whether a
RELEASE in the queue goes with it if it fails (R47, R49). -/
structure Attempt where
  copy        : Frame
  tSof        : Nat
  fate        : EntryFate
  releaseTied : Bool
  deriving DecidableEq, Repr

/-- Site Line Controller (Chapter 2). -/
structure LineCtl where
  line        : LineState
  timing      : BitTiming
  score       : Nat
  lastError   : ErrKind
  queue       : List TxEntry
  inFlight    : Option Attempt
  /-- stamps of the frame on the line or last on it (R41) -/
  tSof        : Nat
  tEnd        : Nat
  lastHeard   : Nat
  heardDue    : Option Nat
  conflictDue : Option Nat
  statusDue   : Option Nat
  deriving DecidableEq, Repr

/-- Presence of a station (R56). -/
inductive Presence where
  | absent | present | silent
  deriving DecidableEq, Repr

/-- STATUS summary of an entry (R56, R61). -/
structure Summary where
  sequencer : SeqState
  digest    : Nat
  deriving DecidableEq, Repr

/-- Observation of an entry (R56); `onset` is none for "unknown". -/
structure Observation where
  event : Nat
  phase : ReportPhase
  onset : Option Nat
  peak  : Nat
  grade : Nat
  deriving DecidableEq, Repr

/-- A Peer View entry (R56). -/
structure PeerEntry where
  presence    : Presence
  lastHeard   : Nat
  silenceDue  : Option Nat
  summary     : Option Summary
  observation : Option Observation
  windowDue   : Option Nat
  deriving DecidableEq, Repr

/-- Peer View (Chapter 3): one entry for each station id. -/
structure PeerView where
  entries : Vector PeerEntry 32
  deriving DecidableEq, Repr

/-- Sensed state of the Trip Wire (R80). -/
inductive WireState where
  | released | rising | asserted | stuck
  deriving DecidableEq, Repr

/-- Vote and Trip Unit (Chapter 4). `rearmDue` is none once its deadline has fallen due. -/
structure VoteState where
  votes      : Nat
  armed      : Bool
  lastTrip   : Option Nat
  rearmDue   : Option Nat
  driving    : Bool
  driveDue   : Option Nat
  wire       : WireState
  confirmDue : Option Nat
  stuckDue   : Option Nat
  wouldTrip  : Nat
  deriving DecidableEq, Repr

/-- A channel's command (R98). -/
inductive ChanCmd where
  | run | shut
  deriving DecidableEq, Repr

/-- A channel's confirmation (R98). -/
inductive Confirmation where
  | confirmed | pending | unconfirmed
  deriving DecidableEq, Repr

/-- Run-time fields of an enabled channel (R98). `readsShut` is the filtered level; `since` is the node
time of the last change of command, from which a PERMIT pair toggles (R100). -/
structure ChanRun where
  cmd       : ChanCmd
  conf      : Confirmation
  ackDue    : Option Nat
  disagree  : Bool
  readsShut : Bool
  filterDue : Option Nat
  since     : Nat
  deriving DecidableEq, Repr

/-- Channel Driver (Chapter 5): run-time fields of each channel, none for DISABLED (R98, R99). -/
structure ChannelState where
  runs : Vector (Option ChanRun) 16
  deriving DecidableEq, Repr

/-- Zone Sequencer (Chapters 6, 7 and 9). `startFloor` is the earlier term of the start wait, the end of
the cold start or of the last warm reset + 3·Ps (R138, R149). While a restart stage is in progress,
`inrushDue` is none once the inrush deadline has fallen due (R180). -/
structure SeqRecord where
  st           : SeqState
  stage        : Option Nat
  currentStage : Nat
  shutPending  : List Channel
  acted        : Bool
  gapDue       : Option Nat
  nextRestart  : Nat
  ta           : Nat
  grade        : Nat
  holdDue      : Option Nat
  startDue     : Option Nat
  startFloor   : Nat
  pause        : Causes
  held         : Causes
  consoleHold  : Bool
  resetDue     : Option Nat
  checkedStage : Option Nat
  waiver       : Option Nat
  restartStage : Option Nat
  runPending   : List Channel
  unconfMark   : Bool
  stageWeight  : Nat
  inrushDue    : Option Nat
  restartGap   : Option Nat
  deriving DecidableEq, Repr

/-- An entry of the inrush list (R151). -/
structure InrushEntry where
  station    : StationId
  number     : Nat
  weight     : Nat
  completion : Nat
  expiry     : Nat
  deriving DecidableEq, Repr

/-- State of the own claim (R157). -/
inductive OwnClaim where
  | none | queued | settling | inForce | backoff
  deriving DecidableEq, Repr

/-- Inrush Claim Unit (Chapter 8). -/
structure ClaimState where
  list        : List InrushEntry
  own         : OwnClaim
  lastNumber  : Nat
  weight      : Nat
  duration    : Nat
  settleDue   : Option Nat
  settleError : Bool
  backoffDue  : Option Nat
  ownExpiry   : Option Nat
  deriving DecidableEq, Repr

/-- The RAM copy of the trip record (R193); a cause of none is code 0. -/
structure TripRecord where
  isOpen   : Bool
  permit   : Bool
  sequence : Nat
  own      : Option Cause
  origin   : Option Cause
  votes    : Nat
  grade    : Nat
  count    : Nat
  stations : List StationId
  deriving DecidableEq, Repr

/-- Record and Configuration Port (Chapter 10): the held straps (R186), the configuration (none while the
image is unread or invalid), the digest, the RAM copy, the write in flight and the region read in
progress. `readRetry` and `retry` say that the read (R185) or the write (R198) is at its second attempt;
`writeBytes` are the bytes of the last write started. `failedAt` is the node time at which an attempt last
failed by its deadline, and `closeWaits` says that the ZS has handed a close that the RCP has not taken yet
(R128, R196; notes/assumptions/30.md). -/
structure RecordState where
  stationId      : StationId
  range16        : Bool
  config         : Option NodeConfig
  digest         : Nat
  record         : TripRecord
  writeInFlight  : Bool
  rewritePending : Bool
  retry          : Bool
  attemptDue     : Option Nat
  failedAt       : Option Nat
  writeBytes     : List Byte
  readRetry      : Bool
  readDue        : Option Nat
  lastTripReq    : Option Nat
  closeWaits     : Bool
  deriving DecidableEq, Repr

/-- Health Monitor (Chapter 11). `healthSince` is the node time from which the pair toggles (R213). -/
structure HealthState where
  active      : FaultSet
  sticky      : FaultSet
  lastCode    : Nat
  lastResult  : CmdResult
  mode        : Mode
  healthy     : Bool
  healthSince : Nat
  deriving DecidableEq, Repr

/-- Levels at the part's inputs: the Trip Wire as sensed (asserted), the sixteen acknowledge inputs
(high) and the reset input (asserted) (manual section 4). -/
structure Pins where
  wireAsserted  : Bool
  ackHigh       : Vector Bool 16
  resetAsserted : Bool
  deriving DecidableEq, Repr

/-- Where the part stands in its cold start or reset (R187, R55): without power, reading the image
(step 3), reading the record (step 4), running (from step 8 on), or in a warm reset. -/
inductive Phase where
  | powerUp | readImage | readRecord | running | warmReset
  deriving DecidableEq, Repr

/-- The whole state. `draws` is the model's own counter of free choices (notes/assumptions/3.md), and
`pending` the queue of commands that wait, first in first out. -/
structure State where
  nodeTime : Nat
  mp       : MotionState
  slc      : LineCtl
  pv       : PeerView
  vtu      : VoteState
  cd       : ChannelState
  zs       : SeqRecord
  icu      : ClaimState
  rcp      : RecordState
  hm       : HealthState
  pins     : Pins
  phase    : Phase
  draws    : Nat
  pending  : List Instr
  deriving DecidableEq, Repr

/-- `s` with its `nodeTime` replaced. -/
def State.setNodeTime (s : State) (v : Nat) : State := { s with nodeTime := v }

/-- `s` with its `mp` replaced. -/
def State.setMp (s : State) (v : MotionState) : State := { s with mp := v }

/-- `s` with its `slc` replaced. -/
def State.setSlc (s : State) (v : LineCtl) : State := { s with slc := v }

/-- `s` with its `pv` replaced. -/
def State.setPv (s : State) (v : PeerView) : State := { s with pv := v }

/-- `s` with its `vtu` replaced. -/
def State.setVtu (s : State) (v : VoteState) : State := { s with vtu := v }

/-- `s` with its `cd` replaced. -/
def State.setCd (s : State) (v : ChannelState) : State := { s with cd := v }

/-- `s` with its `zs` replaced. -/
def State.setZs (s : State) (v : SeqRecord) : State := { s with zs := v }

/-- `s` with its `icu` replaced. -/
def State.setIcu (s : State) (v : ClaimState) : State := { s with icu := v }

/-- `s` with its `rcp` replaced. -/
def State.setRcp (s : State) (v : RecordState) : State := { s with rcp := v }

/-- `s` with its `hm` replaced. -/
def State.setHm (s : State) (v : HealthState) : State := { s with hm := v }

/-- `s` with its `pins` replaced. -/
def State.setPins (s : State) (v : Pins) : State := { s with pins := v }

/-- `s` with its `phase` replaced. -/
def State.setPhase (s : State) (v : Phase) : State := { s with phase := v }

/-- `s` with its `draws` replaced. -/
def State.setDraws (s : State) (v : Nat) : State := { s with draws := v }

/-- `s` with its `pending` replaced. -/
def State.setPending (s : State) (v : List Instr) : State := { s with pending := v }

/-- No faults (R210, R214). -/
def noFaults : FaultSet :=
  { sensorLost := false, selftestFail := false, selftestAborted := false, lineIsolated := false,
    lineSuppressed := false, wireStuck := false, channelUnconfirmed := false, configMismatch := false,
    recordFail := false, recordLost := false, idConflict := false, configBad := false }

/-- The default bit timing (R30). -/
def defaultTiming : BitTiming := { prescale := 7, seg1 := 11, seg2 := 4, jump := 4 }

/-- The Motion Processor at cold reset (R5, R10, R13, R16, R18, R22). -/
def MotionState.reset : MotionState :=
  { baseX := 0, baseY := 0, baseZ := 0, sta := 0, lta := 0, det := .idle, warmupCount := 0, endHold := 0,
    testPart := .measuring, testFromIdle := false, testCount := 0, testSum := 0, settleCount := 0,
    testDue := none, missingCount := 0, missingDue := none, recovery := 0,
    event := 0, phase := .none, onsetTime := 0, pmg := 0, grade := 0, inProgress := false,
    strongReached := false, peak := 0, ci := 0, sensorRange16 := false, sensorRate200 := false,
    sensorDrdy := false, deflection := false }

/-- The Site Line Controller at cold reset (R39, R46, R55). -/
def LineCtl.reset : LineCtl :=
  { line := .inactive, timing := defaultTiming, score := 0, lastError := .none, queue := [],
    inFlight := none, tSof := 0, tEnd := 0, lastHeard := 0, heardDue := none, conflictDue := none,
    statusDue := none }

/-- An entry of a station never heard (R74). R74 does not name the last-heard time among what a warm reset
clears: that it goes to 0 with the rest of the entry is the model's choice (notes/assumptions/26.md). -/
def PeerEntry.reset : PeerEntry :=
  { presence := .absent, lastHeard := 0, silenceDue := none, summary := none, observation := none,
    windowDue := none }

/-- The Peer View at cold reset and at warm reset (R74). -/
def PeerView.reset : PeerView := { entries := Vector.replicate 32 PeerEntry.reset }

/-- The Vote and Trip Unit at cold reset (R85). -/
def VoteState.reset : VoteState :=
  { votes := 0, armed := false, lastTrip := none, rearmDue := none, driving := false, driveDue := none,
    wire := .released, confirmDue := none, stuckDue := none, wouldTrip := 0 }

/-- The Channel Driver at cold reset: every channel DISABLED (R98). -/
def ChannelState.reset : ChannelState := { runs := Vector.replicate 16 none }

/-- No pause causes (R139). -/
def noCauses : Causes :=
  { aftershock := false, console := false, channel := false, precheck := false, line := false,
    reset := false }

/-- The Zone Sequencer at cold reset (R116, R131, R134, R139, R148, R173). -/
def SeqRecord.reset : SeqRecord :=
  { st := .unconfigured, stage := none, currentStage := 0, shutPending := [], acted := false,
    gapDue := none, nextRestart := 1, ta := 0, grade := 0, holdDue := none, startDue := none,
    startFloor := 0, pause := noCauses, held := noCauses, consoleHold := false, resetDue := none,
    checkedStage := none, waiver := none, restartStage := none, runPending := [], unconfMark := false,
    stageWeight := 0, inrushDue := none, restartGap := none }

/-- The Inrush Claim Unit at cold reset (R156, R157). -/
def ClaimState.reset : ClaimState :=
  { list := [], own := .none, lastNumber := 0, weight := 0, duration := 0, settleDue := none,
    settleError := false, backoffDue := none, ownExpiry := none }

/-- A closed record with every field zero: the RAM copy before step 4 of the cold start. -/
def TripRecord.blank : TripRecord :=
  { isOpen := false, permit := false, sequence := 0, own := none, origin := none, votes := 0,
    grade := 0, count := 0, stations := [] }

/-- The Record and Configuration Port at cold reset (R196, R197). -/
def RecordState.reset : RecordState :=
  { stationId := 0, range16 := false, config := none, digest := 0, record := TripRecord.blank,
    writeInFlight := false, rewritePending := false, retry := false, attemptDue := none,
    failedAt := none, writeBytes := [], readRetry := false, readDue := none, lastTripReq := none,
    closeWaits := false }

/-- The Health Monitor at cold reset (R201, R214). -/
def HealthState.reset : HealthState :=
  { active := noFaults, sticky := noFaults, lastCode := 0, lastResult := .none, mode := .listen,
    healthy := false, healthSince := 0 }

/-- The input levels that the model starts from: none asserted, all low. -/
def Pins.reset : Pins :=
  { wireAsserted := false, ackHigh := Vector.replicate 16 false, resetAsserted := false }

/-- The machine right after reset: power about to be applied, no step of the cold-start sequence taken
yet (R187), every field at its cold-reset value. COLD_RESET is the first command that has an effect
(notes/assumptions/6.md). -/
def State.reset : State :=
  { nodeTime := 0, mp := MotionState.reset, slc := LineCtl.reset, pv := PeerView.reset,
    vtu := VoteState.reset, cd := ChannelState.reset, zs := SeqRecord.reset, icu := ClaimState.reset,
    rcp := RecordState.reset, hm := HealthState.reset, pins := Pins.reset, phase := .powerUp,
    draws := 0, pending := [] }

end Sys2Proof.Machine
end

