-- ==== Sys2Proof/Machine/Pipeline.lean ====
section
/-! DEFINITION. The arithmetic of the per-sample pipeline (section 1.3), on whole numbers. Division by a
positive number rounds toward minus infinity, as the manual's floor does (section 6.1). -/

namespace Sys2Proof.Machine

/-- A value clamped to −32767..32767 (R9, R10). -/
def clamp16 (v : Int) : Int := max (-32767) (min 32767 v)

/-- Step 1: a raw count clamped (R9). -/
def clampCount (c : RawCount) : Int := clamp16 c.toInt

/-- A sample in which any axis stood at the end of its range before the clamp is clipped (R9). -/
def clipped (x y z : RawCount) : Bool :=
  decide (32767 ≤ x.toInt.natAbs) || decide (32767 ≤ y.toInt.natAbs) || decide (32767 ≤ z.toInt.natAbs)

/-- Step 2: the detrended value of a clamped count against a baseline in Q8 (R10). -/
def detrend (c b : Int) : Int := clamp16 (c - b / 256)

/-- Step 2: the baseline after the sample (R10). -/
def nextBaseline (c b : Int) : Int := b + (256 * c - b) / 256

/-- Step 3: the horizontal amplitude (R11). -/
def horizontal (ax ay : Int) : Nat :=
  max ax.natAbs ay.natAbs + min ax.natAbs ay.natAbs / 2

/-- Step 3: the sample amplitude (R11). -/
def amplitude (ax ay az : Int) : Nat := max (horizontal ax ay) az.natAbs

/-- An amplitude in counts as milli-g, by the range strap held (R2, R12). -/
def milliG (range16 : Bool) (n : Nat) : Nat := if range16 then n * 125 / 256 else n * 125 / 1024

/-- Steps 5 and 7: a running average moved toward 16u by the exponent `k` (R13, R16). -/
def average (k : Nat) (u : Nat) (v : Int) : Int := v + (16 * (u : Int) - v) / (2 ^ k : Nat)

/-- The effective LTA (R14). -/
def effectiveLta (lmin : Nat) (lta : Int) : Int := max lta (16 * (lmin : Int))

/-- Step 6 in QUIET: the onset test (R14). -/
def onsetTest (ratio lmin : Nat) (sta lta : Int) : Bool :=
  decide ((ratio : Int) * effectiveLta lmin lta ≤ 8 * sta)

/-- Step 6 in EVENT: the sample counts toward the end by quiet (R15). -/
def quietTest (ratio lmin : Nat) (sta lta : Int) : Bool :=
  decide (8 * sta < (ratio : Int) * effectiveLta lmin lta)

/-- CI after a sample (R17). -/
def nextCi (uci uMg ci : Nat) : Nat := if uci < uMg then min 4294967295 (ci + (uMg - uci)) else ci

/-- The number of thresholds that a value reaches or passes (R17). -/
def thresholdsReached (v : Nat) (ts : List Nat) : Nat := (ts.filter (fun t => decide (t ≤ v))).length

/-- The event grade of a peak in milli-g and a CI (R17). -/
def eventGrade (c : NodeConfig) (pmg ci : Nat) : Nat :=
  max (thresholdsReached pmg [c.p1, c.p2, c.p3, c.p4]) (thresholdsReached ci [c.c1, c.c2, c.c3, c.c4])

/-- A clamped sample. -/
structure Sample where
  cx : Int
  cy : Int
  cz : Int
  deriving DecidableEq, Repr

/-- Step 1 on the three axes (R9). -/
def sampleOf (x y z : RawCount) : Sample := { cx := clampCount x, cy := clampCount y, cz := clampCount z }

/-- The baselines seeded by a sample (R10). -/
def seedBaselines (p : Sample) (m : MotionState) : MotionState :=
  { m with baseX := 256 * p.cx, baseY := 256 * p.cy, baseZ := 256 * p.cz }

/-- The baselines updated by a sample (R10). -/
def updateBaselines (p : Sample) (m : MotionState) : MotionState :=
  { m with baseX := nextBaseline p.cx m.baseX, baseY := nextBaseline p.cy m.baseY,
           baseZ := nextBaseline p.cz m.baseZ }

/-- The horizontal amplitude of a sample against the baselines that stand (R10, R11). -/
def sampleH (p : Sample) (m : MotionState) : Nat := horizontal (detrend p.cx m.baseX) (detrend p.cy m.baseY)

/-- The sample amplitude against the baselines that stand (R10, R11). -/
def sampleU (p : Sample) (m : MotionState) : Nat :=
  amplitude (detrend p.cx m.baseX) (detrend p.cy m.baseY) (detrend p.cz m.baseZ)

/-- The detrended vertical value (R10, R26). -/
def sampleAz (p : Sample) (m : MotionState) : Int := detrend p.cz m.baseZ

/-- Step 8: the figures of the own event with one more sample of amplitudes `h` and `u` (R17). -/
def addFigures (c : NodeConfig) (range16 : Bool) (h u : Nat) (m : MotionState) : MotionState :=
  let peak := max m.peak h
  let ci := nextCi c.uci (milliG range16 u) m.ci
  { m with peak := peak, ci := ci, pmg := milliG range16 peak,
           grade := eventGrade c (milliG range16 peak) ci }

/-- The figures set to 0 on an onset sample, before step 8 adds to them (R17). -/
def zeroFigures (m : MotionState) : MotionState := { m with peak := 0, ci := 0, pmg := 0, grade := 0 }

end Sys2Proof.Machine
end

