-- ==== Sys2Proof/Config.lean ====
section
/-! DEFINITION. The free values of the model: what the manual leaves open and no proof may see. Each is
an uninterpreted constant. `State.draws` counts the draws made, so that each draw is fresh. -/

namespace Sys2Proof

/-- Free value: which of two hand-offs of one event is taken first, where the manual says that either
may be (R68, R86, R147), and whether a close is taken in the step that hands it over (R128, R196,
notes/assumptions/30.md). The argument is the number of the draw (notes/assumptions/3.md). -/
opaque Config.order : Nat → Bool

/-- Free value: which of several commands that have fallen due an idle step takes first
(notes/assumptions/2.md). The argument is the number of the draw. -/
opaque Config.pickDue : Nat → Nat

/-- Free value: whether the first line of an antiphase pair is the one that is high first (R100, R213
leave it open). Channels 0..15 are themselves, 16 is the health output (notes/assumptions/4.md). -/
opaque Config.firstLineHigh : Nat → Bool

end Sys2Proof
end

