-- ==== Sys2Proof/Machine/Crc.lean ====
section
/-! DEFINITION. Bits of numbers and the 16-bit check of R34, which guards frames, the configuration
image and the trip record, and forms the site digest (R190). -/

namespace Sys2Proof.Machine

/-- The low `w` bits of `n`, most significant bit first (section 6.3). -/
def natBits : Nat → Nat → List Bool
  | 0, _ => []
  | w + 1, n => n.testBit w :: natBits w n

/-- The number that a list of bits spells, most significant bit first (section 6.3). -/
def bitsNat (l : List Bool) : Nat :=
  l.foldl (fun n b => 2 * n + b.toNat) 0

/-- The bits of a list of bytes in the order sent and stored (section 6.3). -/
def bytesBits : List Byte → List Bool
  | [] => []
  | b :: bs => natBits 8 b.toNat ++ bytesBits bs

/-- One bit taken into the check register (R34): the bit is compared with the register's most
significant bit, the register is shifted, and 0x1021 is combined when the two differed. -/
def crcStep (reg : BitVec 16) (b : Bool) : BitVec 16 :=
  if reg.msb = b then reg <<< 1 else (reg <<< 1) ^^^ 0x1021#16

/-- The check over a list of bits, from 0xFFFF (R34). -/
def crc16 (bits : List Bool) : BitVec 16 :=
  bits.foldl crcStep 0xFFFF#16

/-- The check over a list of bytes (R34). -/
def crcOfBytes (bs : List Byte) : BitVec 16 :=
  crc16 (bytesBits bs)

end Sys2Proof.Machine
end

