-- ==== Sys2Proof/Machine/Image.lean ====
section
/-! DEFINITION. The configuration image (section 10.3): its fields at their bytes, the checks of R189 in
their order, the site digest (R190), and the defaults of an UNCONFIGURED node (R191). -/

namespace Sys2Proof.Machine

/-- The memory address of the configuration image, whose region is 0x0000..0x00C3 (R185). -/
def imageAddress : BitVec 16 := 0x0000#16

/-- The memory address of the trip record, whose region is 0x0100..0x012A (R185, R193). -/
def recordAddress : BitVec 16 := 0x0100#16

/-- Byte `i` of a region. -/
def u8 (img : List Byte) (i : Nat) : Nat := (img.getD i 0).toNat

/-- The two-byte field at byte `i`, most significant byte first (section 6.3). -/
def u16 (img : List Byte) (i : Nat) : Nat := u8 img i * 256 + u8 img (i + 1)

/-- The four-byte field at byte `i`, most significant byte first (section 6.3). -/
def u32 (img : List Byte) (i : Nat) : Nat := u16 img i * 65536 + u16 img (i + 2)

/-- The channel record at byte `i`: six bytes (R189). -/
def channelAt (img : List Byte) (i : Nat) : ChannelConfig :=
  { enabled := (u8 img i).testBit 7
    kind := if (u8 img i).testBit 6 then .request else .permit
    ackUsed := (u8 img i).testBit 5
    inverted := (u8 img i).testBit 4
    shutdownStage := u8 img (i + 1)
    restartStage := u8 img (i + 2)
    weight := u8 img (i + 3)
    ackTimeout := u16 img (i + 4) }

/-- The fields of an image at their bytes (the table of R189). -/
def imageFields (img : List Byte) : NodeConfig :=
  { k := u8 img 1
    w := u16 img 2
    lc := u8 img 4
    gs := u8 img 5
    gsolo := u8 img 6
    gpermit := u8 img 7
    p1 := u16 img 8
    p2 := u16 img 10
    p3 := u16 img 12
    p4 := u16 img 14
    c1 := u32 img 16
    c2 := u32 img 20
    c3 := u32 img 24
    c4 := u32 img 28
    uci := u16 img 32
    q0 := u16 img 34
    q1 := u16 img 36
    q2 := u16 img 38
    q3 := u16 img 40
    q4 := u16 img 42
    b := u16 img 44
    ts := u16 img 46
    bu := u16 img 48
    a := u8 img 50
    hw := u16 img 51
    ps := u8 img 53
    consoleSet := BitVec.ofNat 32 (u32 img 54)
    timing := { prescale := u8 img 58, seg1 := u8 img 59, seg2 := u8 img 60, jump := u8 img 61 }
    startMode := if u8 img 62 = 0 then .armed else .listen
    ks := u8 img 63
    kl := u8 img 64
    onsetRatio := u8 img 65
    endRatio := u8 img 66
    endHold := u16 img 67
    lmin := u16 img 69
    emax := u16 img 71
    testHours := u8 img 73
    dmin := u16 img 74
    dmax := u16 img 76
    shutdownGap := u16 img 78
    restartGap := u16 img 80
    ir := Vector.ofFn (fun i : Fin 8 => u16 img (82 + 2 * i.val))
    channels := Vector.ofFn (fun n : Fin 16 => channelAt img (98 + 6 * n.val)) }

/-- The Ir of restart stage `r`, in units of 100 ms (R173). Stages are 1..8. -/
def irOf (c : NodeConfig) (r : Nat) : Nat := c.ir.toList.getD (r - 1) 0

/-- The ranges of one channel record (R189); they apply to disabled channels too. -/
def channelInRange (c : ChannelConfig) : Bool :=
  decide (c.shutdownStage ≤ 8) && decide (c.restartStage ≤ 8) && decide (1 ≤ c.ackTimeout) &&
    decide (c.ackTimeout ≤ 3000)

/-- Check 4 for the site block (R189). -/
def siteInRange (c : NodeConfig) : Bool :=
  decide (2 ≤ c.k) && decide (c.k ≤ 8) && decide (100 ≤ c.w) &&
    decide (c.w ≤ 60000) && decide (1 ≤ c.gs) && decide (c.gs ≤ 4) &&
    decide (2 ≤ c.gsolo) && decide (c.gsolo ≤ 5) && decide (1 ≤ c.gpermit) &&
    decide (c.gpermit ≤ 5) && decide (1 ≤ c.p1) && decide (c.p1 ≤ 32767) &&
    decide (1 ≤ c.p2) && decide (c.p2 ≤ 32767) && decide (1 ≤ c.p3) &&
    decide (c.p3 ≤ 32767) && decide (1 ≤ c.p4) && decide (c.p4 ≤ 32767) &&
    decide (1 ≤ c.c1) && decide (1 ≤ c.c2) && decide (1 ≤ c.c3) &&
    decide (1 ≤ c.c4) && decide (c.uci ≤ 32767) && decide (1 ≤ c.b) &&
    decide (100 ≤ c.ts) && decide (c.ts ≤ 5000) && decide (100 ≤ c.bu) &&
    decide (c.bu ≤ 10000) && decide (1000 ≤ c.hw) && decide (c.hw ≤ 50000) &&
    decide (1 ≤ c.ps) && decide (c.ps ≤ 60) && decide (c.timing.prescale ≤ 63) &&
    decide (3 ≤ c.timing.seg1) && decide (c.timing.seg1 ≤ 24) && decide (2 ≤ c.timing.seg2) &&
    decide (c.timing.seg2 ≤ 12) && decide (1 ≤ c.timing.jump) && decide (c.timing.jump ≤ 6)

/-- Check 4 for the local block but the start mode, which is a code (R189). The bounds E ≤ R − 1 and
Dmin ≤ Dmax are part of the ranges. -/
def localInRange (c : NodeConfig) : Bool :=
  decide (2 ≤ c.ks) && decide (c.ks ≤ 6) && decide (8 ≤ c.kl) &&
    decide (c.kl ≤ 13) && decide (17 ≤ c.onsetRatio) && decide (8 ≤ c.endRatio) &&
    decide (c.endRatio ≤ c.onsetRatio - 1) && decide (20 ≤ c.endHold) && decide (c.endHold ≤ 2000) &&
    decide (1 ≤ c.lmin) && decide (c.lmin ≤ 4095) && decide (10 ≤ c.emax) &&
    decide (c.emax ≤ 600) && decide (c.testHours ≤ 168) && decide (c.dmin ≤ 32767) &&
    decide (c.dmin ≤ c.dmax) && decide (c.dmax ≤ 32767) && decide (c.shutdownGap ≤ 600) &&
    decide (c.restartGap ≤ 600) && c.ir.toList.all (fun v => decide (1 ≤ v) && decide (v ≤ 6000)) && c.channels.toList.all channelInRange

/-- Check 5: the peak and CI thresholds are strictly increasing (R189). -/
def thresholdsRise (c : NodeConfig) : Bool :=
  decide (c.p1 < c.p2) && decide (c.p2 < c.p3) && decide (c.p3 < c.p4) &&
    decide (c.c1 < c.c2) && decide (c.c2 < c.c3) && decide (c.c3 < c.c4)

/-- Check 7 for one channel: an enabled channel that is staged or of kind PERMIT has a restart stage
1..8 (R97, R189). -/
def channelRestartable (c : ChannelConfig) : Bool :=
  !c.enabled || (c.shutdownStage == 0 && c.kind == .request) ||
    (decide (1 ≤ c.restartStage) && decide (c.restartStage ≤ 8))

/-- Check 8 for one restart stage: if an enabled channel belongs to it, Ir × 1,000 > Ts (R166, R189). -/
def inrushOutlastsSettle (c : NodeConfig) (r : Nat) : Bool :=
  !(c.channels.toList.any (fun ch => ch.enabled && ch.restartStage == r)) ||
    decide (c.ts < irOf c r * 1000)

/-- The checks 4 to 8 of R189 on the fields. -/
def configValid (c : NodeConfig) : Bool :=
  siteInRange c && localInRange c && thresholdsRise c && decide (c.timing.jump ≤ c.timing.seg2) &&
    c.channels.toList.all channelRestartable && allStages.all (inrushOutlastsSettle c)

/-- The eight checks of R189: a region of its length was read, the format code, the image CRC, the
start mode's code, and the fields. -/
def imageValid (img : List Byte) : Bool :=
  decide (img.length = imageLength) && decide (u8 img 0 = 0x31) &&
    decide (crcOfBytes (img.take 194) = BitVec.ofNat 16 (u16 img 194)) &&
    decide (u8 img 62 ≤ 1) && configValid (imageFields img)

/-- The configuration that an image gives; none when the image is invalid (R189). -/
def parseImage (img : List Byte) : Option NodeConfig :=
  if imageValid img then some (imageFields img) else none

/-- The site digest: the CRC over bytes 1..61 (R190). -/
def siteDigest (img : List Byte) : Nat := (crcOfBytes ((img.drop 1).take 61)).toNat

/-- A channel record at its defaults (R97, R189). -/
def defaultChannel : ChannelConfig :=
  { enabled := false, kind := .permit, ackUsed := false, inverted := false, shutdownStage := 0,
    restartStage := 0, weight := 0, ackTimeout := 50 }

/-- The defaults of the table of R189, the values an UNCONFIGURED node uses where the manual says so
(R189, R191). -/
def defaultConfig : NodeConfig :=
  { k := 3, w := 20000, lc := 0, gs := 2, gsolo := 3, gpermit := 4, p1 := 25, p2 := 80, p3 := 250,
    p4 := 800, c1 := 2000, c2 := 20000, c3 := 200000, c4 := 2000000, uci := 50, q0 := 30, q1 := 600,
    q2 := 1800, q3 := 7200, q4 := 7200, b := 100, ts := 500, bu := 2000, a := 0, hw := 10000, ps := 2,
    consoleSet := 0#32, timing := defaultTiming, startMode := .listen, ks := 3, kl := 10,
    onsetRatio := 40, endRatio := 12, endHold := 400, lmin := 8, emax := 120, testHours := 24,
    dmin := 120, dmax := 480, shutdownGap := 5, restartGap := 20, ir := Vector.replicate 8 50,
    channels := Vector.replicate 16 defaultChannel }

end Sys2Proof.Machine
end

