-- ==== Sys2Proof/Machine/RecordCodec.lean ====
section
/-! DEFINITION. The trip record's layout in memory (R193) and the checks at cold start (R194). -/

namespace Sys2Proof.Machine

/-- Code of a record's cause field: 0 is none (R193). -/
def recordCauseCode : Option Cause → Nat
  | none => 0
  | some c => causeCode c

/-- The 33 bytes from the length byte on: the length, then the ids, padded with zeros (R193). -/
def listBytes (l : List StationId) : List Byte :=
  BitVec.ofNat 8 l.length ::
    ((l.map (fun i => BitVec.ofNat 8 i.val)) ++ List.replicate (32 - l.length) 0#8)

/-- Bytes 0..40 of the record (R193). -/
def recordBody (r : TripRecord) : List Byte :=
  [BitVec.ofNat 8 (r.isOpen.toNat * 128 + r.permit.toNat * 64),
   BitVec.ofNat 8 (r.sequence / 256), BitVec.ofNat 8 r.sequence,
   BitVec.ofNat 8 (recordCauseCode r.own), BitVec.ofNat 8 (recordCauseCode r.origin),
   BitVec.ofNat 8 r.votes, BitVec.ofNat 8 r.grade, BitVec.ofNat 8 r.count] ++ listBytes r.stations

/-- The 43 bytes of the record with its CRC (R193). -/
def recordBytes (r : TripRecord) : List Byte :=
  recordBody r ++
    [BitVec.ofNat 8 ((crcOfBytes (recordBody r)).toNat / 256),
     BitVec.ofNat 8 (crcOfBytes (recordBody r)).toNat]

/-- Strictly ascending (R194). -/
def ascending : List Nat → Bool
  | [] => true
  | [_] => true
  | a :: b :: l => decide (a < b) && ascending (b :: l)

/-- The ids in the first `length` entries of the list (R193). -/
def recordIds (img : List Byte) : List Nat :=
  ((img.drop 9).take (u8 img 8)).map (fun b => b.toNat)

/-- The checks of R194: a region of its length was read, the CRC matches, every field lies within its
range, and the listed ids are strictly ascending. A list byte past the length is held to its range 0..31 of
R193 and not to 0, and is dropped: that is the model's choice (notes/assumptions/31.md). -/
def recordValid (img : List Byte) : Bool :=
  decide (img.length = recordLength) && decide (crcOfBytes (img.take 41) = BitVec.ofNat 16 (u16 img 41)) &&
    decide (u8 img 3 ≤ 5) && decide (u8 img 4 ≤ 5) && decide (u8 img 5 ≤ 32) &&
    decide (u8 img 6 ≤ 4) && decide (u8 img 8 ≤ 32) &&
    ((img.drop 9).take 32).all (fun b => decide (b.toNat ≤ 31)) && ascending (recordIds img)

/-- The content of a record (R193). -/
def recordFields (img : List Byte) : TripRecord :=
  { isOpen := (u8 img 0).testBit 7, permit := (u8 img 0).testBit 6, sequence := u16 img 1,
    own := causeOfCode (u8 img 3), origin := causeOfCode (u8 img 4), votes := u8 img 5,
    grade := u8 img 6, count := u8 img 7,
    stations := (recordIds img).map (fun n => ⟨n % 32, Nat.mod_lt _ (by decide)⟩) }

/-- The record that a region gives; none when it is lost (R194). -/
def parseRecord (img : List Byte) : Option TripRecord :=
  if recordValid img then some (recordFields img) else none

/-- The RAM copy of a lost record (R194). -/
def lostRecord : TripRecord :=
  { isOpen := true, permit := true, sequence := 0, own := none, origin := none, votes := 0, grade := 4,
    count := 0, stations := [] }

end Sys2Proof.Machine
end

