-- ==== Sys2Proof/Machine/Ops.lean ====
section
/-! DEFINITION. Operations that every block uses: deadlines (R1), the configuration and
its defaults (R189, R191), the phases in which the part takes events (R85, R187), free choices, and one
Peer View entry, channel or terminal at a time. -/

namespace Sys2Proof.Machine

/-- Whether a deadline has fallen due: node time has reached it (R1). -/
def due (d : Option Nat) (s : State) : Bool :=
  match d with
  | some t => decide (t ≤ s.nodeTime)
  | none => false

/-- The parameters in force: those of the image, or the defaults of an UNCONFIGURED node (R189, R191). -/
def cfg (s : State) : NodeConfig := s.rcp.config.getD defaultConfig

/-- The node holds a valid configuration (R189). -/
def configured (s : State) : Bool := s.rcp.config.isSome

/-- Step 8 of the cold start has been taken and no warm reset is in progress (R85, R187). -/
def running (s : State) : Bool := s.phase == .running

/-- The node is running and is not UNCONFIGURED: every block takes its events (R191). -/
def working (s : State) : Bool := running s && configured s

/-- The sensor is read: from step 2 of the cold start on, but not in a warm reset (R187, R29). -/
def sampling (s : State) : Bool :=
  s.phase == .readImage || s.phase == .readRecord || s.phase == .running

/-- The SLC follows the line: from step 3 of the cold start on, but not in a warm reset (R187, R55). -/
def lineUp (s : State) : Bool :=
  s.phase == .readRecord || s.phase == .running

/-- 3·Ps in ticks (R44, R45, R56, R138, R144). -/
def threePs (s : State) : Nat := 3 * (cfg s).ps * 10000

/-- The own station id (R186). -/
def ownId (s : State) : StationId := s.rcp.stationId

/-- One free choice and the state in which it has been drawn (notes/assumptions/3.md). -/
def drawOrder (s : State) : Bool := Config.order s.draws

/-- The state after a free choice. -/
def drawn (s : State) : State := s.setDraws (s.draws + 1)

/-- Two hand-offs of one event that need no order among themselves, taken in either order as `first`
says: true takes `a` first (R68, R86). -/
def inEitherOrder (first : Bool) (a b : State → State) (s : State) : State :=
  if first then b (a s) else a (b s)

/-- A station is in the console set (R63). -/
def inConsoleSet (s : State) (i : StationId) : Bool := (cfg s).consoleSet.getLsbD i.val

/-- The Peer View entry of a station (R56). -/
def peer (s : State) (i : StationId) : PeerEntry := s.pv.entries[i.val]'i.isLt

/-- Replace the Peer View entry of a station. -/
def setPeer (i : StationId) (e : PeerEntry) (s : State) : State :=
  s.setPv { entries := s.pv.entries.set i.val e i.isLt }

/-- The run-time fields of a channel; none for DISABLED (R98). -/
def chan (s : State) (c : Channel) : Option ChanRun := s.cd.runs[c.val]'c.isLt

/-- Replace the run-time fields of a channel. -/
def setChan (c : Channel) (r : Option ChanRun) (s : State) : State :=
  s.setCd { runs := s.cd.runs.set c.val r c.isLt }

/-- The configured fields of a channel (R97). -/
def chanCfg (s : State) (c : Channel) : ChannelConfig := (cfg s).channels[c.val]'c.isLt

/-- The raw level at a channel's acknowledge input (R103). -/
def rawAck (s : State) (c : Channel) : Bool := s.pins.ackHigh[c.val]'c.isLt

/-- A record is open, as the RCP presents it (R193). A record whose close has been handed over counts as
closed for everything but a trip request of the same node time (notes/assumptions/30.md). -/
def recordOpen (s : State) : Bool := s.rcp.record.isOpen && !s.rcp.closeWaits

/-- The permit-required flag, as the RCP presents it (R193). -/
def recordPermit (s : State) : Bool := s.rcp.record.permit && !s.rcp.closeWaits

end Sys2Proof.Machine
end

