-- ==== Sys2Proof/Machine/Flags.lean ====
section
/-! DEFINITION. The fault sets and the health output of the HM (sections 11.4 and 11.5): every raising,
clearing and notice of a fault goes through here. The hand-off of line faults to the ZS is in
Machine/Sequencer.lean. -/

namespace Sys2Proof.Machine

/-- Whether a fault is in a set. -/
def hasFault (f : FaultId) (a : FaultSet) : Bool :=
  match f with
  | .sensorLost => a.sensorLost
  | .selftestFail => a.selftestFail
  | .selftestAborted => a.selftestAborted
  | .lineIsolated => a.lineIsolated
  | .lineSuppressed => a.lineSuppressed
  | .wireStuck => a.wireStuck
  | .channelUnconfirmed => a.channelUnconfirmed
  | .configMismatch => a.configMismatch
  | .recordFail => a.recordFail
  | .recordLost => a.recordLost
  | .idConflict => a.idConflict
  | .configBad => a.configBad

/-- A set with one fault put in (`v` true) or taken out. -/
def putFault (f : FaultId) (v : Bool) (a : FaultSet) : FaultSet :=
  match f with
  | .sensorLost => { a with sensorLost := v }
  | .selftestFail => { a with selftestFail := v }
  | .selftestAborted => { a with selftestAborted := v }
  | .lineIsolated => { a with lineIsolated := v }
  | .lineSuppressed => { a with lineSuppressed := v }
  | .wireStuck => { a with wireStuck := v }
  | .channelUnconfirmed => { a with channelUnconfirmed := v }
  | .configMismatch => { a with configMismatch := v }
  | .recordFail => { a with recordFail := v }
  | .recordLost => { a with recordLost := v }
  | .idConflict => { a with idConflict := v }
  | .configBad => { a with configBad := v }

/-- A fault is active. -/
def active (f : FaultId) (s : State) : Bool := hasFault f s.hm.active

/-- The health output is to toggle: the part is running, its mode is ARMED and no fault is active (R213,
R214). -/
def fit (s : State) : Bool :=
  running s && s.hm.mode == .armed && s.hm.active == noFaults

/-- The health output taken afresh (R213): a change to toggling starts the pattern at now. -/
def takeHealth (s : State) : State :=
  if fit s then
    (if s.hm.healthy then s else s.setHm { s.hm with healthy := true, healthSince := s.nodeTime })
  else s.setHm { s.hm with healthy := false }

/-- A raising: the fault enters both sets (R210). -/
def raiseFault (f : FaultId) (s : State) : State :=
  takeHealth (s.setHm { s.hm with active := putFault f true s.hm.active, sticky := putFault f true s.hm.sticky })

/-- A clearing: the fault leaves the active set (R210). -/
def clearFault (f : FaultId) (s : State) : State :=
  takeHealth (s.setHm { s.hm with active := putFault f false s.hm.active })

/-- A raising when the condition holds, a clearing when it has ceased, nothing when neither changed. -/
def followFault (f : FaultId) (holds : Bool) (s : State) : State :=
  if holds then (if active f s then s else raiseFault f s)
  else (if active f s then clearFault f s else s)

/-- The notice SELFTEST-ABORTED enters the sticky set (R210). -/
def noticeAborted (s : State) : State :=
  s.setHm { s.hm with sticky := putFault .selftestAborted true s.hm.sticky }

/-- Own observations are excluded (R23, R70). -/
def excluded (s : State) : Bool := active .sensorLost s || active .selftestFail s

/-- The line is usable (R143). -/
def lineUsable (s : State) : Bool := !(active .lineIsolated s || active .lineSuppressed s)

/-- Suppression (R40). It begins and ends with LINE-SUPPRESSED and is held there. -/
def suppressed (s : State) : Bool := active .lineSuppressed s

/-- Levels of an antiphase pair that has toggled at 500 Hz since `since`: each line is high for 1 ms and
low for 1 ms, one high while the other is low (R100, R213). `id` names the pair for the free value. -/
def antiphase (id since now : Nat) : Bool × Bool :=
  let high := ((now - since) / 10 % 2 == 0) == Config.firstLineHigh id
  (high, !high)

/-- The health pair (R213). -/
def healthLines (s : State) : Bool × Bool :=
  if s.hm.healthy then antiphase 16 s.hm.healthSince s.nodeTime else (false, false)

end Sys2Proof.Machine
end

