-- ==== Sys2Proof/Machine/PeerView.lean ====
section
/-! DEFINITION. The Peer View (Chapter 3): presence, the digest comparison, storing observations, onset
reconstruction and the counted set. What the VTU does with the counted set is in Machine/Vote.lean. -/

namespace Sys2Proof.Machine

/-- A station's entry takes part in the digest comparison and differs from the own digest (R62). -/
def mismatched (s : State) (i : StationId) : Bool :=
  i != ownId s && (peer s i).presence == .present && !inConsoleSet s i &&
    (match (peer s i).summary with
     | some m => m.sequencer != .unconfigured && m.digest != s.rcp.digest
     | none => false)

/-- The digest comparison (R62). -/
def digestCompare (s : State) : State :=
  followFault .configMismatch (allStations.any (mismatched s)) s

/-- The presence update at a valid frame of another station that ended at `tEnd` (R58). A summary of an
entry that was SILENT returns to the comparison (R62). -/
def presenceUpdate (sender : StationId) (tEnd : Nat) (s : State) : State :=
  let e := peer s sender
  let s1 := setPeer sender { e with presence := .present, lastHeard := tEnd,
                                    silenceDue := some (tEnd + threePs s) } s
  if e.presence = .silent ∧ e.summary.isSome = true then digestCompare s1 else s1

/-- A STATUS summary stored (R61). -/
def storeSummary (sender : StationId) (sequencer : SeqState) (digest : Nat) (s : State) : State :=
  digestCompare
    (setPeer sender { peer s sender with summary := some { sequencer := sequencer, digest := digest } } s)

/-- The onset that a frame's stamps give (R65). -/
def reconstructOnset (tSof age lc : Nat) : Option Nat :=
  if age = 65535 then none else some (tSof - age - lc)

/-- The window deadline of an entry that holds an onset, if it is counted at `now` (R71, R72). -/
def windowFor (w now : Nat) (shutOut : Bool) (onset : Option Nat) : Option Nat :=
  match onset with
  | some t => if shutOut = false ∧ now ≤ t + w then some (t + w + 1) else none
  | none => none

/-- An observation written into an entry (R66, R67, R69): an update of the event it holds keeps the onset
and the window deadline, a new event takes both afresh. -/
def storeObservation (i : StationId) (o : Observation) (s : State) : State :=
  let e := peer s i
  let fresh : PeerEntry :=
    { e with observation := some o,
             windowDue := windowFor (cfg s).w s.nodeTime (i == ownId s && excluded s) o.onset }
  match e.observation with
  | some held =>
    if held.event = o.event then
      setPeer i { e with observation := some { o with onset := held.onset } } s
    else setPeer i fresh s
  | none => setPeer i fresh s

/-- The entry of a station is counted (R71). -/
def counted (s : State) (i : StationId) : Bool :=
  match (peer s i).observation with
  | some o =>
    match o.onset with
    | some t => decide (s.nodeTime ≤ t + (cfg s).w) && !(i == ownId s && excluded s)
    | none => false
  | none => false

/-- The counted set as a list of station ids in ascending order (R71, R73). -/
def countedSet (s : State) : List StationId := allStations.filter (counted s)

/-- The own entry's window deadline at a start or an end of the exclusion (R70, R72). -/
def refreshOwnWindow (s : State) : State :=
  let e := peer s (ownId s)
  setPeer (ownId s)
    { e with windowDue := e.observation.bind (fun o =>
        windowFor (cfg s).w s.nodeTime (excluded s) o.onset) } s

/-- The silence deadline of an entry falls due (R59): the entry goes SILENT and drops out of the
comparison. -/
def goSilent (i : StationId) (s : State) : State :=
  digestCompare (setPeer i { peer s i with presence := .silent, silenceDue := none } s)

/-- The own entry becomes PRESENT (R57). -/
def ownPresent (s : State) : State :=
  setPeer (ownId s) { peer s (ownId s) with presence := .present } s

end Sys2Proof.Machine
end

