-- ==== Sys2Proof/Machine/Codec.lean ====
section
/-! DEFINITION. Frames on the Site Line as bits (Chapter 2, sections 2.3, 2.5 and 2.10): the header, the
payload layouts of R53 and R54, the CRC of R34, the stuffing of R33 and the delimiter of R32, as a
sender forms them and as a receiver takes them. A dominant bit is `false` (0) and a recessive bit is
`true` (1). -/

namespace Sys2Proof.Machine

/-- The class of a frame (R32). -/
def bodyClass : FrameBody → Nat
  | .trip _ => 0 | .observe _ => 1 | .claim _ => 2 | .release _ => 3 | .command _ _ => 4 | .status _ => 5

/-- Payload bytes of a class (R32); none for the ignored classes 6 and 7. -/
def payloadBytes : Nat → Option Nat
  | 0 => some 6 | 1 => some 7 | 2 => some 5 | 3 => some 2 | 4 => some 3 | 5 => some 21 | _ => none

/-- The header byte: the class in bits 7..5 and the sender id in bits 4..0 (R32, R53). -/
def headerByte (f : Frame) : Nat := bodyClass f.body * 32 + f.sender.val

/-- The bits of a fault set as STATUS bytes 8–9 and 10–11 lay them out: bit n is fault id n, and bits
12–15 are reserved and sent as zero (R54). -/
def faultBits (a : FaultSet) : List Bool :=
  [false, false, false, false, a.configBad, a.idConflict, a.recordLost, a.recordFail,
   a.configMismatch, a.channelUnconfirmed, a.wireStuck, a.lineSuppressed,
   a.lineIsolated, a.selftestAborted, a.selftestFail, a.sensorLost]

/-- The fault set that sixteen bits spell; reserved bits are ignored (R54). -/
def faultsOfBits (l : List Bool) : FaultSet :=
  { sensorLost := l.getD 15 false, selftestFail := l.getD 14 false, selftestAborted := l.getD 13 false,
    lineIsolated := l.getD 12 false, lineSuppressed := l.getD 11 false, wireStuck := l.getD 10 false,
    channelUnconfirmed := l.getD 9 false, configMismatch := l.getD 8 false, recordFail := l.getD 7 false,
    recordLost := l.getD 6 false, idConflict := l.getD 5 false, configBad := l.getD 4 false }

/-- The bits of the pause-cause set as STATUS byte 5 lays them out (R54). -/
def causeBits (c : Causes) : List Bool :=
  [false, false, c.reset, c.line, c.precheck, c.channel, c.console, c.aftershock]

/-- The pause-cause set that eight bits spell; reserved bits are ignored (R54). -/
def causesOfBits (l : List Bool) : Causes :=
  { aftershock := l.getD 7 false, console := l.getD 6 false, channel := l.getD 5 false,
    precheck := l.getD 4 false, line := l.getD 3 false, reset := l.getD 2 false }

/-- The payload of a frame as bits, byte 0 first (R53, R54). -/
def payloadBits : FrameBody → List Bool
  | .trip p => natBits 8 (causeCode p.own) ++ natBits 8 (causeCode p.origin) ++ natBits 8 p.votes ++
      natBits 8 p.grade ++ natBits 16 p.age
  | .observe p => natBits 8 p.event ++ natBits 8 (phaseCode p.phase) ++ natBits 16 p.age ++
      natBits 16 p.peak ++ natBits 8 p.grade
  | .claim p => natBits 8 p.number ++ natBits 16 p.weight ++ natBits 16 p.duration
  | .release p => natBits 8 p.number ++ natBits 8 (reasonCode p.reason)
  | .command code p => natBits 8 p.target ++ natBits 8 code ++ natBits 8 p.argument
  | .status p => natBits 8 (modeCode p.mode) ++ natBits 8 (detCode p.detector) ++
      natBits 8 (seqCode p.sequencer) ++ natBits 8 p.currentStage ++ natBits 8 p.nextStage ++
      causeBits p.pause ++ natBits 8 p.grade ++
      [p.recordOpen, p.permit, false, false, false] ++ natBits 3 (errCode p.lastError) ++
      faultBits p.active ++ faultBits p.sticky ++ natBits 16 p.digest ++
      natBits 16 p.unconfirmed.toNat ++ natBits 16 p.disagree.toNat ++
      natBits 8 p.lastCode ++ natBits 8 (resultCode p.lastResult) ++ natBits 8 p.wouldTrip

/-- The header and the payload as unstuffed bits in the order sent, the span of the CRC (R34). -/
def checkedBits (f : Frame) : List Bool :=
  natBits 8 (headerByte f) ++ payloadBits f.body

/-- SOF, header, payload and CRC before stuffing (R32). -/
def spanBits (f : Frame) : List Bool :=
  false :: (checkedBits f ++ natBits 16 (crc16 (checkedBits f)).toNat)

/-- Stuffing from a state of the sender's run count (R33): `last` is the bit just sent and `run` the
length of the run of equal bits it ends. When the run has reached six the opposite bit is inserted and
starts a new run, also after the last CRC bit. -/
def stuffFrom (last : Bool) (run : Nat) : List Bool → List Bool
  | [] => if run = 6 then [!last] else []
  | b :: bs =>
    if run = 6 then (!last) :: b :: stuffFrom b (if b = !last then 2 else 1) bs
    else b :: stuffFrom b (if b = last then run + 1 else 1) bs

/-- Stuffing of a span, whose run starts at its first bit (R33). -/
def stuff : List Bool → List Bool
  | [] => []
  | b :: bs => b :: stuffFrom b 1 bs

/-- The delimiter: six recessive bits (R32). -/
def delimiter : List Bool := [true, true, true, true, true, true]

/-- The bits a frame puts on the line, SOF first, delimiter last (R32, R33). -/
def lineBits (f : Frame) : List Bool := stuff (spanBits f) ++ delimiter

/-- What a receiver's run count finds when it takes bits from the line (R33). -/
inductive Unstuffed where
  /-- the bits asked for, the run count after them, and the bits that follow -/
  | taken (bits : List Bool) (last : Bool) (run : Nat) (rest : List Bool)
  /-- seven equal bits stand in the span -/
  | stuffError
  /-- the line has carried too few bits so far -/
  | short
  deriving DecidableEq, Repr

/-- Put one bit in front of what was taken. -/
def unstuffCons (b : Bool) : Unstuffed → Unstuffed
  | .taken bits last run rest => .taken (b :: bits) last run rest
  | .stuffError => .stuffError
  | .short => .short

/-- A receiver's count over the bits it samples (R33): it takes `need` unstuffed bits, removing the bit
that follows a run of six when it is opposite. A stuff bit that falls due after the last bit taken is left
on the line. -/
def unstuff (need : Nat) (last : Bool) (run : Nat) : List Bool → Unstuffed
  | [] => if need = 0 then .taken [] last run [] else .short
  | b :: bs =>
    if need = 0 then .taken [] last run (b :: bs)
    else if run = 6 then (if b = last then .stuffError else unstuff need b 1 bs)
    else unstuffCons b (unstuff (need - 1) b (if b = last then run + 1 else 1) bs)

/-- The end of the stuffed span (R33): a stuff bit that falls due after the last bit taken is removed too. -/
def endSpan : Unstuffed → Unstuffed
  | .taken bits last run rest =>
    if run = 6 then
      match rest with
      | [] => .short
      | b :: bs => if b = last then .stuffError else .taken bits b 1 bs
    else .taken bits last run rest
  | .stuffError => .stuffError
  | .short => .short

/-- The number in `w` bits at offset `i` of a payload. -/
def fieldAt (l : List Bool) (i w : Nat) : Nat := bitsNat ((l.drop i).take w)

/-- The TRIP payload that bits spell, when every coded field has a code (R53). -/
def tripOfBits (l : List Bool) : Option FrameBody :=
  match causeOfCode (fieldAt l 0 8), causeOfCode (fieldAt l 8 8) with
  | some own, some origin =>
    let p : TripPayload := { own := own, origin := origin, votes := fieldAt l 16 8,
                             grade := fieldAt l 24 8, age := fieldAt l 32 16 }
    if tripInRange p then some (.trip p) else none
  | _, _ => none

/-- The OBSERVE payload that bits spell (R53). -/
def observeOfBits (l : List Bool) : Option FrameBody :=
  match phaseOfCode (fieldAt l 8 8) with
  | some phase =>
    let p : ObservePayload := { event := fieldAt l 0 8, phase := phase, age := fieldAt l 16 16,
                                peak := fieldAt l 32 16, grade := fieldAt l 48 8 }
    if observeInRange p then some (.observe p) else none
  | none => none

/-- The CLAIM payload that bits spell (R53). -/
def claimOfBits (l : List Bool) : Option FrameBody :=
  let p : ClaimPayload := { number := fieldAt l 0 8, weight := fieldAt l 8 16, duration := fieldAt l 24 16 }
  if claimInRange p then some (.claim p) else none

/-- The RELEASE payload that bits spell (R53). -/
def releaseOfBits (l : List Bool) : Option FrameBody :=
  match reasonOfCode (fieldAt l 8 8) with
  | some reason => some (.release { number := fieldAt l 0 8, reason := reason })
  | none => none

/-- The range check of a COMMAND frame: the code is 1..8, and only MODE (6) limits its argument (R53). -/
def commandFrameInRange (code : Nat) (p : CommandPayload) : Bool :=
  decide (1 ≤ code) && decide (code ≤ 8) && (if code = 6 then modeCommandInRange p else commandInRange p)

/-- The COMMAND payload that bits spell (R53). -/
def commandOfBits (l : List Bool) : Option FrameBody :=
  let p : CommandPayload := { target := fieldAt l 0 8, argument := fieldAt l 16 8 }
  if commandFrameInRange (fieldAt l 8 8) p then some (.command (fieldAt l 8 8) p) else none

/-- The STATUS payload that bits spell (R54). -/
def statusOfBits (l : List Bool) : Option FrameBody :=
  match modeOfCode (fieldAt l 0 8), detOfCode (fieldAt l 8 8), seqOfCode (fieldAt l 16 8),
        errOfCode (fieldAt l 61 3), resultOfCode (fieldAt l 152 8) with
  | some m, some d, some q, some e, some r =>
    let p : StatusPayload :=
      { mode := m, detector := d, sequencer := q, currentStage := fieldAt l 24 8,
        nextStage := fieldAt l 32 8, pause := causesOfBits ((l.drop 40).take 8),
        grade := fieldAt l 48 8, recordOpen := l.getD 56 false, permit := l.getD 57 false,
        lastError := e, active := faultsOfBits ((l.drop 64).take 16),
        sticky := faultsOfBits ((l.drop 80).take 16), digest := fieldAt l 96 16,
        unconfirmed := BitVec.ofNat 16 (fieldAt l 112 16), disagree := BitVec.ofNat 16 (fieldAt l 128 16),
        lastCode := fieldAt l 144 8, lastResult := r, wouldTrip := fieldAt l 160 8 }
    if statusInRange p then some (.status p) else none
  | _, _, _, _, _ => none

/-- The content of a class that payload bits spell; none is a field outside its range, a FORM error
(R37). -/
def bodyOfBits : Nat → List Bool → Option FrameBody
  | 0, l => tripOfBits l
  | 1, l => observeOfBits l
  | 2, l => claimOfBits l
  | 3, l => releaseOfBits l
  | 4, l => commandOfBits l
  | 5, l => statusOfBits l
  | _, _ => none

/-- What a receiver finds in the bits it samples from a SOF edge on (R32, R37). -/
inductive Received where
  /-- a valid frame -/
  | frame (f : Frame)
  /-- a header of class 6 or 7: an IGNORED_FRAME -/
  | ignored
  /-- the first error found: a RECEIVE_ERROR -/
  | error (kind : RxError)
  /-- the frame is not over yet -/
  | unfinished
  deriving DecidableEq, Repr

/-- The part of reception after a header of a known class: payload, CRC, delimiter and ranges, in the
order in which a receiver can find their errors (R37). R37 does not say when the CRC is compared: where it
differs and a seventh equal bit follows its last bit, STUFF is taken as the first error, which is the
model's choice (notes/assumptions/25.md). -/
def receiveBody (header : List Bool) (cls sender len : Nat) (last : Bool) (run : Nat)
    (rest : List Bool) : Received :=
  match endSpan (unstuff (8 * len + 16) last run rest) with
  | .stuffError => .error .stuff
  | .short => .unfinished
  | .taken bits _ _ after =>
    if crc16 (header ++ bits.take (8 * len)) ≠ BitVec.ofNat 16 (bitsNat (bits.drop (8 * len))) then .error .crc
    else if (after.take 6).any (fun b => !b) then .error .form
    else if after.length < 6 then .unfinished
    else
      match bodyOfBits cls (bits.take (8 * len)) with
      | some body => .frame { sender := ⟨sender % 32, Nat.mod_lt _ (by decide)⟩, body := body }
      | none => .error .form

/-- Reception of a frame from its SOF bit on (R32, R33, R37). The class is read at the last header bit, before
the bit that follows it, so a frame of class 6 or 7 is ignored whatever follows its header. -/
def receive : List Bool → Received
  | [] => .unfinished
  | sof :: rest =>
    match unstuff 8 sof 1 rest with
    | .stuffError => .error .stuff
    | .short => .unfinished
    | .taken header last run after =>
      match payloadBytes (bitsNat header / 32) with
      | none => .ignored
      | some len => receiveBody header (bitsNat header / 32) (bitsNat header % 32) len last run after

/-- The command that a COMMAND code names, with its sender and payload (section 11.2). -/
def commandInstr (t : Nat) (sender : StationId) (code : Nat) (p : CommandPayload) : Option Instr :=
  match code with
  | 1 => some (.permit t sender p)
  | 2 => some (.hold t sender p)
  | 3 => some (.resume t sender p)
  | 4 => some (.shutdown t sender p)
  | 5 => some (.test t sender p)
  | 6 => some (.mode t sender p)
  | 7 => some (.ackFaults t sender p)
  | 8 => some (.report t sender p)
  | _ => none

/-- The arrival that a valid frame is, at the node time of its last delimiter bit (R41). -/
def arrivalOf (t : Nat) (f : Frame) : Option Instr :=
  match f.body with
  | .trip p => some (.tripFrame t f.sender p)
  | .observe p => some (.observeFrame t f.sender p)
  | .claim p => some (.claimFrame t f.sender p)
  | .release p => some (.releaseFrame t f.sender p)
  | .command code p => commandInstr t f.sender code p
  | .status p => some (.statusFrame t f.sender p)

/-- The command that what a receiver finds stands for (R32, R37, R41). -/
def lineCommand (t : Nat) : Received → Option Instr
  | .frame f => arrivalOf t f
  | .ignored => some (.ignoredFrame t)
  | .error kind => some (.receiveError t kind)
  | .unfinished => none

/-- The range check of a frame as a sender forms it (R53, R54). -/
def frameInRange (f : Frame) : Bool :=
  match f.body with
  | .trip p => tripInRange p
  | .observe p => observeInRange p
  | .claim p => claimInRange p
  | .release p => releaseInRange p
  | .command code p => commandFrameInRange code p
  | .status p => statusInRange p

end Sys2Proof.Machine
end

