-- ==== Sys2Proof/Machine/Queue.lean ====
section
/-! DEFINITION. The transmit queue (section 2.8): placing, replacing and removing entries, the attempt in
flight and its end, and STATUS composed at its SOF (R52, R209). -/

namespace Sys2Proof.Machine

/-- The class of a queue entry (R32, R46). -/
def entryClass : TxEntry → Nat
  | .trip _ _ _ _ _ => 0
  | .observe _ _ _ _ _ => 1
  | .claim _ _ _ => 2
  | .release _ _ => 3
  | .status => 5

/-- The queue holds an entry of a class. -/
def hasClass (c : Nat) (q : List TxEntry) : Bool := q.any (fun e => entryClass e == c)

/-- An entry put in its class place (R46). -/
def insertEntry (e : TxEntry) : List TxEntry → List TxEntry
  | [] => [e]
  | x :: xs => if entryClass e < entryClass x then e :: x :: xs else x :: insertEntry e xs

/-- The values of the entry of the same class replaced, in the same place (R48). -/
def replaceEntry (e : TxEntry) (q : List TxEntry) : List TxEntry :=
  q.map (fun x => if entryClass x = entryClass e then e else x)

/-- The queue without the entry of a class. -/
def dropClass (c : Nat) (q : List TxEntry) : List TxEntry := q.filter (fun x => entryClass x != c)

/-- The attempt in flight, when it carries class `c` and its entry still stands, given a new fate. -/
def markFate (c : Nat) (fate : EntryFate) (a : Option Attempt) : Option Attempt :=
  match a with
  | some t => if bodyClass t.copy.body = c ∧ t.fate ≠ .removed then some { t with fate := fate } else some t
  | none => none

/-- The entry of class `c` is in flight (R47). -/
def classInFlight (c : Nat) (a : Option Attempt) : Bool :=
  match a with
  | some t => bodyClass t.copy.body == c && t.fate != .removed
  | none => false

/-- An entry removed by its owner or by an overflow (R50, R51): it leaves the queue, and an attempt in
flight goes on without it. -/
def removeEntry (c : Nat) (s : State) : State :=
  s.setSlc { s.slc with queue := dropClass c s.slc.queue, inFlight := markFate c .removed s.slc.inFlight }

/-- A frame placed in the queue (R46, R48, R51): it replaces the entry of its class, or goes to its class
place, or overflows a full queue, where it displaces the STATUS entry or is dropped if it is a STATUS. -/
def place (e : TxEntry) (s : State) : State :=
  if hasClass (entryClass e) s.slc.queue then
    s.setSlc { s.slc with queue := replaceEntry e s.slc.queue,
                          inFlight := markFate (entryClass e) .replaced s.slc.inFlight }
  else if s.slc.queue.length < 4 then
    s.setSlc { s.slc with queue := insertEntry e s.slc.queue }
  else if entryClass e ≠ 5 ∧ hasClass 5 s.slc.queue then
    s.setSlc { s.slc with queue := insertEntry e (dropClass 5 s.slc.queue),
                          inFlight := markFate 5 .removed s.slc.inFlight }
  else s

/-- A STATUS queued (R52). -/
def queueStatus (s : State) : State := place .status s

/-- The queue holds a CLAIM entry with a claim number (R49). -/
def holdsClaim (n : Nat) (q : List TxEntry) : Bool :=
  q.any (fun e => match e with | .claim m _ _ => m == n | _ => false)

/-- A RELEASE queued (R49): over a CLAIM entry of the same number that is not in flight, both go; over
one in flight, the CLAIM leaves the queue and the RELEASE is queued, tied to the attempt. -/
def queueRelease (n : Nat) (reason : ReleaseReason) (s : State) : State :=
  if holdsClaim n s.slc.queue then
    if classInFlight 2 s.slc.inFlight then
      let s1 := removeEntry 2 s
      place (.release n reason)
        (s1.setSlc { s1.slc with inFlight := s1.slc.inFlight.map (fun a => { a with releaseTied := true }) })
    else removeEntry 2 s
  else place (.release n reason) s

/-- The queue when an attempt has failed: a RELEASE tied to a CLAIM attempt goes with it (R47, R49). -/
def queueAfterFailure (a : Attempt) (q : List TxEntry) : List TxEntry :=
  match a.releaseTied, a.copy.body with
  | true, .claim p => q.filter (fun e => match e with | .release m _ => m != p.number | _ => true)
  | _, _ => q

/-- The attempt in flight ends by lost arbitration or a BIT error (R47). -/
def failAttempt (s : State) : State :=
  match s.slc.inFlight with
  | some a => s.setSlc { s.slc with queue := queueAfterFailure a s.slc.queue, inFlight := none }
  | none => s

/-- The attempt in flight completes: an entry unchanged since its SOF is removed (R47). -/
def completeAttempt (s : State) : State :=
  match s.slc.inFlight with
  | some a =>
    s.setSlc { s.slc with
      queue := if a.fate = .unchanged then dropClass (bodyClass a.copy.body) s.slc.queue else s.slc.queue,
      inFlight := none }
  | none => s

/-- The age field at a SOF (R42). -/
def ageAt (tSof since : Nat) : Nat := min 65535 (tSof - since)

/-- Bits for the channels of which `f` holds, bit n for channel n (R54, R110). -/
def channelBits (f : Channel → Bool) : BitVec 16 :=
  allChannels.foldl (fun b c => if f c then b ||| BitVec.twoPow 16 c.val else b) 0#16

/-- A channel is in the unconfirmed set (R110). -/
def isUnconfirmed (s : State) (c : Channel) : Bool :=
  match chan s c with
  | some r => r.conf == .unconfirmed
  | none => false

/-- A channel is in the disagree set (R110). -/
def isDisagree (s : State) (c : Channel) : Bool :=
  match chan s c with
  | some r => r.disagree
  | none => false

/-- The STATUS payload composed from the state as it stands (R54, R209). -/
def composeStatus (s : State) : StatusPayload :=
  { mode := if configured s then s.hm.mode else .listen
    detector := s.mp.det
    sequencer := s.zs.st
    currentStage := s.zs.currentStage
    nextStage := s.zs.nextRestart
    pause := causesUnion s.zs.pause s.zs.held
    grade := if configured s then s.zs.grade else s.rcp.record.grade
    recordOpen := recordOpen s
    permit := recordPermit s
    lastError := s.slc.lastError
    active := s.hm.active
    sticky := s.hm.sticky
    digest := s.rcp.digest
    unconfirmed := channelBits (isUnconfirmed s)
    disagree := channelBits (isDisagree s)
    lastCode := s.hm.lastCode
    lastResult := s.hm.lastResult
    wouldTrip := s.vtu.wouldTrip }

/-- The content of the copy that an entry puts on the line at a SOF stamped `tSof`: ages are filled and
STATUS is composed (R42, R47, R52). -/
def bodyAt (tSof : Nat) (e : TxEntry) (s : State) : FrameBody :=
  match e with
  | .trip own origin votes grade tripTime =>
    .trip { own := own, origin := origin, votes := votes, grade := grade, age := ageAt tSof tripTime }
  | .observe event phase onsetTime peak grade =>
    .observe { event := event, phase := phase, age := ageAt tSof onsetTime, peak := peak, grade := grade }
  | .claim n w d => .claim { number := n, weight := w, duration := d }
  | .release n reason => .release { number := n, reason := reason }
  | .status => .status (composeStatus s)

/-- The bits of the frame in flight, or none when nothing is sent (R32). -/
def txBits (s : State) : List Bool :=
  match s.slc.inFlight with
  | some a => lineBits a.copy
  | none => []

end Sys2Proof.Machine
end

