-- ==== Sys2Proof/Machine/Record.lean ====
section
/-! DEFINITION. The trip record and its writes (sections 10.4 and 10.5): the requests of R195, the void
close of R196, and the write with its rewrite and retry (R197, R198). -/

namespace Sys2Proof.Machine

/-- A record write started (R197): a new sequence, the whole record sent, the deadline set. -/
def startWrite (isRetry : Bool) (s : State) : State :=
  let rec1 := { s.rcp.record with sequence := (s.rcp.record.sequence + 1) % 65536 }
  s.setRcp { s.rcp with record := rec1, writeInFlight := true, rewritePending := false, retry := isRetry,
                        attemptDue := some (s.nodeTime + 200), writeBytes := recordBytes rec1 }

/-- A changed RAM copy is to be written (R197). -/
def writeChange (s : State) : State :=
  if s.rcp.writeInFlight then s.setRcp { s.rcp with rewritePending := true } else startWrite false s

/-- The RAM copy takes a content; a request that makes no change starts no write (R195). -/
def setRecord (r : TripRecord) (s : State) : State :=
  if r = s.rcp.record then s else writeChange (s.setRcp { s.rcp with record := r })

/-- The RAM copy after a trip request (R91, R195): an opening or a re-trip. -/
def recordAfterTrip (own origin : Cause) (votes grade : Nat) (stations : List StationId)
    (r : TripRecord) : TripRecord :=
  if r.isOpen then
    { r with count := min 255 (r.count + 1), grade := max r.grade grade,
             permit := r.permit || origin == .console }
  else
    { isOpen := true, permit := origin == .console, sequence := r.sequence, own := some own,
      origin := some origin, votes := votes, grade := grade, count := 1, stations := stations }

/-- A trip request taken by the RCP (R91, R195, R196). -/
def rcpTrip (own origin : Cause) (votes grade : Nat) (stations : List StationId) (s : State) : State :=
  setRecord (recordAfterTrip own origin votes grade stations s.rcp.record)
    (s.setRcp { s.rcp with lastTripReq := some s.nodeTime })

/-- A grade raise taken by the RCP (R133, R195). -/
def rcpRaise (grade : Nat) (s : State) : State :=
  if recordOpen s = true ∧ s.rcp.record.grade < grade then
    setRecord { s.rcp.record with grade := grade } s
  else s

/-- A permit request taken by the RCP (R93, R195). -/
def rcpPermit (s : State) : State :=
  if recordOpen s = true ∧ s.rcp.record.permit = false then
    setRecord { s.rcp.record with permit := true } s
  else s

/-- The RAM copy after a close (R182, R195). -/
def closedRecord (r : TripRecord) : TripRecord := { r with isOpen := false, permit := false, grade := 0 }

/-- A close taken by the RCP (R182, R195). At the node time of the last trip request it is void, and the
ZS takes the record's site grade if that is higher than its own (R196). -/
def takeClose (s : State) : State :=
  let s1 := s.setRcp { s.rcp with closeWaits := false }
  if s.rcp.lastTripReq = some s.nodeTime then
    s1.setZs { s.zs with grade := max s.zs.grade s.rcp.record.grade }
  else if s.rcp.record.isOpen then setRecord (closedRecord s.rcp.record) s1
  else s1

/-- A close handed to the RCP by the ZS (R182). A close of an open record may be taken at once, or after a
trip request of the same node time (R128, R196): which is a free choice, and in the second case it waits
(notes/assumptions/30.md). -/
def rcpClose (s : State) : State :=
  if s.rcp.record.isOpen = true ∧ s.rcp.lastTripReq ≠ some s.nodeTime then
    if drawOrder s then takeClose (drawn s)
    else (drawn s).setRcp { s.rcp with closeWaits := true }
  else takeClose s

/-- A close that waits is taken (R196). -/
def takeWaitingClose (s : State) : State := if s.rcp.closeWaits then takeClose s else s

end Sys2Proof.Machine
end

