-- ==== Sys2Proof/Machine/Channels.lean ====
section
/-! DEFINITION. The Channel Driver (Chapter 5): outputs, the acknowledge reading, stage commands and
confirmation, the channel sets and the pre-check. -/

namespace Sys2Proof.Machine

/-- The reading of a raw level: true is "load shut" (R103). -/
def readsShutAt (c : ChannelConfig) (high : Bool) : Bool := high != c.inverted

/-- A level matches a command (R103). -/
def levelMatches (cmd : ChanCmd) (readsShut : Bool) : Bool :=
  match cmd with
  | .shut => readsShut
  | .run => !readsShut

/-- The confirmation a channel takes with a new command (R105): the run-time fields `r` carry the new
command and the filtered level as it stands. R105 says that a change of command and an input change of the
same node time end in the same state in both orders. Its steps do not, where the level changes from matching
to contrary, and the model follows the steps (notes/assumptions/36.md, DEDUCED). -/
def takeConfirmation (c : ChannelConfig) (now : Nat) (r : ChanRun) : ChanRun :=
  if !c.ackUsed then { r with conf := .confirmed, ackDue := none }
  else if levelMatches r.cmd r.readsShut then { r with conf := .confirmed, ackDue := none }
  else { r with conf := .pending, ackDue := some (now + c.ackTimeout * 1000) }

/-- One channel named in a stage command (R104). -/
def commandChannel (c : ChannelConfig) (cmd : ChanCmd) (now : Nat) (r : ChanRun) : ChanRun :=
  if r.cmd = cmd then r
  else takeConfirmation c now { r with cmd := cmd, disagree := false, since := now }

/-- Every channel's fields after a stage command naming `named` (R104). -/
def commandRuns (named : List Channel) (cmd : ChanCmd) (s : State) : Vector (Option ChanRun) 16 :=
  Vector.ofFn (fun c : Fin 16 =>
    if c ∈ named then (chan s c).map (commandChannel (chanCfg s c) cmd s.nodeTime) else chan s c)

/-- CHANNEL-UNCONFIRMED follows the unconfirmed set (R110). -/
def followUnconfirmed (s : State) : State :=
  followFault .channelUnconfirmed (allChannels.any (isUnconfirmed s)) s

/-- A stage command (R104), with the unconfirmed set reported to the HM (R110). -/
def stageCommand (named : List Channel) (cmd : ChanCmd) (s : State) : State :=
  followUnconfirmed (s.setCd { runs := commandRuns named cmd s })

/-- A channel is PENDING for a command. -/
def pendingFor (cmd : ChanCmd) (s : State) (c : Channel) : Bool :=
  match chan s c with
  | some r => r.conf == .pending && r.cmd == cmd
  | none => false

/-- The pending set returned for a stage command, read in the state after it (R104). -/
def pendingSet (named : List Channel) (cmd : ChanCmd) (s : State) : List Channel :=
  named.filter (pendingFor cmd s)

/-- A channel is enabled and has command `cmd`. -/
def hasCmd (cmd : ChanCmd) (s : State) (c : Channel) : Bool :=
  match chan s c with
  | some r => r.cmd == cmd
  | none => false

/-- The channels of shutdown stage `k`: the enabled channels that have it (R119). -/
def shutdownChannels (k : Nat) (s : State) : List Channel :=
  allChannels.filter (fun c => (chan s c).isSome && (chanCfg s c).shutdownStage == k)

/-- The channels that belong to restart stage `r` and have command SHUT (R113, R177). -/
def shutInRestart (r : Nat) (s : State) : List Channel :=
  allChannels.filter (fun c => hasCmd .shut s c && (chanCfg s c).restartStage == r)

/-- A channel is in disagreement for the pre-check (R111). -/
def runsInPrecheck (s : State) (c : Channel) : Bool :=
  match chan s c with
  | some r => (chanCfg s c).ackUsed && !r.readsShut
  | none => false

/-- The pre-check result of restart stage `r` (R111): every SHUT channel of the stage that uses its
acknowledgement reads "load shut". -/
def precheck (r : Nat) (s : State) : Bool :=
  (shutInRestart r s).all (fun c => !runsInPrecheck s c)

/-- What a channel's output presents to its load (R100, R101, R102). -/
inductive Output where
  /-- a PERMIT pair static low -/
  | pairLow
  /-- a PERMIT pair toggling in antiphase since a node time -/
  | pairToggling (since : Nat)
  /-- a REQUEST line, asserted or not -/
  | line (asserted : Bool)
  deriving DecidableEq, Repr

/-- The output of a channel: its unpowered state when DISABLED, and otherwise as its command and kind
say (R100, R101, R102). While no valid configuration is held the kind of a terminal is not known: that it is
then taken as a PERMIT pair, static low, is the model's choice (notes/assumptions/37.md). -/
def outputOf (s : State) (c : Channel) : Output :=
  match (chanCfg s c).kind, chan s c with
  | .permit, none => .pairLow
  | .request, none => .line false
  | .permit, some r => if r.cmd = .run then .pairToggling r.since else .pairLow
  | .request, some r => .line (r.cmd == .shut)

/-- The levels of a PERMIT channel's two lines at the present node time (R100). -/
def pairLines (s : State) (c : Channel) : Bool × Bool :=
  match outputOf s c with
  | .pairToggling since => antiphase c.val since s.nodeTime
  | .pairLow => (false, false)
  | .line _ => (false, false)

/-- The first command of an enabled channel at classification (the table of R112). -/
def firstCommand (mode : Mode) (recordOpen : Bool) (c : ChannelConfig) : ChanCmd :=
  match mode, c.kind with
  | .listen, _ => .run
  | .armed, .permit => .shut
  | .armed, .request => if recordOpen && c.shutdownStage != 0 then .shut else .run

/-- The first run-time fields of an enabled channel (R112). -/
def classifyChannel (c : ChannelConfig) (high : Bool) (recordOpen : Bool) (mode : Mode) (now : Nat) :
    ChanRun :=
  takeConfirmation c now
    { cmd := firstCommand mode recordOpen c, conf := .confirmed, ackDue := none, disagree := false,
      readsShut := readsShutAt c high, filterDue := none, since := now }

/-- Channel classification, step 5 of the cold start (R112). -/
def classify (s : State) : State :=
  s.setCd { runs := Vector.ofFn (fun c : Fin 16 =>
    if (chanCfg s c).enabled then
      some (classifyChannel (chanCfg s c) (rawAck s c) s.rcp.record.isOpen (cfg s).startMode s.nodeTime)
    else none) }

/-- One channel's fields after a filtered input change to `readsShut` (R106, R108, R109). -/
def filteredChange (readsShut : Bool) (r : ChanRun) : ChanRun :=
  let fits := levelMatches r.cmd readsShut
  match r.conf with
  | .pending =>
    if fits then { r with readsShut := readsShut, conf := .confirmed, ackDue := none }
    else { r with readsShut := readsShut }
  | .unconfirmed =>
    if fits then { r with readsShut := readsShut, conf := .confirmed }
    else { r with readsShut := readsShut }
  | .confirmed => { r with readsShut := readsShut, disagree := !fits }

/-- One channel's fields after the level test at the end of a warm reset (R114). -/
def levelTest (c : ChannelConfig) (high : Bool) (now : Nat) (r : ChanRun) : ChanRun :=
  if c.ackUsed then
    let level := readsShutAt c high
    let fits := levelMatches r.cmd level
    match r.conf with
    | .pending =>
      if fits then { r with readsShut := level, filterDue := none, conf := .confirmed, ackDue := none }
      else { r with readsShut := level, filterDue := none, ackDue := some (now + c.ackTimeout * 1000) }
    | .unconfirmed =>
      if fits then { r with readsShut := level, filterDue := none, conf := .confirmed }
      else { r with readsShut := level, filterDue := none }
    | .confirmed => { r with readsShut := level, filterDue := none, disagree := !fits }
  else r

/-- A channel leaves PENDING at the level test (R114). -/
def leavesAtTest (c : ChannelConfig) (high : Bool) (r : ChanRun) : Bool :=
  c.ackUsed && r.conf == .pending && levelMatches r.cmd (readsShutAt c high)

/-- The acknowledge and filter deadlines that were running are cancelled (R114). -/
def cancelChannelDeadlines (s : State) : State :=
  s.setCd { runs := Vector.ofFn (fun c : Fin 16 =>
    (chan s c).map (fun r => { r with ackDue := none, filterDue := none })) }

end Sys2Proof.Machine
end

