-- ==== Sys2Proof/Machine/Claims.lean ====
section
/-! DEFINITION. The Inrush Claim Unit (Chapter 8): the inrush list, the own claim and its ends. The
verdict that confirms a claim hands over to the Zone Sequencer and is in Machine/Sequencer.lean. -/

namespace Sys2Proof.Machine

/-- The list without the entry of a station (R152, R155). -/
def dropStation (i : StationId) (l : List InrushEntry) : List InrushEntry :=
  l.filter (fun e => e.station != i)

/-- The entry of a station removed from the inrush list (R155). -/
def removeClaimOf (i : StationId) (s : State) : State :=
  s.setIcu { s.icu with list := dropStation i s.icu.list }

/-- An entry appended at the end, in place of any entry of its station (R152, R159). -/
def appendClaim (e : InrushEntry) (s : State) : State :=
  s.setIcu { s.icu with list := dropStation e.station s.icu.list ++ [e] }

/-- A claim made with the weight and the duration the record holds (R158, R164): a new number, the CLAIM
queued, QUEUED. -/
def makeClaim (s : State) : State :=
  let n := (s.icu.lastNumber + 1) % 256
  place (.claim n s.icu.weight s.icu.duration)
    (s.setIcu { s.icu with own := .queued, lastNumber := n, backoffDue := none })

/-- A claim request of the ZS (R158). -/
def requestClaim (weight duration : Nat) (s : State) : State :=
  makeClaim (s.setIcu { s.icu with weight := weight, duration := duration })

/-- The own CLAIM with number `n` has completed on the line at `tEnd` (R159). -/
def claimCompleted (n tEnd : Nat) (s : State) : State :=
  if s.icu.own = .queued ∧ n = s.icu.lastNumber then
    let expiry := tEnd + s.icu.duration * 1000
    let s1 := appendClaim { station := ownId s, number := n, weight := s.icu.weight, completion := tEnd,
                            expiry := expiry } s
    s1.setIcu { s1.icu with own := .settling, settleDue := some (tEnd + (cfg s).ts), settleError := false,
                            ownExpiry := some expiry }
  else s

/-- A receive error reported while the own claim is settling (R160). -/
def claimReceiveError (s : State) : State :=
  if s.icu.own = .settling then s.setIcu { s.icu with settleError := true } else s

/-- The weights of the entries ahead of the own entry, together with the own weight (R161). -/
def claimPrefixSum (s : State) : Nat :=
  ((s.icu.list.takeWhile (fun e => e.station != ownId s)).map (fun e => e.weight)).sum + s.icu.weight

/-- The verdict confirms (R161). -/
def verdictConfirms (s : State) : Bool :=
  !s.icu.settleError && decide (claimPrefixSum s ≤ (cfg s).b)

/-- A claim withdrawn at its settle (R163). -/
def withdrawAtSettle (s : State) : State :=
  let s1 := removeClaimOf (ownId s) s
  queueRelease s.icu.lastNumber .withdrawn
    (s1.setIcu { s1.icu with own := .backoff, settleDue := none, ownExpiry := none,
                             backoffDue := some (s.nodeTime + ((ownId s).val + 1) * (cfg s).bu) })

/-- The own claim record at NONE, every deadline of it cancelled (R167). -/
def claimNone (s : State) : State :=
  s.setIcu { s.icu with own := .none, settleDue := none, ownExpiry := none, backoffDue := none }

/-- A completed claim ended early: its entry removed, its RELEASE queued (R167). -/
def releaseClaim (reason : ReleaseReason) (s : State) : State :=
  queueRelease s.icu.lastNumber reason (claimNone (removeClaimOf (ownId s) s))

/-- A withdrawal handed by the ZS (R168). -/
def withdrawClaim (s : State) : State :=
  match s.icu.own with
  | .queued => queueRelease s.icu.lastNumber .withdrawn (claimNone s)
  | .settling => releaseClaim .withdrawn s
  | .backoff => claimNone s
  | .inForce => s
  | .none => s

/-- An abort handed by the ZS at a trip (R126, R169). -/
def abortClaim (s : State) : State :=
  match s.icu.own with
  | .queued => queueRelease s.icu.lastNumber .aborted (claimNone s)
  | .settling => releaseClaim .aborted s
  | .inForce => releaseClaim .aborted s
  | .backoff => claimNone s
  | .none => s

end Sys2Proof.Machine
end

