-- ==== Sys2Proof/Machine/Sequencer.lean ====
section
/-! DEFINITION. The Zone Sequencer: shutdown (Chapter 6), aftershock watch and pause causes (Chapter 7)
and restart (Chapter 9), with the hand-offs it takes from the other blocks. -/

namespace Sys2Proof.Machine

/-- The sequencer state changes; each change queues a STATUS (R115). -/
def enterState (st : SeqState) (s : State) : State :=
  if s.zs.st = st then s else queueStatus (s.setZs { s.zs with st := st })

/-- The hold Q(g) of a site grade, in seconds (R135). -/
def holdSeconds (c : NodeConfig) (g : Nat) : Nat :=
  match g with
  | 0 => c.q0
  | 1 => c.q1
  | 2 => c.q2
  | 3 => c.q3
  | _ => c.q4

/-- The hold end (R135). -/
def holdEnd (s : State) : Nat := s.zs.ta + holdSeconds (cfg s) s.zs.grade * 10000

/-! ## Beginning a restart stage (R174 to R178, R182) -/

/-- PAUSED with one cause, at the beginning of a restart stage (R174). -/
def pauseWith (c : Causes) (s : State) : State :=
  enterState .paused (s.setZs { s.zs with pause := c })

/-- A stage's channels commanded RUN (R178). -/
def runStage (r : Nat) (s : State) : State :=
  let named := shutInRestart r s
  let s1 := enterState .restarting s
  let s2 := s1.setZs { s1.zs with restartStage := some r, unconfMark := false,
                                  waiver := if s1.zs.waiver = some r then none else s1.zs.waiver }
  let s3 := stageCommand named .run s2
  s3.setZs { s3.zs with runPending := pendingSet named .run s3,
                        inrushDue := some (s.nodeTime + irOf (cfg s) r * 1000) }

/-- Completion of the restart (R182). -/
def completeRestart (s : State) : State :=
  rcpClose (enterState .running
    (s.setZs { s.zs with grade := 0, currentStage := 0, nextRestart := 1, checkedStage := none,
                         waiver := none }))

/-- The weight of restart stage `r`, clamped to B (R177). -/
def weightOfStage (r : Nat) (s : State) : Nat :=
  min (cfg s).b (((shutInRestart r s).map (fun c => (chanCfg s c).weight)).sum)

/-- Step 4 of a beginning: stage weight and claim (R177). -/
def beginClaim (r : Nat) (s : State) : State :=
  let w := weightOfStage r s
  let s1 := s.setZs { s.zs with stageWeight := w }
  if w = 0 then runStage r s1
  else if lineUsable s1 then
    requestClaim w (irOf (cfg s1) r) (enterState .claiming s1)
  else if w ≤ (cfg s1).a then runStage r s1
  else pauseWith { noCauses with line := true } s1

/-- Step 3 of a beginning: the pre-check (R176). -/
def beginPrecheck (r : Nat) (s : State) : State :=
  if s.zs.waiver = some r then beginClaim r s
  else if precheck r s then beginClaim r (s.setZs { s.zs with checkedStage := none })
  else pauseWith { noCauses with precheck := true } (s.setZs { s.zs with checkedStage := some r })

/-- Step 2 of a beginning: the lowest restart stage, no lower than the next restart stage, that has a
SHUT channel (R175). -/
def nextStageToRun (s : State) : Option Nat :=
  allStages.find? (fun r => decide (s.zs.nextRestart ≤ r) && !(shutInRestart r s).isEmpty)

/-- The beginning of a restart stage (R174, R175). The deadlines of the state it leaves are cancelled
(R135, R138, R181). -/
def beginStage (s : State) : State :=
  let s1 := s.setZs { s.zs with holdDue := none, startDue := none, restartGap := none, pause := noCauses }
  if s1.zs.consoleHold then pauseWith { noCauses with console := true } s1
  else if s1.zs.resetDue.isSome then pauseWith { noCauses with reset := true } s1
  else
    match nextStageToRun s1 with
    | some r => beginPrecheck r (s1.setZs { s1.zs with nextRestart := r })
    | none => completeRestart s1

/-- The last member leaving the pause-cause set begins a stage (R139). -/
def leavePause (s : State) : State :=
  if s.zs.st = .paused ∧ causesEmpty s.zs.pause = true then beginStage s else s

/-! ## The hold (R135, R136, R140) -/

/-- The hold deadline falls due: in WATCH the permission is read and otherwise a stage begins (R136); in
PAUSED the cause AFTERSHOCK is removed (R140). -/
def holdFalls (s : State) : State :=
  let s1 := s.setZs { s.zs with holdDue := none }
  match s1.zs.st with
  | .watch =>
    if (cfg s1).gpermit ≤ s1.zs.grade ∨ recordPermit s1 = true then enterState .awaitPermit s1
    else beginStage s1
  | .paused => leavePause (s1.setZs { s1.zs with pause := { s1.zs.pause with aftershock := false } })
  | .unconfigured => s1
  | .starting => s1
  | .running => s1
  | .shutting => s1
  | .awaitPermit => s1
  | .claiming => s1
  | .restarting => s1

/-- The hold deadline runs (R135). -/
def holdRuns (s : State) : Bool :=
  s.zs.st == .watch || (s.zs.st == .paused && s.zs.pause.aftershock)

/-- The hold end recomputed: a running deadline moves to it, and falls due at once when it is at or
before now (R135). -/
def recomputeHold (s : State) : State :=
  if holdRuns s then
    if holdEnd s ≤ s.nodeTime then holdFalls s
    else s.setZs { s.zs with holdDue := some (holdEnd s) }
  else s

/-- Entry to WATCH (R123, R136). -/
def enterWatch (s : State) : State :=
  recomputeHold (enterState .watch s)

/-- PAUSED entered with causes, or a cause added in PAUSED: an AFTERSHOCK among them starts the hold
(R135, R139). -/
def enterPaused (c : Causes) (s : State) : State :=
  recomputeHold (pauseWith c s)

/-! ## Shutdown (Chapter 6) -/

/-- A shutdown stage has channels (R119). -/
def stageHasChannels (s : State) (k : Nat) : Bool := !(shutdownChannels k s).isEmpty

/-- A stage begun: the stage in progress, whether it acted, the stage command and its pending set (R119). -/
def beginShutdownStage (k : Nat) (s : State) : State :=
  let named := shutdownChannels k s
  let s1 := s.setZs { s.zs with stage := some k, acted := named.any (hasCmd .run s) }
  let s2 := stageCommand named .shut s1
  s2.setZs { s2.zs with shutPending := pendingSet named .shut s2 }

/-- The shutdown stages of a list begun one after another as R121 lays down: a stage with a pending set
waits, a completed stage that acted is followed by the gap, one that did not act by the next at once, and
the last one by WATCH. -/
def runShutdown : List Nat → State → State
  | [], s => enterWatch s
  | k :: ks, s =>
    if stageHasChannels s k then
      let s1 := beginShutdownStage k s
      if s1.zs.shutPending.isEmpty then
        let s2 := s1.setZs { s1.zs with currentStage := k, stage := none }
        if s2.zs.acted ∧ ks.any (stageHasChannels s2) = true then
          s2.setZs { s2.zs with gapDue := some (s2.nodeTime + (cfg s2).shutdownGap * 1000) }
        else runShutdown ks s2
      else s1
    else runShutdown ks s

/-- The shutdown stages after stage `k`. -/
def stagesAfter (k : Nat) : List Nat := allStages.filter (fun j => decide (k < j))

/-- The stage in progress is complete at the report that empties its pending set (R121). -/
def completeShutdownStage (k : Nat) (s : State) : State :=
  let s2 := s.setZs { s.zs with currentStage := k, stage := none }
  if s2.zs.acted ∧ (stagesAfter k).any (stageHasChannels s2) = true then
    s2.setZs { s2.zs with gapDue := some (s2.nodeTime + (cfg s2).shutdownGap * 1000) }
  else runShutdown (stagesAfter k) s2

/-- A shutdown start (R118), with the restart fields it clears (R139, R142, R173). -/
def shutdownStart (s : State) : State :=
  let s1 := enterState .shutting s
  runShutdown allStages
    (s1.setZs { s1.zs with
      currentStage := 0, nextRestart := 1, shutPending := [], stage := none, pause := noCauses,
      held := noCauses, gapDue := none, holdDue := none, startDue := none, restartGap := none,
      runPending := [], unconfMark := false, waiver := none, inrushDue := none, restartStage := none })

/-- The abort of a restart (R125): the stage in hand is abandoned and the ICU handed an abort. -/
def abortRestart (s : State) : State :=
  abortClaim (s.setZs { s.zs with restartStage := none, runPending := [], inrushDue := none,
                                  restartGap := none, startDue := none })

/-- The effect of a trip on the zone, by state (R117, R124). -/
def tripEffect (s : State) : State :=
  match s.zs.st with
  | .unconfigured => s
  | .starting => shutdownStart s
  | .running => shutdownStart s
  | .shutting => s
  | .watch => shutdownStart s
  | .awaitPermit => shutdownStart s
  | .claiming => shutdownStart (abortRestart s)
  | .restarting => shutdownStart (abortRestart s)
  | .paused => shutdownStart (abortRestart s)

/-- A trip handed to the ZS: Ta and the site grade first, then its effect (R90, R117, R131, R133). -/
def zsTrip (grade : Nat) (s : State) : State :=
  if s.zs.st = .unconfigured then s
  else tripEffect (s.setZs { s.zs with ta := max s.zs.ta s.nodeTime, grade := max s.zs.grade grade })

/-! ## Activity (R131 to R133, R145) -/

/-- The start wait recomputed (R138). -/
def recomputeStart (s : State) : State :=
  s.setZs { s.zs with startDue := some (max s.zs.startFloor (s.zs.ta + (cfg s).q0 * 10000)) }

/-- Steps 1 and 2 of an activity report: Ta, and the grade offered while a record is open (R132, R133). -/
def takeActivity (time offer : Nat) (s : State) : State :=
  let s1 := s.setZs { s.zs with ta := max s.zs.ta time }
  if recordOpen s1 = true ∧ s1.zs.grade < offer then
    rcpRaise offer (s1.setZs { s1.zs with grade := offer })
  else s1

/-- Step 4 of an activity report: its effect in the present state (R132, R137, R138, R145). -/
def activityEffect (aftershock : Bool) (s : State) : State :=
  match s.zs.st with
  | .starting => recomputeStart s
  | .awaitPermit => enterWatch s
  | .claiming =>
    if aftershock then enterPaused { noCauses with aftershock := true } (withdrawClaim s) else s
  | .restarting =>
    if aftershock then
      if s.zs.restartStage.isSome then s.setZs { s.zs with held := { s.zs.held with aftershock := true } }
      else enterPaused { noCauses with aftershock := true } (s.setZs { s.zs with restartGap := none })
    else s
  | .paused => if aftershock then enterPaused { s.zs.pause with aftershock := true } s else s
  | .watch => s
  | .running => s
  | .shutting => s
  | .unconfigured => s

/-- An activity report (R132). `offer` is the grade offered, 0 when none is. -/
def activity (time offer : Nat) (aftershock : Bool) (s : State) : State :=
  if s.zs.st = .unconfigured then s
  else
    let s1 := takeActivity time offer s
    let s2 := if s1.zs.ta = s.zs.ta ∧ s1.zs.grade = s.zs.grade then s1 else recomputeHold s1
    activityEffect aftershock s2

/-! ## The end of a restart stage (R146, R180, R181) -/

/-- The held-back causes that a stage end takes up (R146, R181). -/
def causesAtStageEnd (s : State) : Causes :=
  { s.zs.held with
    aftershock := s.zs.held.aftershock && decide (s.nodeTime < holdEnd s)
    reset := s.zs.held.reset && s.zs.resetDue.isSome && !due s.zs.resetDue s
    channel := s.zs.held.channel || s.zs.unconfMark }

/-- The end of restart stage `r` (R181). -/
def endRestartStage (r : Nat) (s : State) : State :=
  let causes := causesAtStageEnd s
  let s1 := s.setZs { s.zs with restartStage := none, nextRestart := r + 1, held := noCauses,
                                inrushDue := none }
  if causesEmpty causes then
    s1.setZs { s1.zs with restartGap := some (s1.nodeTime + (cfg s1).restartGap * 1000) }
  else enterPaused causes s1

/-- A restart stage in progress ends when its pending set is empty and its inrush deadline has fallen due
(R180). -/
def endIfOver (s : State) : State :=
  match s.zs.restartStage with
  | some r => if s.zs.runPending.isEmpty ∧ s.zs.inrushDue = none then endRestartStage r s else s
  | none => s

/-- A report that a channel has left PENDING, taken by a shutdown stage in progress (R120, R121). -/
def shutdownReport (c : Channel) (s : State) : State :=
  match s.zs.stage with
  | some k =>
    if c ∈ s.zs.shutPending then
      let s1 := s.setZs { s.zs with shutPending := s.zs.shutPending.filter (fun d => d != c) }
      if s1.zs.shutPending.isEmpty then completeShutdownStage k s1 else s1
    else s
  | none => s

/-- A report that a channel has left PENDING, taken by a restart stage in progress (R179, R180). -/
def restartReport (c : Channel) (unconfirmed : Bool) (s : State) : State :=
  match s.zs.restartStage with
  | some _ =>
    if c ∈ s.zs.runPending then
      endIfOver (s.setZs { s.zs with runPending := s.zs.runPending.filter (fun d => d != c),
                                     unconfMark := s.zs.unconfMark || unconfirmed })
    else s
  | none => s

/-- A report from the Channel Driver that a channel has left PENDING (R120, R179). -/
def leftPending (c : Channel) (unconfirmed : Bool) (s : State) : State :=
  match s.zs.st with
  | .shutting => shutdownReport c s
  | .restarting => restartReport c unconfirmed s
  | .unconfigured => s
  | .starting => s
  | .running => s
  | .watch => s
  | .awaitPermit => s
  | .claiming => s
  | .paused => s

/-- A pre-check result that has changed from `before` to passing removes PRECHECK while that stage is the
checked stage (R142). -/
def precheckReport (before : Bool) (s : State) : State :=
  match s.zs.checkedStage with
  | some r =>
    if s.zs.st = .paused ∧ s.zs.pause.precheck = true ∧ before = false ∧ precheck r s = true then
      leavePause (s.setZs { s.zs with pause := { s.zs.pause with precheck := false } })
    else s
  | none => s

/-- The pre-check result of the checked stage, passing when there is none. -/
def checkedPasses (s : State) : Bool :=
  match s.zs.checkedStage with
  | some r => precheck r s
  | none => true

/-! ## The line, the console and the confirmation (R141, R143, R148, R161, R170) -/

/-- The line has become unusable while CLAIMING: the stage is re-decided (R170). -/
def redecideStage (s : State) : State :=
  let s1 := withdrawClaim s
  if s1.zs.stageWeight ≤ (cfg s1).a then runStage s1.zs.nextRestart s1
  else pauseWith { noCauses with line := true } s1

/-- The HM's hand-off of a change of the line, `before` being whether it was usable (R143, R170, R210). -/
def lineChange (before : Bool) (s : State) : State :=
  if before = lineUsable s then s
  else if before then (if s.zs.st = .claiming then redecideStage s else s)
  else if s.zs.st = .paused ∧ s.zs.pause.line = true then
    leavePause (s.setZs { s.zs with pause := { s.zs.pause with line := false } })
  else s

/-- A raising of a line fault, handed to the ZS (R143, R210). -/
def raiseLineFault (f : FaultId) (s : State) : State := lineChange (lineUsable s) (raiseFault f s)

/-- A clearing of a line fault, handed to the ZS (R143, R210). -/
def clearLineFault (f : FaultId) (s : State) : State := lineChange (lineUsable s) (clearFault f s)

/-- HOLD at the ZS (R148). -/
def zsHold (s : State) : State :=
  let s1 := s.setZs { s.zs with consoleHold := true }
  match s1.zs.st with
  | .claiming => enterPaused { noCauses with console := true } (withdrawClaim s1)
  | .restarting =>
    if s1.zs.restartStage.isSome then s1.setZs { s1.zs with held := { s1.zs.held with console := true } }
    else enterPaused { noCauses with console := true } (s1.setZs { s1.zs with restartGap := none })
  | .paused => s1.setZs { s1.zs with pause := { s1.zs.pause with console := true } }
  | .unconfigured => s1
  | .starting => s1
  | .running => s1
  | .shutting => s1
  | .watch => s1
  | .awaitPermit => s1

/-- A set of causes without those that RESUME removes (R141). -/
def afterResume (c : Causes) : Causes := { c with console := false, channel := false, precheck := false }

/-- RESUME at the ZS (R141). -/
def zsResume (s : State) : State :=
  leavePause (s.setZs { s.zs with
    consoleHold := false, pause := afterResume s.zs.pause, held := afterResume s.zs.held,
    waiver := if s.zs.pause.precheck || s.zs.held.precheck then s.zs.checkedStage else s.zs.waiver })

/-- The ICU's confirmation handed to the ZS (R161, R177). -/
def zsConfirm (s : State) : State :=
  if s.zs.st = .claiming then runStage s.zs.nextRestart s else s

end Sys2Proof.Machine
end

