-- ==== Sys2Proof/Machine/Vote.lean ====
section
/-! DEFINITION. The Vote and Trip Unit (Chapter 4): the vote count, arming, the trip in ARMED and in
LISTEN mode, and the Trip Wire. -/

namespace Sys2Proof.Machine

/-- The re-arm deadline has been reached, or there has been no trip since cold reset (R84). -/
def rearmReached (s : State) : Bool :=
  match s.vtu.rearmDue with
  | some d => decide (d ≤ s.nodeTime)
  | none => true

/-- An own event is in progress whose grade is Gsolo or more (R84). -/
def ownAtSolo (s : State) : Bool := s.mp.inProgress && decide ((cfg s).gsolo ≤ s.mp.grade)

/-- The wire counts as released for arming (R82, R84). -/
def wireQuiet (s : State) : Bool := s.vtu.wire == .released || s.vtu.wire == .stuck

/-- The conditions of an arming evaluation (R84). -/
def mayArm (s : State) : Bool :=
  decide (s.vtu.votes < (cfg s).k) && !ownAtSolo s && wireQuiet s && rearmReached s

/-- An arming evaluation (R84). The VTU of a node that is UNCONFIGURED or not running takes none (R85). -/
def armingEval (s : State) : State :=
  if working s && !s.vtu.armed && mayArm s then s.setVtu { s.vtu with armed := true } else s

/-- The largest grade among the counted entries (R87). -/
def countedGrade (s : State) : Nat :=
  (countedSet s).foldl (fun g i => max g (((peer s i).observation.map (fun o => o.grade)).getD 0)) 0

/-- The trip grade (R87); `frameGrade` is the site grade of a received TRIP, 0 for every other cause. -/
def tripGrade (frameGrade : Nat) (s : State) : Nat :=
  max (max s.zs.grade (if s.mp.inProgress then s.mp.grade else 0)) (max (countedGrade s) frameGrade)

/-- The flag cleared and the trip time taken (R83). -/
def disarm (s : State) : State :=
  s.setVtu { s.vtu with armed := false, lastTrip := some s.nodeTime,
                        rearmDue := some (s.nodeTime + (cfg s).hw) }

/-- The wire drive started (R89). -/
def startDrive (s : State) : State :=
  s.setVtu { s.vtu with driving := true, driveDue := some (s.nodeTime + (cfg s).hw) }

/-- A close that still waits when the trip request of its node time has been taken: it is void, and the grade
that it hands the ZS moves a hold (R135, R196). -/
def settleClose (s : State) : State :=
  if s.rcp.closeWaits then recomputeHold (takeWaitingClose s) else s

/-- A trip in ARMED mode (R86 to R91). The hand-offs to the ZS and the RCP need no order. -/
def tripArmed (own origin : Cause) (votes frameGrade : Nat) (s : State) : State :=
  let g := tripGrade frameGrade s
  let stations := countedSet s
  let s1 := place (.trip own origin votes g s.nodeTime) (disarm s)
  let s2 := if own = .wire then s1 else startDrive s1
  settleClose
    (inEitherOrder (drawOrder s2) (zsTrip g) (rcpTrip own origin votes g stations) (drawn s2))

/-- A trip in LISTEN mode (R94). -/
def tripListen (s : State) : State :=
  let s1 := disarm s
  s1.setVtu { s1.vtu with wouldTrip := min 255 (s1.vtu.wouldTrip + 1) }

/-- A trip occasion (R83, R86, R94). One that finds the flag clear is no trip, and a node that is
UNCONFIGURED or not running takes none (R85). -/
def tripOccasion (own origin : Cause) (votes frameGrade : Nat) (s : State) : State :=
  if working s && s.vtu.armed then
    match s.hm.mode with
    | .armed => tripArmed own origin votes frameGrade s
    | .listen => tripListen s
  else s

/-- The vote test (R75, R76): V taken from the counted set, then a VOTE trip or an arming evaluation. -/
def voteTest (s : State) : State :=
  if working s then
    let v := (countedSet s).length
    let s1 := s.setVtu { s.vtu with votes := v }
    if (cfg s).k ≤ v then tripOccasion .vote .vote v 0 s1 else armingEval s1
  else s

/-- The solo test (R77). -/
def soloTest (s : State) : State :=
  if ownAtSolo s then tripOccasion .solo .solo 0 0 s else s

/-- A start or an end of the exclusion of own observations, `before` being what held before (R70, R73). -/
def followExclusion (before : Bool) (s : State) : State :=
  if before = excluded s then s else voteTest (refreshOwnWindow s)

/-- A permit request made when a TRIP of CONSOLE origin arrives and has no trip effect in ARMED mode, or
at every such arrival in LISTEN mode (R93, R94). With no record open the request is not made, which the
RCP's own condition says. -/
def permitRequest (tripped : Bool) (origin : Cause) (s : State) : State :=
  if origin = .console ∧ (tripped = false ∨ s.hm.mode = .listen) then rcpPermit s else s

/-- A TRIP arrival at the VTU (R78, R92). -/
def vtuTripArrival (p : TripPayload) (s : State) : State :=
  permitRequest s.vtu.armed p.origin (tripOccasion .frame p.origin 0 p.grade s)

/-- The sensed state of the wire goes to RISING, both deadlines measured from now (R80). -/
def wireRises (s : State) : State :=
  s.setVtu { s.vtu with wire := .rising, confirmDue := some (s.nodeTime + 20),
                        stuckDue := some (s.nodeTime + 100000) }

/-- The sensed state taken from the level at the end of a reset (R85, R96). -/
def senseWire (s : State) : State :=
  if s.pins.wireAsserted then wireRises s
  else s.setVtu { s.vtu with wire := .released, confirmDue := none, stuckDue := none }

/-- A release edge (R80, R82). The wire entering RELEASED is an arming occasion, from whichever state
(R84). R80 gives no order between a release edge and a confirm or stuck deadline of the same node time. They
are taken as they come, and an edge that comes first cancels the deadline that stands due, which is the
model's choice (notes/assumptions/35.md). -/
def wireReleases (s : State) : State :=
  let s1 := s.setVtu { s.vtu with wire := .released, confirmDue := none, stuckDue := none }
  armingEval (if s.vtu.wire = .stuck then clearFault .wireStuck s1 else s1)

end Sys2Proof.Machine
end

