-- ==== Sys2Proof/Machine/Motion.lean ====
section
/-! DEFINITION. The Motion Processor (Chapter 1): samples by detector state, own reports, the self-test,
and missing samples. -/

namespace Sys2Proof.Machine

/-! ## Reports (R22, R23) -/

/-- The phase of the own event record for a report's phase (R22). -/
def ownPhaseOf : ReportPhase → OwnPhase
  | .onset => .onset | .strong => .strong | .update => .update | .ended => .ended

/-- What a report hands the VTU: the counted set, then the new grade if it was raised (R76, R77). -/
def reportToVtu (raised : Bool) (s : State) : State :=
  if raised then soloTest (voteTest s) else voteTest s

/-- A report handed on (R23): the own entry, the OBSERVE, then the VTU and the ZS in either order. The ZS
takes the sample's time, the onset or END, and the new grade as one event (R132). -/
def handReport (phase : ReportPhase) (raised aftershock : Bool) (s : State) : State :=
  let m := s.mp
  let s1 := storeObservation (ownId s)
    { event := m.event, phase := phase, onset := some m.onsetTime, peak := m.pmg, grade := m.grade } s
  let s2 := if s1.hm.mode = .armed ∧ excluded s1 = false then
      place (.observe m.event phase m.onsetTime m.pmg m.grade) s1 else s1
  inEitherOrder (drawOrder s2) (reportToVtu raised)
    (activity s2.nodeTime (if raised then m.grade else 0) aftershock) (drawn s2)

/-- A report issued: the own event record takes its phase, and a STRONG sets strong-reached (R22). -/
def issueReport (phase : ReportPhase) (raised aftershock : Bool) (s : State) : State :=
  handReport phase raised aftershock
    (s.setMp { s.mp with phase := ownPhaseOf phase, strongReached := s.mp.strongReached || phase == .strong })

/-- The own event ends with an END report, the detector entering `next` (R21). `raised` says that step 8
raised the grade on the ending sample. -/
def endEvent (next : DetState) (raised : Bool) (s : State) : State :=
  issueReport .ended raised false (s.setMp { s.mp with det := next, inProgress := false })

/-! ## Self-test (R25 to R28) -/

/-- A self-test can start (R25). -/
def canTest (s : State) : Bool :=
  s.mp.det == .quiet ||
    (s.mp.det == .idle && active .selftestFail s && !active .sensorLost s && configured s)

/-- A self-test starts (R25). -/
def startTest (s : State) : State :=
  s.setMp { s.mp with testFromIdle := s.mp.det == .idle, det := .masked, deflection := true,
                      testPart := .measuring, testCount := 0, testSum := 0, settleCount := 0 }

/-- The self-test due time T hours from now; none when T is 0 (R25). -/
def nextTestDue (s : State) : Option Nat :=
  if (cfg s).testHours = 0 then none else some (s.nodeTime + (cfg s).testHours * 36000000)

/-- A self-test is in its measuring samples. -/
def measuring (s : State) : Bool := s.mp.det == .masked && s.mp.testPart == .measuring

/-- An abort arrival at the MP (R28). -/
def abortTest (s : State) : State :=
  if measuring s then
    noticeAborted (s.setMp { s.mp with deflection := false, testPart := .aborted, settleCount := 0 })
  else s

/-- A self-test ends by sensor loss (R6, R27, R28): a measuring test is aborted with its notice, and the
due time is set (R25). -/
def endTestByLoss (s : State) : State :=
  let s1 := abortTest s
  s1.setMp { s1.mp with testDue := nextTestDue s1 }

/-- The verdict at measuring sample 40 (R26). -/
def takeVerdict (s : State) : State :=
  let mean := s.mp.testSum / 20
  let pass := decide (((cfg s).dmin : Int) ≤ mean) && decide (mean ≤ ((cfg s).dmax : Int))
  let s1 := s.setMp { s.mp with deflection := false, settleCount := 0,
                                testPart := if pass then .passed else .failed }
  followExclusion (excluded s) (followFault .selftestFail (!pass) s1)

/-- A measuring sample (R26): the baselines stand still. -/
def measureSample (p : Sample) (s : State) : State :=
  let n := s.mp.testCount + 1
  let s1 := s.setMp { s.mp with
    testCount := n,
    testSum := if 20 < n then s.mp.testSum + sampleAz p s.mp else s.mp.testSum }
  if n = 40 then takeVerdict s1 else s1

/-- The detector leaves MASKED after the 400th settle sample, of amplitude `u` (the table of R27). -/
def endSettle (u : Nat) (s : State) : State :=
  let quiet := { s.mp with det := .quiet, sta := 16 * (u : Int), lta := 16 * (u : Int) }
  let m :=
    match s.mp.testPart, s.mp.testFromIdle with
    | .passed, false => quiet
    | .passed, true => { s.mp with det := .warmup, warmupCount := 0 }
    | .failed, _ => { s.mp with det := .idle }
    | .aborted, false => quiet
    | .aborted, true => { s.mp with det := .idle }
    | .measuring, _ => s.mp
  s.setMp { m with testDue := nextTestDue s }

/-- A settle sample (R27). -/
def settleSample (p : Sample) (s : State) : State :=
  let n := s.mp.settleCount + 1
  let s1 := s.setMp { updateBaselines p s.mp with settleCount := n }
  if n = 400 then endSettle (sampleU p s.mp) s1 else s1

/-! ## Samples by detector state (R8) -/

/-- A sample in IDLE: steps 1 and 2 (R18). -/
def idleSample (p : Sample) (s : State) : State := s.setMp (updateBaselines p s.mp)

/-- A sample in WARMUP (R19): the first seeds the baselines, S and L. -/
def warmupSample (p : Sample) (s : State) : State :=
  let first := s.mp.warmupCount == 0
  let m := if first then seedBaselines p s.mp else s.mp
  let u := sampleU p m
  let n := s.mp.warmupCount + 1
  s.setMp { updateBaselines p m with
    sta := if first then 16 * (u : Int) else average (cfg s).ks u m.sta
    lta := if first then 16 * (u : Int) else average (cfg s).kl u m.lta
    warmupCount := n
    det := if n = 2 ^ (cfg s).kl then .quiet else .warmup }

/-- The own event opened by an onset sample (R17, R20). -/
def openEvent (h u : Nat) (sta : Int) (p : Sample) (s : State) : State :=
  let m := { updateBaselines p s.mp with
    sta := sta, event := (s.mp.event + 1) % 256, onsetTime := s.nodeTime, endHold := 0, det := .event,
    inProgress := true, strongReached := false }
  let s1 := s.setMp (addFigures (cfg s) s.rcp.range16 h u (zeroFigures m))
  issueReport (if (cfg s).gs ≤ s1.mp.grade then .strong else .onset) true true s1

/-- A sample in QUIET (R14, R16, R20). -/
def quietSample (p : Sample) (s : State) : State :=
  let u := sampleU p s.mp
  let sta := average (cfg s).ks u s.mp.sta
  if onsetTest (cfg s).onsetRatio (cfg s).lmin sta s.mp.lta then
    openEvent (sampleH p s.mp) u sta p s
  else
    s.setMp { updateBaselines p s.mp with sta := sta, lta := average (cfg s).kl u s.mp.lta }

/-- What an EVENT sample that does not end the event reports (R22, R24). -/
def reportWithin (raised : Bool) (s : State) : State :=
  if raised then
    issueReport (if (cfg s).gs ≤ s.mp.grade ∧ s.mp.strongReached = false then .strong else .update)
      true false s
  else activity s.nodeTime 0 false s

/-- A sample in EVENT (R15, R17, R21, R24). -/
def eventSample (p : Sample) (s : State) : State :=
  let c := cfg s
  let h := sampleH p s.mp
  let u := sampleU p s.mp
  let sta := average c.ks u s.mp.sta
  let held := if quietTest c.endRatio c.lmin sta s.mp.lta then s.mp.endHold + 1 else 0
  let byQuiet := decide (c.endHold ≤ held)
  let byLength := decide (c.emax * 10000 ≤ s.nodeTime - s.mp.onsetTime)
  let m := { updateBaselines p s.mp with sta := sta, endHold := held,
                                         lta := if byLength then sta else s.mp.lta }
  let s1 := s.setMp (addFigures c s.rcp.range16 h u m)
  let raised := decide (s.mp.grade < s1.mp.grade)
  if byQuiet || byLength then endEvent .quiet raised s1 else reportWithin raised s1

/-- A sample in MASKED (R26, R27). -/
def maskedSample (p : Sample) (s : State) : State :=
  if s.mp.testPart = .measuring then measureSample p s else settleSample p s

/-- A sample in the detector state current at its arrival (R8). -/
def pipeline (p : Sample) (s : State) : State :=
  match s.mp.det with
  | .idle => idleSample p s
  | .warmup => warmupSample p s
  | .quiet => quietSample p s
  | .event => eventSample p s
  | .masked => maskedSample p s

/-! ## Sensor loss and recovery (R5 to R7) -/

/-- The detector starts to watch again after SENSOR-LOST clears (R7). Before step 7 of the cold start it
stays IDLE (R187). -/
def afterRecovery (s : State) : State :=
  if working s && !active .selftestFail s then s.setMp { s.mp with det := .warmup, warmupCount := 0 } else s

/-- The recovery count at a processed sample (R7). -/
def countRecovery (s : State) : State :=
  if active .sensorLost s then
    if s.mp.recovery + 1 = 400 then
      afterRecovery (followExclusion (excluded s) (clearFault .sensorLost (s.setMp { s.mp with recovery := 0 })))
    else s.setMp { s.mp with recovery := s.mp.recovery + 1 }
  else s

/-- A data-ready arrival (R4). -/
def processSample (x y z : RawCount) (s : State) : State :=
  countRecovery (pipeline (sampleOf x y z)
    (s.setMp { s.mp with missingCount := 0, missingDue := some (s.nodeTime + 100) }))

/-- SENSOR-LOST is raised (R6). -/
def loseSensor (s : State) : State :=
  let s1 := if s.mp.det = .event then endEvent .event false s else s
  let s2 := if s1.mp.det = .masked then endTestByLoss s1 else s1
  followExclusion (excluded s2)
    (raiseFault .sensorLost (s2.setMp { s2.mp with recovery := 0, det := .idle }))

/-- One missing sample counted (R5). -/
def countMissing (s : State) : State :=
  let n := min 40 (s.mp.missingCount + 1)
  let s1 := s.setMp { s.mp with missingCount := n, recovery := 0,
                                missingDue := s.mp.missingDue.map (fun d => d + 50) }
  if n = 40 ∧ s.mp.missingCount ≠ 40 then loseSensor s1 else s1

end Sys2Proof.Machine
end

