-- ==== Sys2Proof/Machine/Line.lean ====
section
/-! DEFINITION. The Site Line Controller as it follows the line (Chapter 2): line states, the error
score, suppression and isolation, sending, arrival, and the delivery of frames by class (R41). -/

namespace Sys2Proof.Machine

/-- The line state changes (R31). -/
def setLine (l : LineState) (s : State) : State := s.setSlc { s.slc with line := l }

/-! ## The line error score (R39, R40) -/

/-- The score falls by 1, and suppression ends at 64 or below (R39, R40). -/
def scoreDown (s : State) : State :=
  let s1 := s.setSlc { s.slc with score := s.slc.score - 1 }
  if suppressed s1 ∧ s1.slc.score ≤ 64 then clearLineFault .lineSuppressed s1 else s1

/-- An error of a kind: the score rises by 8, and suppression begins at 128 or more (R37 to R40). -/
def scoreUp (kind : ErrKind) (s : State) : State :=
  let s1 := s.setSlc { s.slc with score := min 255 (s.slc.score + 8), lastError := kind }
  if suppressed s1 = false ∧ 128 ≤ s1.slc.score then raiseLineFault .lineSuppressed s1 else s1

/-- The line is heard at now (R45). A heard deadline that stands due and is not yet taken moves too, which is
the model's choice (notes/assumptions/35.md). -/
def hearLine (s : State) : State :=
  let s1 := s.setSlc { s.slc with lastHeard := s.nodeTime, heardDue := some (s.nodeTime + threePs s) }
  if active .lineIsolated s1 then clearLineFault .lineIsolated s1 else s1

/-! ## Sending (R35, R38, R43, R47) -/

/-- The frame that an entry puts on the line at a SOF stamped now (R32, R47). -/
def copyOf (e : TxEntry) (s : State) : Frame := { sender := ownId s, body := bodyAt s.nodeTime e s }

/-- An attempt starts with an entry (R47). -/
def sendEntry (e : TxEntry) (s : State) : State :=
  s.setSlc { s.slc with
    line := .sending, tSof := s.nodeTime,
    inFlight := some { copy := copyOf e s, tSof := s.nodeTime, fate := .unchanged, releaseTied := false } }

/-- A SOF may start: the line is idle and the node is not suppressed (R31, R40). -/
def maySend (s : State) : Bool := running s && s.slc.line == .idle && !suppressed s

/-- The first entry of the queue is sent, if a SOF may start (R31, R47). -/
def transmitStart (s : State) : State :=
  if maySend s then
    match s.slc.queue with
    | e :: _ => sendEntry e s
    | [] => s
  else s

/-- A completion is reported to the ICU if the frame is an own CLAIM (R43, R159). -/
def reportCompletion (a : Option Attempt) (s : State) : State :=
  match a with
  | some t =>
    match t.copy.body with
    | .claim p => claimCompleted p.number s.nodeTime s
    | .trip _ => s
    | .observe _ => s
    | .release _ => s
    | .command _ _ => s
    | .status _ => s
  | none => s

/-- An own frame completes (R43). -/
def frameCompleted (s : State) : State :=
  if s.slc.line = .sending then
    let s1 := scoreDown (s.setSlc { s.slc with line := .counting, tEnd := s.nodeTime })
    reportCompletion s1.slc.inFlight (completeAttempt s1)
  else s

/-- A BIT error of the own sending (R38). -/
def bitError (s : State) : State :=
  if s.slc.line = .sending then scoreUp .bit (setLine .seeking (failAttempt s)) else s

/-- Lost arbitration (R35): the SOF stamp is kept. -/
def arbitrationLost (s : State) : State :=
  if s.slc.line = .sending then setLine .receiving (failAttempt s) else s

/-! ## Arrival (R37, R41, R44) -/

/-- A receive error (R37). Before step 8 it only moves the line state (R187). -/
def takeReceiveError (kind : RxError) (s : State) : State :=
  let s1 := setLine .seeking s
  if running s1 then claimReceiveError (scoreUp (rxErrKind kind) s1) else s1

/-- A conflicting frame (R44). -/
def takeConflict (s : State) : State :=
  raiseFault .idConflict (s.setSlc { s.slc with conflictDue := some (s.slc.tEnd + threePs s) })

/-- A valid frame arrives (R41): score, heard mark, then a conflict, or presence and delivery by class,
which an UNCONFIGURED node does not make. That the score falls first is the model's choice
(notes/assumptions/19.md). -/
def takeFrame (sender : StationId) (deliver : State → State) (s : State) : State :=
  let s1 := hearLine (scoreDown s)
  if sender = ownId s1 then takeConflict s1
  else
    let s2 := presenceUpdate sender s1.slc.tEnd s1
    if configured s2 then deliver s2 else s2

/-- A frame whose CRC matched and whose delimiter was recessive ends at now. A payload field outside its
range is a FORM error (R37). Before step 8 it only moves the line state (R187). -/
def arrive (inRange : Bool) (sender : StationId) (deliver : State → State) (s : State) : State :=
  if lineUp s && s.slc.line == .receiving then
    if inRange then
      let s1 := s.setSlc { s.slc with line := .counting, tEnd := s.nodeTime }
      if running s1 then takeFrame sender deliver s1 else s1
    else takeReceiveError .form s
  else s

/-! ## Delivery by class (R41) -/

/-- A TRIP delivered to the VTU, which hands it to the MP, and to the ZS (R78, R131). -/
def deliverTrip (p : TripPayload) (s : State) : State :=
  let s1 := abortTest s
  inEitherOrder (drawOrder s1) (vtuTripArrival p) (activity s1.slc.tEnd p.grade false) (drawn s1)

/-- A phase that makes an OBSERVE arrival an aftershock and an abort arrival (R28, R145). -/
def freshPhase : ReportPhase → Bool
  | .onset => true | .strong => true | .update => false | .ended => false

/-- An OBSERVE delivered to the PV and handed on to the MP, the VTU and the ZS (R64 to R68). -/
def deliverObserve (sender : StationId) (p : ObservePayload) (s : State) : State :=
  let s1 := storeObservation sender
    { event := p.event, phase := p.phase, onset := reconstructOnset s.slc.tSof p.age (cfg s).lc,
      peak := p.peak, grade := p.grade } s
  let s2 := if freshPhase p.phase then abortTest s1 else s1
  inEitherOrder (drawOrder s2) voteTest (activity s2.slc.tEnd p.grade (freshPhase p.phase)) (drawn s2)

/-- A CLAIM delivered to the ICU (R152). -/
def deliverClaim (sender : StationId) (p : ClaimPayload) (s : State) : State :=
  appendClaim { station := sender, number := p.number, weight := p.weight, completion := s.slc.tEnd,
                expiry := s.slc.tEnd + p.duration * 1000 } s

/-- A RELEASE delivered to the ICU (R153). -/
def deliverRelease (sender : StationId) (p : ReleasePayload) (s : State) : State :=
  s.setIcu { s.icu with
    list := s.icu.list.filter (fun e => !(e.station == sender && e.number == p.number)) }

/-- A STATUS delivered to the PV (R61). -/
def deliverStatus (sender : StationId) (p : StatusPayload) (s : State) : State :=
  storeSummary sender p.sequencer p.digest s

/-! ## Commands (R200, R201) -/

/-- The last command code and result (R201). -/
def recordResult (code : Nat) (r : CmdResult) (s : State) : State :=
  s.setHm { s.hm with lastCode := code, lastResult := r }

/-- A COMMAND delivered to the HM (R200): for this node or for all, and from the console set or refused. -/
def deliverCommand (code : Nat) (sender : StationId) (p : CommandPayload)
    (effect : State → CmdResult × State) (s : State) : State :=
  if p.target = 255 ∨ p.target = (ownId s).val then
    if inConsoleSet s sender then recordResult code (effect s).1 (effect s).2
    else recordResult code .refused s
  else s

/-- A COMMAND frame arrives with one of the codes (R200). -/
def commandArrives (code : Nat) (inRange : Bool) (sender : StationId) (p : CommandPayload)
    (effect : State → CmdResult × State) (s : State) : State :=
  arrive inRange sender (deliverCommand code sender p effect) s

end Sys2Proof.Machine
end

