-- ==== Sys2Proof/Machine/Start.lean ====
section
/-! DEFINITION. The cold-start sequence (section 10.2) and the warm reset of every block (R29, R55, R74,
R96, R114, R129, R149, R150, R172, R184, R199, R214). -/

namespace Sys2Proof.Machine

/-! ## Cold start -/

/-- Steps 1 and 2 (R2, R3, R186, R187): every block at its cold-reset value, the straps held, the sensor
checked and set up, and the image read begun. -/
def coldReset (id : StationId) (range16 : Bool) (identity : Byte) (s : State) : State :=
  let s1 : State :=
    { State.reset with
      pins := s.pins, draws := s.draws, pending := s.pending, phase := .readImage
      rcp := { RecordState.reset with stationId := id, range16 := range16, readDue := some 200 }
      mp := { MotionState.reset with sensorRange16 := range16, sensorRate200 := true, sensorDrdy := true } }
  if identity = 0x5C#8 then s1 else raiseFault .sensorLost s1

/-- Step 3, with the configuration of a valid image or none (R189, R190): the SLC starts with its bit
timing, and the record read begins. -/
def takeImage (c : Option NodeConfig) (digest : Nat) (s : State) : State :=
  let s1 := (s.setRcp { s.rcp with config := c, digest := digest, readRetry := false,
                                   readDue := some (s.nodeTime + 200) }).setPhase .readRecord
  let s2 := s1.setSlc { s1.slc with timing := (cfg s1).timing, line := .seeking }
  if c.isSome then s2 else raiseFault .configBad s2

/-- Step 4 (R194): the RAM copy formed; none is a lost record. -/
def takeRecord (r : Option TripRecord) (s : State) : State :=
  let s1 := s.setRcp { s.rcp with record := r.getD lostRecord, readRetry := false, readDue := none,
                                  closeWaits := false }
  if r.isSome then s1 else raiseFault .recordLost s1

/-- The highest shutdown stage that has channels, 0 if none has (R116). -/
def highestStage (s : State) : Nat := (allStages.filter (stageHasChannels s)).getLast?.getD 0

/-- Step 6 (R188, R214): the mode from the start mode, and the sequencer's first state. -/
def takeStartState (s : State) : State :=
  if configured s then
    let s1 := s.setHm { s.hm with mode := (cfg s).startMode }
    match (cfg s).startMode with
    | .listen => s1.setZs { s1.zs with st := .running }
    | .armed =>
      if s1.rcp.record.isOpen then s1.setZs { s1.zs with st := .watch, currentStage := highestStage s1 }
      else if allChannels.any (hasCmd .shut s1) then s1.setZs { s1.zs with st := .starting }
      else s1.setZs { s1.zs with st := .running }
  else s

/-- The detector as steps 7 and the end of a warm reset leave it (R18, R29). -/
def startDetector (s : State) : State :=
  if configured s && !active .sensorLost s && !active .selftestFail s then
    s.setMp { s.mp with det := .warmup, warmupCount := 0 }
  else s.setMp { s.mp with det := .idle }

/-- The missing deadline, the STATUS period, the last-heard time and a STATUS, at step 8 and at the end of
a warm reset (R5, R45, R52). -/
def startTimers (s : State) : State :=
  let s1 := s.setMp { s.mp with missingDue := some (s.nodeTime + 100) }
  queueStatus (s1.setSlc { s1.slc with
    statusDue := some (s1.nodeTime + (cfg s1).ps * 10000), lastHeard := s1.nodeTime,
    heardDue := some (s1.nodeTime + threePs s1) })

/-- The start wait or the hold as the sequencer's state has it, at step 8 and at the end of a warm reset
(R135, R136, R138, R149). -/
def startWaits (s : State) : State :=
  if s.zs.st = .starting then
    recomputeStart (s.setZs { s.zs with startFloor := s.nodeTime + threePs s })
  else recomputeHold s

/-- Ta and the site grade at step 8, on a configured node (R131, R134). -/
def startActivity (s : State) : State :=
  if configured s then
    s.setZs { s.zs with ta := s.nodeTime,
                        grade := if s.rcp.record.isOpen then s.rcp.record.grade else 0 }
  else s

/-- Step 8, the end of the cold-start sequence (R187), its parts in the order of notes/assumptions/19.md. -/
def endColdStart (s : State) : State :=
  let s1 := s.setPhase .running
  let s2 := s1.setMp { s1.mp with testDue := if configured s1 then nextTestDue s1 else none }
  let s3 := armingEval (senseWire (ownPresent (startTimers s2)))
  takeHealth (startWaits (startActivity s3))

/-! ## Warm reset -/

/-- The faults that a warm reset clears (R211, R214). -/
def faultsAfterReset (a : FaultSet) : FaultSet :=
  { a with lineIsolated := false, lineSuppressed := false, wireStuck := false, configMismatch := false,
           idConflict := false }

/-- The MP at a warm reset (R2, R22, R29). R29 says what the detector enters at the end of the reset, and that
it is IDLE until then is the model's choice (notes/assumptions/34.md). -/
def resetMotion (s : State) : State :=
  let s1 := if s.mp.det = .masked then noticeAborted s else s
  s1.setMp { s1.mp with
    phase := if s.mp.inProgress then .ended else s.mp.phase, inProgress := false, det := .idle,
    deflection := false, sensorRange16 := s.rcp.range16, warmupCount := 0, endHold := 0, testCount := 0,
    testSum := 0, settleCount := 0, missingCount := 0, missingDue := none, recovery := 0 }

/-- The SLC at a warm reset (R55). That no deadline of it runs until the end of the reset is the model's choice
(notes/assumptions/34.md). -/
def resetLine (s : State) : State :=
  s.setSlc { s.slc with line := .seeking, score := 0, lastError := .none, queue := [], inFlight := none,
                        heardDue := none, conflictDue := none, statusDue := none }

/-- The VTU at a warm reset (R96). R96 gives V, the flag and the sensed state of the wire at the end of the
reset, and that they are 0, clear and RELEASED until then is the model's choice (notes/assumptions/34.md). -/
def resetVote (s : State) : State :=
  s.setVtu { s.vtu with votes := 0, armed := false, driving := false, driveDue := none, wire := .released,
                        confirmDue := none, stuckDue := none }

/-- The ICU at a warm reset (R156, R172). The table of R157 leaves the weight and the duration of the own
claim open here: that they keep their values is the model's choice (notes/assumptions/29.md). -/
def resetClaims (s : State) : State :=
  s.setIcu { s.icu with list := [], own := .none, settleDue := none, settleError := false,
                        backoffDue := none, ownExpiry := none }

/-- The ZS at a warm reset (R149, R150): the deadlines it ran are cancelled, and RESET is added, held back or neither. A gap deadline that was running is kept to be set again at the end (R129). That the
states of R149's table are taken at the assertion is the model's choice (notes/assumptions/34.md). -/
def resetSequencer (s : State) : State :=
  let z := { s.zs with holdDue := none, startDue := none, resetDue := none, restartGap := none }
  match s.zs.st with
  | .claiming => s.setZs { z with st := .paused, pause := { noCauses with reset := true } }
  | .restarting =>
    if s.zs.restartStage.isSome then s.setZs { z with held := { z.held with reset := true } }
    else s.setZs { z with st := .paused, pause := { noCauses with reset := true } }
  | .paused => s.setZs { z with pause := { z.pause with reset := true } }
  | .unconfigured => s.setZs z
  | .starting => s.setZs z
  | .running => s.setZs z
  | .shutting => s.setZs z
  | .watch => s.setZs z
  | .awaitPermit => s.setZs z

/-- The HM at a warm reset (R214): the active set without the faults whose conditions the reset clears,
and the output static. That these faults clear at the assertion, and not at the end, is the model's choice
(notes/assumptions/34.md). -/
def resetHealth (s : State) : State :=
  takeHealth (s.setHm { s.hm with active := faultsAfterReset s.hm.active })

/-- A warm reset begins. A close that waits is taken first. A record write in flight is abandoned, and its
flag kept to say that it is to be written again (R199). The Peer View goes back to its cold-reset entries,
the last-heard times with them (R74, notes/assumptions/26.md). -/
def beginWarmReset (s : State) : State :=
  let s0 := (takeWaitingClose s).setPhase .warmReset
  let s1 := resetSequencer (resetClaims (resetVote (resetLine (resetMotion s0))))
  let s2 := cancelChannelDeadlines (s1.setPv PeerView.reset)
  resetHealth (s2.setRcp { s2.rcp with attemptDue := none })

/-- One channel's level test, with the report of its leaving PENDING (R114, R120, R179). -/
def takeLevelTest (c : Channel) (s : State) : State :=
  match chan s c with
  | some r =>
    let s1 := setChan c (some (levelTest (chanCfg s c) (rawAck s c) s.nodeTime r)) s
    if leavesAtTest (chanCfg s c) (rawAck s c) r then leftPending c false s1 else s1
  | none => s

/-- The level tests of the channels, each on the state that the reports of those before it have left, and
then the channel sets afresh (R114). R114 gives no order among the channels: that they are taken in
ascending order is the model's choice (notes/assumptions/28.md). -/
def endResetChannels (s : State) : State :=
  followUnconfirmed (allChannels.foldl (fun st c => takeLevelTest c st) s)

/-- The ZS's deadlines at the end of a warm reset (R129, R144, R150). That they are set before the level tests
report and before a hold falls due at once is the model's choice (notes/assumptions/38.md). -/
def endResetSequencer (s : State) : State :=
  if configured s then
    s.setZs { s.zs with
      resetDue := some (s.nodeTime + threePs s),
      gapDue := s.zs.gapDue.map (fun _ => s.nodeTime + (cfg s).shutdownGap * 1000) }
  else s

/-- LINE and a passing PRECHECK leave the pause-cause set at the end of a warm reset (R142, R143, R150).
RESET stays, so the set does not empty. -/
def endResetCauses (s : State) : State :=
  if s.zs.st = .paused then
    s.setZs { s.zs with pause := { s.zs.pause with
      line := false, precheck := s.zs.pause.precheck && !checkedPasses s } }
  else s

/-- A record write abandoned by the reset is started again (R199). That it starts before the level tests and a
hold that falls due at once is the model's choice (notes/assumptions/38.md). -/
def endResetRecord (s : State) : State :=
  if s.rcp.writeInFlight then startWrite false s else s

/-- The end of a warm reset (R150). The rules give no order among the blocks, and the order here is the model's
choice: the reset deadline, then the abandoned write, then the level tests, then the causes and a hold that
falls due at once (notes/assumptions/38.md), after the bookkeeping of notes/assumptions/19.md. -/
def endWarmReset (s : State) : State :=
  let s1 := startDetector (s.setPhase .running)
  let s2 := armingEval (senseWire (ownPresent (startTimers s1)))
  let s3 := endResetRecord (endResetSequencer s2)
  takeHealth (startWaits (endResetCauses (endResetChannels s3)))

/-! ## The reset input and the end of the cold start -/

/-- The reset input's level (section 4). -/
def setResetPin (v : Bool) (s : State) : State := s.setPins { s.pins with resetAsserted := v }

/-- A warm reset begins if the reset input stands asserted (R187). -/
def resetIfAsserted (s : State) : State := if s.pins.resetAsserted then beginWarmReset s else s

/-- Steps 4 to 8 (R187). -/
def finishColdStart (r : Option TripRecord) (s : State) : State :=
  let s1 := takeRecord r s
  let s2 := if configured s1 then classify s1 else s1
  resetIfAsserted (endColdStart (startDetector (takeStartState s2)))

/-- A transfer in progress can still complete within its 200 ticks (R185). -/
def readOpen (s : State) : Bool :=
  match s.rcp.readDue with
  | some d => decide (s.nodeTime ≤ d)
  | none => false

/-- The image region has been read (R189, R190). -/
def imageRead (image : List Byte) (s : State) : State :=
  if s.phase = .readImage ∧ readOpen s = true then
    match parseImage image with
    | some c => takeImage (some c) (siteDigest image) s
    | none => takeImage none 0 s
  else s

/-- The record region has been read (R194). -/
def recordRead (record : List Byte) (s : State) : State :=
  if s.phase = .readRecord ∧ readOpen s = true then finishColdStart (parseRecord record) s else s

/-- A read fails, unacknowledged or not complete in time (R185): the first is retried, the second makes
the region unreadable. -/
def readFails (s : State) : State :=
  if s.phase = .readImage ∨ s.phase = .readRecord then
    if s.rcp.readRetry then
      if s.phase = .readImage then takeImage none 0 s else finishColdStart none s
    else s.setRcp { s.rcp with readRetry := true, readDue := some (s.nodeTime + 200) }
  else s

end Sys2Proof.Machine
end

