-- ==== Sys2Proof/Machine/Time.lean ====
section
/-! DEFINITION. Node time runs on (R1), and takes with it what may wait within one node time only. -/

namespace Sys2Proof.Machine

/-- What still waits in a running part at the node time that stands, taken before node time moves on: a
close that no trip request of that node time has come before (R196). -/
def leaveNodeTime (t : Nat) (s : State) : State :=
  if s.phase = .running ∧ s.nodeTime < t then takeWaitingClose s else s

/-- Node time runs on to `t`, never back, and stays at 2^48 − 1 (R1). Without power it does not run. -/
def advance (t : Nat) (s : State) : State :=
  if s.phase = .powerUp then s
  else (leaveNodeTime t s).setNodeTime (max s.nodeTime (min t maxNodeTime))

end Sys2Proof.Machine
end

