-- ==== Sys2Proof/Machine/Deadlines.lean ====
section
/-! DEFINITION. When each deadline of the part falls due (R1): the node time has reached it and the state
in which it runs still stands. A command for a deadline that has not fallen due stands for nothing that
can happen, and changes nothing (notes/assumptions/8.md). -/

namespace Sys2Proof.Machine

/-- The missing deadline (R5). -/
def missingFalls (s : State) : Bool := sampling s && due s.mp.missingDue s

/-- The self-test due time (R25). -/
def testFalls (s : State) : Bool := running s && due s.mp.testDue s

/-- The ID-CONFLICT clearing deadline (R44). -/
def conflictFalls (s : State) : Bool := running s && due s.slc.conflictDue s

/-- The heard deadline (R45). -/
def heardFalls (s : State) : Bool := running s && due s.slc.heardDue s

/-- The STATUS period (R52). -/
def statusFalls (s : State) : Bool := running s && due s.slc.statusDue s

/-- The silence deadline of an entry (R59). -/
def silenceFalls (i : StationId) (s : State) : Bool :=
  running s && (peer s i).presence == .present && due (peer s i).silenceDue s

/-- The window deadline of an entry (R72). -/
def windowFalls (i : StationId) (s : State) : Bool := running s && due (peer s i).windowDue s

/-- The confirm deadline (R80, R81). -/
def confirmFalls (s : State) : Bool := running s && s.vtu.wire == .rising && due s.vtu.confirmDue s

/-- The stuck deadline (R80, R82). -/
def stuckFalls (s : State) : Bool := running s && s.vtu.wire == .asserted && due s.vtu.stuckDue s

/-- The re-arm deadline (R84). -/
def rearmFalls (s : State) : Bool := running s && due s.vtu.rearmDue s

/-- The drive deadline (R89). -/
def driveFalls (s : State) : Bool := running s && s.vtu.driving && due s.vtu.driveDue s

/-- The filter deadline of a channel (R103). -/
def filterFalls (c : Channel) (s : State) : Bool :=
  running s && (match chan s c with | some r => due r.filterDue s | none => false)

/-- The acknowledge deadline of a PENDING channel (R107). -/
def ackFalls (c : Channel) (s : State) : Bool :=
  running s && (match chan s c with | some r => r.conf == .pending && due r.ackDue s | none => false)

/-- The shutdown gap (R122). -/
def gapFalls (s : State) : Bool := running s && s.zs.st == .shutting && due s.zs.gapDue s

/-- The hold (R136, R140). -/
def holdTimeFalls (s : State) : Bool := running s && holdRuns s && due s.zs.holdDue s

/-- The start wait (R138). -/
def startFalls (s : State) : Bool := running s && s.zs.st == .starting && due s.zs.startDue s

/-- The reset deadline (R144). -/
def resetFalls (s : State) : Bool := running s && due s.zs.resetDue s

/-- The settle deadline of the own claim (R161). -/
def settleFalls (s : State) : Bool := running s && s.icu.own == .settling && due s.icu.settleDue s

/-- The backoff deadline (R164). -/
def backoffFalls (s : State) : Bool := running s && s.icu.own == .backoff && due s.icu.backoffDue s

/-- The expiry of another station's claim (R154). The own claim's is the own expiry (R159). -/
def claimFalls (i : StationId) (s : State) : Bool :=
  running s && i != ownId s && s.icu.list.any (fun e => e.station == i && decide (e.expiry ≤ s.nodeTime))

/-- The expiry of the own claim in force (R165). -/
def ownExpiryFalls (s : State) : Bool := running s && s.icu.own == .inForce && due s.icu.ownExpiry s

/-- The inrush deadline of the restart stage in progress (R180). -/
def inrushFalls (s : State) : Bool :=
  running s && s.zs.st == .restarting && s.zs.restartStage.isSome && due s.zs.inrushDue s

/-- The restart gap (R181). -/
def restartGapFalls (s : State) : Bool := running s && s.zs.st == .restarting && due s.zs.restartGap s

/-- The attempt deadline of a record write (R198). -/
def attemptFalls (s : State) : Bool := running s && s.rcp.writeInFlight && due s.rcp.attemptDue s

/-- The 200 ticks of a memory read (R185). -/
def readFalls (s : State) : Bool :=
  (s.phase == .readImage || s.phase == .readRecord) && due s.rcp.readDue s

end Sys2Proof.Machine
end

