-- ==== Sys2Proof/Machine/Acknowledge.lean ====
section
/-! DEFINITION. The commands of the acknowledge inputs (sections 5.4 and 5.5). -/

namespace Sys2Proof.Machine

/-- The raw level at an acknowledge input (section 4). -/
def setAckPin (c : Channel) (high : Bool) (s : State) : State :=
  s.setPins { s.pins with ackHigh := s.pins.ackHigh.set c.val high c.isLt }

/-- One channel's filter at a change of its raw level, `reading` being what the new level reads (R103). A
level that changes back at the filter deadline's own node time, or later while that deadline has not been
taken, cancels it too: R103 says only what a change back before the deadline does, and the rest is the
model's choice (notes/assumptions/27.md). -/
def filterChange (reading : Bool) (now : Nat) (r : ChanRun) : ChanRun :=
  if reading = r.readsShut then { r with filterDue := none }
  else match r.filterDue with
    | some _ => r
    | none => { r with filterDue := some (now + 10) }

/-- The raw level of an acknowledge input changes (R103). A level equal to the one that stands is no
change. -/
def ackInputChange (c : Channel) (high : Bool) (s : State) : State :=
  let s1 := setAckPin c high s
  if running s && (chanCfg s c).ackUsed && rawAck s c != high then
    match chan s1 c with
    | some r => setChan c (some (filterChange (readsShutAt (chanCfg s c) high) s1.nodeTime r)) s1
    | none => s1
  else s1

/-- ACK_INPUT_CHANGE (R103). -/
def execAckInputChange (t : Nat) (c : Channel) (high : Bool) (s : State) :
    Host.Outcome State Fault Refusal :=
  .next (ackInputChange c high (advance t s))

/-- A filtered input change of a channel (R106, R108, R109), reported to the HM and the ZS (R110, R111,
R120, R179). -/
def takeFiltered (c : Channel) (level : Bool) (r : ChanRun) (s : State) : State :=
  let before := checkedPasses s
  let s1 := followUnconfirmed (setChan c (some { filteredChange level r with filterDue := none }) s)
  let s2 := if r.conf = .pending ∧ levelMatches r.cmd level = true then leftPending c false s1 else s1
  precheckReport before s2

/-- The filter deadline of a channel falls due (R103). -/
def filterDeadline (c : Channel) (s : State) : State :=
  if filterFalls c s then
    match chan s c with
    | some r =>
      let level := readsShutAt (chanCfg s c) (rawAck s c)
      if level = r.readsShut then setChan c (some { r with filterDue := none }) s
      else takeFiltered c level r s
    | none => s
  else s

/-- FILTER_DEADLINE (R103). -/
def execFilterDeadline (t : Nat) (c : Channel) (s : State) : Host.Outcome State Fault Refusal :=
  .next (filterDeadline c (advance t s))

/-- The acknowledge deadline of a channel falls due (R107). -/
def ackDeadline (c : Channel) (s : State) : State :=
  if ackFalls c s then
    match chan s c with
    | some r =>
      leftPending c true
        (followUnconfirmed (setChan c (some { r with conf := .unconfirmed, ackDue := none }) s))
    | none => s
  else s

/-- ACK_DEADLINE (R107). -/
def execAckDeadline (t : Nat) (c : Channel) (s : State) : Host.Outcome State Fault Refusal :=
  .next (ackDeadline c (advance t s))

end Sys2Proof.Machine
end

