-- ==== Sys2Proof/Machine/ColdAndWarm.lean ====
section
/-! DEFINITION. The commands of the cold start and of the reset input. -/

namespace Sys2Proof.Machine

/-- COLD_RESET (R186). -/
def execColdReset (id : StationId) (range16 : Bool) (identity : Byte) (s : State) :
    Host.Outcome State Fault Refusal :=
  .next (coldReset id range16 identity s)

/-- IMAGE_READ (R189). -/
def execImageRead (t : Nat) (image : List Byte) (s : State) : Host.Outcome State Fault Refusal :=
  .next (imageRead image (advance t s))

/-- RECORD_READ (R194). -/
def execRecordRead (t : Nat) (record : List Byte) (s : State) : Host.Outcome State Fault Refusal :=
  .next (recordRead record (advance t s))

/-- MEMORY_READ_TIMEOUT (R185): a read in progress is not acknowledged, or has not completed in its 200
ticks. -/
def execMemoryReadTimeout (t : Nat) (s : State) : Host.Outcome State Fault Refusal :=
  .next (readFails (advance t s))

/-- WARM_RESET (R55): the reset input is asserted. Before step 8 it is not taken (R187). -/
def warmReset (s : State) : State :=
  let s1 := setResetPin true s
  if running s1 then beginWarmReset s1 else s1

/-- WARM_RESET (R55). -/
def execWarmReset (t : Nat) (s : State) : Host.Outcome State Fault Refusal :=
  .next (warmReset (advance t s))

/-- END_OF_WARM_RESET (R150): the reset input is released, and a warm reset in progress ends. -/
def releaseReset (s : State) : State :=
  let s1 := setResetPin false s
  if s1.phase = .warmReset then endWarmReset s1 else s1

/-- END_OF_WARM_RESET (R150). -/
def execEndOfWarmReset (t : Nat) (s : State) : Host.Outcome State Fault Refusal :=
  .next (releaseReset (advance t s))

end Sys2Proof.Machine
end

