-- ==== Sys2Proof/Machine/Console.lean ====
section
/-! DEFINITION. The console commands (section 11.2): the effect and the result of each. -/

namespace Sys2Proof.Machine

/-- The effect of PERMIT (R202, R137). -/
def permitEffect (s : State) : CmdResult × State :=
  if s.zs.st = .awaitPermit then (.done, beginStage s) else (.ignored, s)

/-- PERMIT (R202). -/
def execPermit (t : Nat) (sender : StationId) (p : CommandPayload) (s : State) :
    Host.Outcome State Fault Refusal :=
  .next (commandArrives 1 (commandInRange p) sender p permitEffect (advance t s))

/-- The effect of HOLD (R203). -/
def holdEffect (s : State) : CmdResult × State := (.done, zsHold s)

/-- HOLD (R203). -/
def execHold (t : Nat) (sender : StationId) (p : CommandPayload) (s : State) :
    Host.Outcome State Fault Refusal :=
  .next (commandArrives 2 (commandInRange p) sender p holdEffect (advance t s))

/-- The effect of RESUME (R204). -/
def resumeEffect (s : State) : CmdResult × State := (.done, zsResume s)

/-- RESUME (R204). -/
def execResume (t : Nat) (sender : StationId) (p : CommandPayload) (s : State) :
    Host.Outcome State Fault Refusal :=
  .next (commandArrives 3 (commandInRange p) sender p resumeEffect (advance t s))

/-- The effect of SHUTDOWN (R79, R205). -/
def shutdownEffect (s : State) : CmdResult × State :=
  if s.hm.mode = .armed ∧ s.vtu.armed = true then (.done, tripOccasion .console .console 0 0 s)
  else (.ignored, s)

/-- SHUTDOWN (R205). -/
def execShutdown (t : Nat) (sender : StationId) (p : CommandPayload) (s : State) :
    Host.Outcome State Fault Refusal :=
  .next (commandArrives 4 (commandInRange p) sender p shutdownEffect (advance t s))

/-- The effect of TEST (R206). -/
def testEffect (s : State) : CmdResult × State :=
  if canTest s then (.done, startTest s) else (.ignored, s)

/-- TEST (R206). -/
def execTest (t : Nat) (sender : StationId) (p : CommandPayload) (s : State) :
    Host.Outcome State Fault Refusal :=
  .next (commandArrives 5 (commandInRange p) sender p testEffect (advance t s))

/-- The VTU is trip-quiet (R95). -/
def tripQuiet (s : State) : Bool := !s.vtu.driving && !hasClass 0 s.slc.queue

/-- The conditions of a MODE command (R207). -/
def mayChangeMode (m : Mode) (s : State) : Bool :=
  s.zs.st == .running && s.mp.det != .event && (m == .armed || tripQuiet s)

/-- The mode changes, with the health output taken afresh and a STATUS queued (R52, R213). -/
def setMode (m : Mode) (s : State) : State := queueStatus (takeHealth (s.setHm { s.hm with mode := m }))

/-- The change to a mode (R95, R207). -/
def changeMode (m : Mode) (s : State) : State :=
  match m with
  | .armed => voteTest (setMode .armed (s.setVtu { s.vtu with wouldTrip := 0 }))
  | .listen => setMode .listen (removeEntry 3 (removeEntry 1 s))

/-- The effect of MODE (R207). -/
def modeEffect (m : Mode) (s : State) : CmdResult × State :=
  if mayChangeMode m s then (.done, if m = s.hm.mode then s else changeMode m s) else (.ignored, s)

/-- MODE (R207). -/
def execMode (t : Nat) (sender : StationId) (p : CommandPayload) (s : State) :
    Host.Outcome State Fault Refusal :=
  .next (commandArrives 6 (modeCommandInRange p) sender p (modeEffect (modeArgument p)) (advance t s))

/-- The effect of ACK-FAULTS (R212). -/
def ackFaultsEffect (s : State) : CmdResult × State :=
  (.done, s.setHm { s.hm with sticky := s.hm.active })

/-- ACK-FAULTS (R212). -/
def execAckFaults (t : Nat) (sender : StationId) (p : CommandPayload) (s : State) :
    Host.Outcome State Fault Refusal :=
  .next (commandArrives 7 (commandInRange p) sender p ackFaultsEffect (advance t s))

/-- The effect of REPORT (R208). -/
def reportEffect (s : State) : CmdResult × State := (.done, queueStatus s)

/-- REPORT (R208). -/
def execReport (t : Nat) (sender : StationId) (p : CommandPayload) (s : State) :
    Host.Outcome State Fault Refusal :=
  .next (commandArrives 8 (commandInRange p) sender p reportEffect (advance t s))

end Sys2Proof.Machine
end

