-- ==== Sys2Proof/Machine/Receiving.lean ====
section
/-! DEFINITION. The commands of received frames other than COMMAND, and of the Peer View's deadlines. -/

namespace Sys2Proof.Machine

/-- TRIP_FRAME (R78). -/
def execTripFrame (t : Nat) (sender : StationId) (p : TripPayload) (s : State) :
    Host.Outcome State Fault Refusal :=
  .next (arrive (tripInRange p) sender (deliverTrip p) (advance t s))

/-- OBSERVE_FRAME (R64). -/
def execObserveFrame (t : Nat) (sender : StationId) (p : ObservePayload) (s : State) :
    Host.Outcome State Fault Refusal :=
  .next (arrive (observeInRange p) sender (deliverObserve sender p) (advance t s))

/-- CLAIM_FRAME (R152). -/
def execClaimFrame (t : Nat) (sender : StationId) (p : ClaimPayload) (s : State) :
    Host.Outcome State Fault Refusal :=
  .next (arrive (claimInRange p) sender (deliverClaim sender p) (advance t s))

/-- RELEASE_FRAME (R153). -/
def execReleaseFrame (t : Nat) (sender : StationId) (p : ReleasePayload) (s : State) :
    Host.Outcome State Fault Refusal :=
  .next (arrive (releaseInRange p) sender (deliverRelease sender p) (advance t s))

/-- STATUS_FRAME (R61). -/
def execStatusFrame (t : Nat) (sender : StationId) (p : StatusPayload) (s : State) :
    Host.Outcome State Fault Refusal :=
  .next (arrive (statusInRange p) sender (deliverStatus sender p) (advance t s))

/-- The silence deadline of an entry falls due (R59, R155). -/
def silenceDeadline (i : StationId) (s : State) : State :=
  if silenceFalls i s then goSilent i (removeClaimOf i s) else s

/-- SILENCE_DEADLINE (R59). -/
def execSilenceDeadline (t : Nat) (i : StationId) (s : State) : Host.Outcome State Fault Refusal :=
  .next (silenceDeadline i (advance t s))

/-- The window deadline of an entry falls due (R72). -/
def windowDeadline (i : StationId) (s : State) : State :=
  if windowFalls i s then voteTest (setPeer i { peer s i with windowDue := none } s) else s

/-- WINDOW_DEADLINE (R72). -/
def execWindowDeadline (t : Nat) (i : StationId) (s : State) : Host.Outcome State Fault Refusal :=
  .next (windowDeadline i (advance t s))

end Sys2Proof.Machine
end

