-- ==== Sys2Proof/Machine/RecordWrites.lean ====
section
/-! DEFINITION. The commands of the record writes (section 10.5). -/

namespace Sys2Proof.Machine

/-- A write is in flight, its deadline has not passed, and the acknowledgement is its own: one at the node time
at which an earlier attempt failed is that attempt's and is ignored (R197, R198). -/
def writeOpen (s : State) : Bool :=
  running s && s.rcp.writeInFlight && s.rcp.failedAt != some s.nodeTime &&
    (match s.rcp.attemptDue with | some d => decide (s.nodeTime ≤ d) | none => false)

/-- The write that is pending behind one that has ended starts, as a first attempt (R197, R198). -/
def startRewrite (s : State) : State := if s.rcp.rewritePending then startWrite false s else s

/-- The memory acknowledges the write in flight (R197). -/
def recordWriteAck (s : State) : State :=
  if writeOpen s then
    let s1 := s.setRcp { s.rcp with writeInFlight := false, attemptDue := none, retry := false }
    startRewrite (followFault .recordLost false (followFault .recordFail false s1))
  else s

/-- RECORD_WRITE_ACK (R197). -/
def execRecordWriteAck (t : Nat) (s : State) : Host.Outcome State Fault Refusal :=
  .next (recordWriteAck (advance t s))

/-- The attempt deadline falls due (R198): the attempt has failed. -/
def attemptDeadline (s : State) : State :=
  if attemptFalls s then
    let s1 := s.setRcp { s.rcp with failedAt := some s.nodeTime }
    if s.rcp.retry then
      startRewrite (raiseFault .recordFail
        (s1.setRcp { s1.rcp with writeInFlight := false, attemptDue := none, retry := false }))
    else startWrite true s1
  else s

/-- ATTEMPT_DEADLINE (R198). -/
def execAttemptDeadline (t : Nat) (s : State) : Host.Outcome State Fault Refusal :=
  .next (attemptDeadline (advance t s))

end Sys2Proof.Machine
end

