-- ==== Sys2Proof/Machine/Sending.lean ====
section
/-! DEFINITION. The commands of the line's own events: the idle gap, sending, errors, and the line's
deadlines. -/

namespace Sys2Proof.Machine

/-- TRANSMIT_START (R47). -/
def execTransmitStart (t : Nat) (s : State) : Host.Outcome State Fault Refusal :=
  .next (transmitStart (advance t s))

/-- ARBITRATION_LOST (R35). -/
def execArbitrationLost (t : Nat) (s : State) : Host.Outcome State Fault Refusal :=
  .next (arbitrationLost (advance t s))

/-- BIT_ERROR (R38). -/
def execBitError (t : Nat) (s : State) : Host.Outcome State Fault Refusal :=
  .next (bitError (advance t s))

/-- FRAME_COMPLETED (R43). -/
def execFrameCompleted (t : Nat) (s : State) : Host.Outcome State Fault Refusal :=
  .next (frameCompleted (advance t s))

/-- A header of class 6 or 7 has been received (R32). -/
def ignoredFrame (s : State) : State :=
  if lineUp s && s.slc.line == .receiving then setLine .seeking s else s

/-- IGNORED_FRAME (R32). -/
def execIgnoredFrame (t : Nat) (s : State) : Host.Outcome State Fault Refusal :=
  .next (ignoredFrame (advance t s))

/-- An error has been found in the frame being received (R37). -/
def receiveErrorEvent (kind : RxError) (s : State) : State :=
  if lineUp s && s.slc.line == .receiving then takeReceiveError kind s else s

/-- RECEIVE_ERROR (R37). -/
def execReceiveError (t : Nat) (kind : RxError) (s : State) : Host.Outcome State Fault Refusal :=
  .next (receiveErrorEvent kind (advance t s))

/-- The ID-CONFLICT clearing deadline falls due (R44). -/
def idConflictDeadline (s : State) : State :=
  if conflictFalls s then clearFault .idConflict (s.setSlc { s.slc with conflictDue := none }) else s

/-- ID_CONFLICT_DEADLINE (R44). -/
def execIdConflictDeadline (t : Nat) (s : State) : Host.Outcome State Fault Refusal :=
  .next (idConflictDeadline (advance t s))

/-- The heard deadline falls due (R45). -/
def heardDeadline (s : State) : State :=
  if heardFalls s then raiseLineFault .lineIsolated (s.setSlc { s.slc with heardDue := none }) else s

/-- HEARD_DEADLINE (R45). -/
def execHeardDeadline (t : Nat) (s : State) : Host.Outcome State Fault Refusal :=
  .next (heardDeadline (advance t s))

/-- The STATUS period falls due (R52). -/
def statusPeriod (s : State) : State :=
  if statusFalls s then
    queueStatus (s.setSlc { s.slc with statusDue := s.slc.statusDue.map (fun d => d + (cfg s).ps * 10000) })
  else s

/-- STATUS_PERIOD (R52). -/
def execStatusPeriod (t : Nat) (s : State) : Host.Outcome State Fault Refusal :=
  .next (statusPeriod (advance t s))

/-- Ten recessive bits have passed (R31). -/
def lineIdle (s : State) : State :=
  if lineUp s && (s.slc.line == .seeking || s.slc.line == .counting) then setLine .idle s else s

/-- LINE_IDLE (R31). -/
def execLineIdle (t : Nat) (s : State) : Host.Outcome State Fault Refusal :=
  .next (lineIdle (advance t s))

/-- Another station's SOF edge is seen in IDLE (R31, R41). -/
def otherStationSof (s : State) : State :=
  if lineUp s && s.slc.line == .idle then
    s.setSlc { s.slc with line := .receiving, tSof := s.nodeTime }
  else s

/-- OTHER_STATION_SOF (R31). -/
def execOtherStationSof (t : Nat) (s : State) : Host.Outcome State Fault Refusal :=
  .next (otherStationSof (advance t s))

/-- A dominant bit appears in the count to idle after a delimiter (R31). -/
def dominantBitBeforeIdle (s : State) : State :=
  if lineUp s && s.slc.line == .counting then setLine .seeking s else s

/-- DOMINANT_BIT_BEFORE_IDLE (R31). -/
def execDominantBitBeforeIdle (t : Nat) (s : State) : Host.Outcome State Fault Refusal :=
  .next (dominantBitBeforeIdle (advance t s))

end Sys2Proof.Machine
end

