-- ==== Sys2Proof/Machine/Sensing.lean ====
section
/-! DEFINITION. The commands of the sensor port. -/

namespace Sys2Proof.Machine

/-- A data-ready arrival, where the sensor is read (R4, R187). -/
def dataReady (x y z : RawCount) (s : State) : State :=
  if sampling s then processSample x y z s else s

/-- DATA_READY (R4). -/
def execDataReady (t : Nat) (x y z : RawCount) (s : State) : Host.Outcome State Fault Refusal :=
  .next (dataReady x y z (advance t s))

/-- The missing deadline falls due (R5). -/
def missingDeadline (s : State) : State := if missingFalls s then countMissing s else s

/-- MISSING_DEADLINE (R5). -/
def execMissingDeadline (t : Nat) (s : State) : Host.Outcome State Fault Refusal :=
  .next (missingDeadline (advance t s))

/-- The self-test due time falls due (R25): a test starts, or the due time moves on by one hour. -/
def selftestDue (s : State) : State :=
  if testFalls s then
    if canTest s then startTest (s.setMp { s.mp with testDue := none })
    else s.setMp { s.mp with testDue := s.mp.testDue.map (fun d => d + 36000000) }
  else s

/-- SELFTEST_DUE (R25). -/
def execSelftestDue (t : Nat) (s : State) : Host.Outcome State Fault Refusal :=
  .next (selftestDue (advance t s))

end Sys2Proof.Machine
end

