-- ==== Sys2Proof/Machine/TripWire.lean ====
section
/-! DEFINITION. The commands of the Trip Wire and of the VTU's deadlines (sections 4.3 to 4.5). -/

namespace Sys2Proof.Machine

/-- The level sensed at the Trip Wire (section 4). -/
def setWirePin (v : Bool) (s : State) : State := s.setPins { s.pins with wireAsserted := v }

/-- An assertion edge at RELEASED, handed to the MP (R80, R28). -/
def assertionEdge (s : State) : State :=
  let s1 := setWirePin true s
  if running s1 && s1.vtu.wire == .released then abortTest (wireRises s1) else s1

/-- WIRE_ASSERTION_EDGE (R80). -/
def execWireAssertionEdge (t : Nat) (s : State) : Host.Outcome State Fault Refusal :=
  .next (assertionEdge (advance t s))

/-- A release edge (R80, R82). -/
def releaseEdge (s : State) : State :=
  let s1 := setWirePin false s
  if running s1 && s1.vtu.wire != .released then wireReleases s1 else s1

/-- WIRE_RELEASE_EDGE (R82). -/
def execWireReleaseEdge (t : Nat) (s : State) : Host.Outcome State Fault Refusal :=
  .next (releaseEdge (advance t s))

/-- The confirm deadline falls due (R81): the ZS is handed the assertion, then the WIRE cause is tested. -/
def confirmDeadline (s : State) : State :=
  if confirmFalls s then
    let s1 := s.setVtu { s.vtu with wire := .asserted, confirmDue := none }
    tripOccasion .wire .wire 0 0 (activity s1.nodeTime 0 false s1)
  else s

/-- CONFIRM_DEADLINE (R81). -/
def execConfirmDeadline (t : Nat) (s : State) : Host.Outcome State Fault Refusal :=
  .next (confirmDeadline (advance t s))

/-- The stuck deadline falls due (R82). -/
def stuckDeadline (s : State) : State :=
  if stuckFalls s then
    armingEval (raiseFault .wireStuck (s.setVtu { s.vtu with wire := .stuck, stuckDue := none }))
  else s

/-- STUCK_DEADLINE (R82). -/
def execStuckDeadline (t : Nat) (s : State) : Host.Outcome State Fault Refusal :=
  .next (stuckDeadline (advance t s))

/-- The re-arm deadline falls due (R84). -/
def rearmDeadline (s : State) : State :=
  if rearmFalls s then armingEval (s.setVtu { s.vtu with rearmDue := none }) else s

/-- REARM_DEADLINE (R84). -/
def execRearmDeadline (t : Nat) (s : State) : Host.Outcome State Fault Refusal :=
  .next (rearmDeadline (advance t s))

/-- The drive deadline falls due (R89). -/
def driveDeadline (s : State) : State :=
  if driveFalls s then s.setVtu { s.vtu with driving := false, driveDue := none } else s

/-- DRIVE_DEADLINE (R89). -/
def execDriveDeadline (t : Nat) (s : State) : Host.Outcome State Fault Refusal :=
  .next (driveDeadline (advance t s))

end Sys2Proof.Machine
end

