-- ==== Sys2Proof/Machine/Zone.lean ====
section
/-! DEFINITION. The commands of the Zone Sequencer's deadlines and of the Inrush Claim Unit's. -/

namespace Sys2Proof.Machine

/-- The shutdown gap falls due (R122): the next shutdown stage that has channels is begun. -/
def gapDeadline (s : State) : State :=
  if gapFalls s then
    runShutdown (stagesAfter s.zs.currentStage) (s.setZs { s.zs with gapDue := none })
  else s

/-- GAP_DEADLINE (R122). -/
def execGapDeadline (t : Nat) (s : State) : Host.Outcome State Fault Refusal :=
  .next (gapDeadline (advance t s))

/-- The hold deadline falls due (R136, R140). -/
def holdDeadline (s : State) : State := if holdTimeFalls s then holdFalls s else s

/-- HOLD_DEADLINE (R136). -/
def execHoldDeadline (t : Nat) (s : State) : Host.Outcome State Fault Refusal :=
  .next (holdDeadline (advance t s))

/-- The start wait falls due (R138). -/
def startWait (s : State) : State := if startFalls s then beginStage s else s

/-- START_WAIT (R138). -/
def execStartWait (t : Nat) (s : State) : Host.Outcome State Fault Refusal :=
  .next (startWait (advance t s))

/-- The reset deadline falls due (R144). -/
def resetDeadline (s : State) : State :=
  if resetFalls s then
    leavePause (s.setZs { s.zs with
      resetDue := none, pause := { s.zs.pause with reset := false },
      held := { s.zs.held with reset := false } })
  else s

/-- RESET_DEADLINE (R144). -/
def execResetDeadline (t : Nat) (s : State) : Host.Outcome State Fault Refusal :=
  .next (resetDeadline (advance t s))

/-- The settle deadline falls due (R161, R163). -/
def settleDeadline (s : State) : State :=
  if settleFalls s then
    if verdictConfirms s then zsConfirm (s.setIcu { s.icu with own := .inForce, settleDue := none })
    else withdrawAtSettle s
  else s

/-- SETTLE_DEADLINE (R161). -/
def execSettleDeadline (t : Nat) (s : State) : Host.Outcome State Fault Refusal :=
  .next (settleDeadline (advance t s))

/-- The backoff deadline falls due (R164). -/
def backoffDeadline (s : State) : State := if backoffFalls s then makeClaim s else s

/-- BACKOFF_DEADLINE (R164). -/
def execBackoffDeadline (t : Nat) (s : State) : Host.Outcome State Fault Refusal :=
  .next (backoffDeadline (advance t s))

/-- The expiry of a station's claim falls due (R154). -/
def claimExpiry (i : StationId) (s : State) : State := if claimFalls i s then removeClaimOf i s else s

/-- CLAIM_EXPIRY (R154). -/
def execClaimExpiry (t : Nat) (i : StationId) (s : State) : Host.Outcome State Fault Refusal :=
  .next (claimExpiry i (advance t s))

/-- The own expiry falls due (R165). -/
def ownExpiry (s : State) : State :=
  if ownExpiryFalls s then claimNone (removeClaimOf (ownId s) s) else s

/-- OWN_EXPIRY (R165). -/
def execOwnExpiry (t : Nat) (s : State) : Host.Outcome State Fault Refusal :=
  .next (ownExpiry (advance t s))

/-- The inrush deadline falls due (R180). -/
def inrushDeadline (s : State) : State :=
  if inrushFalls s then endIfOver (s.setZs { s.zs with inrushDue := none }) else s

/-- INRUSH_DEADLINE (R180). -/
def execInrushDeadline (t : Nat) (s : State) : Host.Outcome State Fault Refusal :=
  .next (inrushDeadline (advance t s))

/-- The restart gap falls due (R181). -/
def restartGapDeadline (s : State) : State := if restartGapFalls s then beginStage s else s

/-- RESTART_GAP_DEADLINE (R181). -/
def execRestartGapDeadline (t : Nat) (s : State) : Host.Outcome State Fault Refusal :=
  .next (restartGapDeadline (advance t s))

end Sys2Proof.Machine
end

