-- ==== Sys2Proof/Machine/Dispatch.lean ====
section
/-! DEFINITION. The meaning of each command: one arm per row of the table of operations and events. -/

namespace Sys2Proof.Machine

/-- The effect of a command on everything but the queue of waiting commands. -/
def exec (i : Instr) (s : State) : Host.Outcome State Fault Refusal :=
  match i with
  | .coldReset id range16 identity => Sys2Proof.Machine.execColdReset id range16 identity s
  | .imageRead t image => Sys2Proof.Machine.execImageRead t image s
  | .recordRead t record => Sys2Proof.Machine.execRecordRead t record s
  | .memoryReadTimeout t => Sys2Proof.Machine.execMemoryReadTimeout t s
  | .warmReset t => Sys2Proof.Machine.execWarmReset t s
  | .endOfWarmReset t => Sys2Proof.Machine.execEndOfWarmReset t s
  | .dataReady t x y z => Sys2Proof.Machine.execDataReady t x y z s
  | .missingDeadline t => Sys2Proof.Machine.execMissingDeadline t s
  | .selftestDue t => Sys2Proof.Machine.execSelftestDue t s
  | .transmitStart t => Sys2Proof.Machine.execTransmitStart t s
  | .arbitrationLost t => Sys2Proof.Machine.execArbitrationLost t s
  | .bitError t => Sys2Proof.Machine.execBitError t s
  | .frameCompleted t => Sys2Proof.Machine.execFrameCompleted t s
  | .tripFrame t sender p => Sys2Proof.Machine.execTripFrame t sender p s
  | .observeFrame t sender p => Sys2Proof.Machine.execObserveFrame t sender p s
  | .claimFrame t sender p => Sys2Proof.Machine.execClaimFrame t sender p s
  | .releaseFrame t sender p => Sys2Proof.Machine.execReleaseFrame t sender p s
  | .statusFrame t sender p => Sys2Proof.Machine.execStatusFrame t sender p s
  | .ignoredFrame t => Sys2Proof.Machine.execIgnoredFrame t s
  | .receiveError t kind => Sys2Proof.Machine.execReceiveError t kind s
  | .idConflictDeadline t => Sys2Proof.Machine.execIdConflictDeadline t s
  | .heardDeadline t => Sys2Proof.Machine.execHeardDeadline t s
  | .statusPeriod t => Sys2Proof.Machine.execStatusPeriod t s
  | .silenceDeadline t station => Sys2Proof.Machine.execSilenceDeadline t station s
  | .windowDeadline t station => Sys2Proof.Machine.execWindowDeadline t station s
  | .wireAssertionEdge t => Sys2Proof.Machine.execWireAssertionEdge t s
  | .wireReleaseEdge t => Sys2Proof.Machine.execWireReleaseEdge t s
  | .confirmDeadline t => Sys2Proof.Machine.execConfirmDeadline t s
  | .stuckDeadline t => Sys2Proof.Machine.execStuckDeadline t s
  | .rearmDeadline t => Sys2Proof.Machine.execRearmDeadline t s
  | .driveDeadline t => Sys2Proof.Machine.execDriveDeadline t s
  | .ackInputChange t ch high => Sys2Proof.Machine.execAckInputChange t ch high s
  | .filterDeadline t ch => Sys2Proof.Machine.execFilterDeadline t ch s
  | .ackDeadline t ch => Sys2Proof.Machine.execAckDeadline t ch s
  | .gapDeadline t => Sys2Proof.Machine.execGapDeadline t s
  | .holdDeadline t => Sys2Proof.Machine.execHoldDeadline t s
  | .startWait t => Sys2Proof.Machine.execStartWait t s
  | .resetDeadline t => Sys2Proof.Machine.execResetDeadline t s
  | .settleDeadline t => Sys2Proof.Machine.execSettleDeadline t s
  | .backoffDeadline t => Sys2Proof.Machine.execBackoffDeadline t s
  | .claimExpiry t station => Sys2Proof.Machine.execClaimExpiry t station s
  | .ownExpiry t => Sys2Proof.Machine.execOwnExpiry t s
  | .inrushDeadline t => Sys2Proof.Machine.execInrushDeadline t s
  | .restartGapDeadline t => Sys2Proof.Machine.execRestartGapDeadline t s
  | .recordWriteAck t => Sys2Proof.Machine.execRecordWriteAck t s
  | .attemptDeadline t => Sys2Proof.Machine.execAttemptDeadline t s
  | .permit t sender p => Sys2Proof.Machine.execPermit t sender p s
  | .hold t sender p => Sys2Proof.Machine.execHold t sender p s
  | .resume t sender p => Sys2Proof.Machine.execResume t sender p s
  | .shutdown t sender p => Sys2Proof.Machine.execShutdown t sender p s
  | .test t sender p => Sys2Proof.Machine.execTest t sender p s
  | .mode t sender p => Sys2Proof.Machine.execMode t sender p s
  | .ackFaults t sender p => Sys2Proof.Machine.execAckFaults t sender p s
  | .report t sender p => Sys2Proof.Machine.execReport t sender p s
  | .lineIdle t => Sys2Proof.Machine.execLineIdle t s
  | .otherStationSof t => Sys2Proof.Machine.execOtherStationSof t s
  | .dominantBitBeforeIdle t => Sys2Proof.Machine.execDominantBitBeforeIdle t s

end Sys2Proof.Machine
end

