-- ==== Sys2Proof/Machine/Idle.lean ====
section
/-! DEFINITION. What passes while no command waits: ticks of node time (R1), the deadlines that have fallen
due, and the SOF that the node drives when it may, each taken as the command of its row
(notes/assumptions/2.md). -/

namespace Sys2Proof.Machine

/-- A command in a list when its condition holds. -/
def onlyIf (b : Bool) (c : Instr) : List Instr := if b then [c] else []

/-- A SOF is to be driven: the line is idle, the node is not suppressed, and a frame is queued (R31, R40). -/
def sofFalls (s : State) : Bool := maySend s && !s.slc.queue.isEmpty

/-- The commands of what has fallen due: the deadlines, and the SOF of the first bit time of IDLE (R1, R31). -/
def dueCommands (s : State) : List Instr :=
  let t := s.nodeTime
  onlyIf (readFalls s) (.memoryReadTimeout t) ++
  onlyIf (missingFalls s) (.missingDeadline t) ++
  onlyIf (testFalls s) (.selftestDue t) ++
  onlyIf (conflictFalls s) (.idConflictDeadline t) ++
  onlyIf (heardFalls s) (.heardDeadline t) ++
  onlyIf (statusFalls s) (.statusPeriod t) ++
  (allStations.filter (fun i => silenceFalls i s)).map (.silenceDeadline t) ++
  (allStations.filter (fun i => windowFalls i s)).map (.windowDeadline t) ++
  onlyIf (confirmFalls s) (.confirmDeadline t) ++
  onlyIf (stuckFalls s) (.stuckDeadline t) ++
  onlyIf (rearmFalls s) (.rearmDeadline t) ++
  onlyIf (driveFalls s) (.driveDeadline t) ++
  (allChannels.filter (fun c => filterFalls c s)).map (.filterDeadline t) ++
  (allChannels.filter (fun c => ackFalls c s)).map (.ackDeadline t) ++
  onlyIf (gapFalls s) (.gapDeadline t) ++
  onlyIf (holdTimeFalls s) (.holdDeadline t) ++
  onlyIf (startFalls s) (.startWait t) ++
  onlyIf (resetFalls s) (.resetDeadline t) ++
  onlyIf (settleFalls s) (.settleDeadline t) ++
  onlyIf (backoffFalls s) (.backoffDeadline t) ++
  (allStations.filter (fun i => claimFalls i s)).map (.claimExpiry t) ++
  onlyIf (ownExpiryFalls s) (.ownExpiry t) ++
  onlyIf (inrushFalls s) (.inrushDeadline t) ++
  onlyIf (restartGapFalls s) (.restartGapDeadline t) ++
  onlyIf (attemptFalls s) (.attemptDeadline t) ++
  onlyIf (sofFalls s) (.transmitStart t)

/-- One tick of node time (R1). Without power there is none. -/
def tick (s : State) : State := advance (s.nodeTime + 1) s

/-- The passing of time while no command waits: a command that has fallen due, the one that the free choice
names when there are several, and otherwise a tick. -/
def idle (s : State) : Host.Outcome State Fault Refusal :=
  match dueCommands s with
  | [] => .next (tick s)
  | [c] => exec c s
  | c :: d :: rest =>
    exec ((c :: d :: rest).getD (Config.pickDue s.draws % (rest.length + 2)) c) (drawn s)

end Sys2Proof.Machine
end

