-- ==== Sys2Proof/Machine/Step.lean ====
section
/-! DEFINITION. One step of the block: the command at the front of the queue, or, on an empty queue, the
passing of time (notes/assumptions/2.md). -/

namespace Sys2Proof.Machine

/-- One step. With a command waiting, the first one is taken and executed with the rest of the queue. With
none, a deadline that has fallen due is taken or a SOF driven, or a tick passes. -/
def step (s : State) : Host.Outcome State Fault Refusal :=
  match s.pending with
  | c :: rest => exec c (s.setPending rest)
  | [] => idle s

/-- `s` with the command that a word spells put at the front of its queue. The table gives no row bits, so
no word spells a command and `s` is unchanged (notes/assumptions/5.md). -/
def State.withFetchWord (s : State) (nbits w : Nat) : State :=
  match decodeTableWord nbits w with
  | some c => s.setPending (c :: s.pending)
  | none => s

end Sys2Proof.Machine
end

