-- ==== Sys2Proof/Machine/MemoryPort.lean ====
section
/-! DEFINITION. What the RCP presents to the serial memory at the I2C port (R185, R197): the two-byte address
of the transfer in progress and what it reads or writes there. -/

namespace Sys2Proof.Machine

/-- The read in progress, as the memory address at which it starts and the number of bytes: the image region
at step 3 of the cold start, the record region at step 4 (R185, R187). -/
def readTransfer (s : State) : Option (BitVec 16 × Nat) :=
  match s.phase with
  | .readImage => some (imageAddress, imageLength)
  | .readRecord => some (recordAddress, recordLength)
  | .powerUp => none
  | .running => none
  | .warmReset => none

/-- The write in progress, as the memory address at which it starts and the bytes: the whole record, to the
record region (R185, R197). One that a warm reset has abandoned is in progress no more (R199). -/
def writeTransfer (s : State) : Option (BitVec 16 × List Byte) :=
  if running s && s.rcp.writeInFlight then some (recordAddress, s.rcp.writeBytes) else none

end Sys2Proof.Machine
end

