-- ==== Sys2Proof/Safety.lean ====
section
/-! DEFINITION. What a safe run of the HT-520 is: the promises that the manual makes of the whole part, as
checks of one state. Each is a promise that every step is to keep. The statements of
Certificates/Slice0/Obligations.lean are in these terms. -/

namespace Sys2Proof.Machine

/-- No close waits that the passing of time to `t` would have taken (R196, notes/assumptions/30.md). -/
abbrev NoCloseBefore (t : Nat) (s : State) : Prop := s.rcp.closeWaits = false ∨ t = s.nodeTime

/-- The part is running and `t` is a node time, now or later, up to which no close waits to be taken. A command
taken at `t` is then taken with node time `t` (R1, R187). What the passing of time does to a close that waits
is said in Obligations.RecordTakesRequests. -/
abbrev RunsAt (t : Nat) (s : State) : Prop :=
  s.phase = .running ∧ s.nodeTime ≤ t ∧ t ≤ maxNodeTime ∧ NoCloseBefore t s

/-- What no event of a running part changes but a reset: the pins, the phase and the queue of waiting
commands. -/
abbrev SameAround (s u : State) : Prop :=
  u.pins = s.pins ∧ u.phase = s.phase ∧ u.pending = s.pending

/-- The node time that a command carries: every command but COLD_RESET carries one (notes/assumptions/1.md). -/
def commandTime : Instr → Option Nat
  | .coldReset _ _ _ => none
  | .imageRead t _ => some t
  | .recordRead t _ => some t
  | .memoryReadTimeout t => some t
  | .warmReset t => some t
  | .endOfWarmReset t => some t
  | .dataReady t _ _ _ => some t
  | .missingDeadline t => some t
  | .selftestDue t => some t
  | .transmitStart t => some t
  | .arbitrationLost t => some t
  | .bitError t => some t
  | .frameCompleted t => some t
  | .tripFrame t _ _ => some t
  | .observeFrame t _ _ => some t
  | .claimFrame t _ _ => some t
  | .releaseFrame t _ _ => some t
  | .statusFrame t _ _ => some t
  | .ignoredFrame t => some t
  | .receiveError t _ => some t
  | .idConflictDeadline t => some t
  | .heardDeadline t => some t
  | .statusPeriod t => some t
  | .silenceDeadline t _ => some t
  | .windowDeadline t _ => some t
  | .wireAssertionEdge t => some t
  | .wireReleaseEdge t => some t
  | .confirmDeadline t => some t
  | .stuckDeadline t => some t
  | .rearmDeadline t => some t
  | .driveDeadline t => some t
  | .ackInputChange t _ _ => some t
  | .filterDeadline t _ => some t
  | .ackDeadline t _ => some t
  | .gapDeadline t => some t
  | .holdDeadline t => some t
  | .startWait t => some t
  | .resetDeadline t => some t
  | .settleDeadline t => some t
  | .backoffDeadline t => some t
  | .claimExpiry t _ => some t
  | .ownExpiry t => some t
  | .inrushDeadline t => some t
  | .restartGapDeadline t => some t
  | .recordWriteAck t => some t
  | .attemptDeadline t => some t
  | .permit t _ _ => some t
  | .hold t _ _ => some t
  | .resume t _ _ => some t
  | .shutdown t _ _ => some t
  | .test t _ _ => some t
  | .mode t _ _ => some t
  | .ackFaults t _ _ => some t
  | .report t _ _ => some t
  | .lineIdle t => some t
  | .otherStationSof t => some t
  | .dominantBitBeforeIdle t => some t

/-- The node time and the sender of a command that is a received frame of a class 0..5 (R32, R41). -/
def frameArrival : Instr → Option (Nat × StationId)
  | .tripFrame t i _ => some (t, i)
  | .observeFrame t i _ => some (t, i)
  | .claimFrame t i _ => some (t, i)
  | .releaseFrame t i _ => some (t, i)
  | .statusFrame t i _ => some (t, i)
  | .permit t i _ => some (t, i)
  | .hold t i _ => some (t, i)
  | .resume t i _ => some (t, i)
  | .shutdown t i _ => some (t, i)
  | .test t i _ => some (t, i)
  | .mode t i _ => some (t, i)
  | .ackFaults t i _ => some (t, i)
  | .report t i _ => some (t, i)
  | _ => none

/-- The code, the node time, the sender and the payload of a command that is a COMMAND frame (R53, R200). -/
def commandFrame : Instr → Option (Nat × Nat × StationId × CommandPayload)
  | .permit t i p => some (1, t, i, p)
  | .hold t i p => some (2, t, i, p)
  | .resume t i p => some (3, t, i, p)
  | .shutdown t i p => some (4, t, i, p)
  | .test t i p => some (5, t, i, p)
  | .mode t i p => some (6, t, i, p)
  | .ackFaults t i p => some (7, t, i, p)
  | .report t i p => some (8, t, i, p)
  | _ => none

/-- The state in which a valid frame of another station has been heard at `t` and goes to no block: the score,
the stamps, the heard mark and the presence of the sender (R39, R41, R45, R58). That the score falls before
the delivery is the model's choice (notes/assumptions/19.md). -/
def heardFrame (t : Nat) (i : StationId) (s : State) : State :=
  takeFrame i (fun x => x) { s with nodeTime := t, slc := { s.slc with line := .counting, tEnd := t } }

/-- What hearing a valid frame at `t` does to the zone, from `s` to `u` (R143): a line that was unusable and is
usable from this frame on takes LINE out of a pause, and begins a stage when the pause held nothing else. -/
def LineReturns (t : Nat) (s u : State) : Prop :=
  let joins := lineUsable s = false ∧ (active .lineSuppressed s = false ∨ s.slc.score - 1 ≤ 64) ∧
    s.zs.st = .paused ∧ s.zs.pause.line = true
  let left : Causes := { s.zs.pause with line := false }
  (¬joins → u.zs = s.zs ∧ u.cd = s.cd ∧ u.icu = s.icu ∧ u.rcp = s.rcp) ∧
  (joins → left ≠ noCauses → u.zs = { s.zs with pause := left } ∧ u.cd = s.cd ∧ u.icu = s.icu ∧ u.rcp = s.rcp) ∧
  (joins → left = noCauses → ∃ v : State, lineUsable v = true ∧ v.nodeTime = t ∧
    v.zs = { s.zs with pause := left } ∧ v.cd = s.cd ∧ v.icu = s.icu ∧ v.rcp = s.rcp ∧ v.draws = s.draws ∧
    u.zs = (beginStage v).zs ∧ u.cd = (beginStage v).cd ∧ u.icu = (beginStage v).icu ∧
    u.rcp = (beginStage v).rcp)

/-- Every aftershock hold Q0..Q4 lasts longer than no time (R135). Where one does not, a hold of it falls due
at once, and a trip of a zone with nothing to shed can open and close its record in one event (R196). -/
def holdsAboveZero (c : NodeConfig) : Bool :=
  decide (0 < c.q0) && decide (0 < c.q1) && decide (0 < c.q2) && decide (0 < c.q3) && decide (0 < c.q4)

/-- `u` follows `s` by a trip in ARMED mode with a trip grade `grade` and the counted stations `stations`: the
flag, the drive and the TRIP frame (R83, R88, R89), and, where no hold is of no time, the zone and the own
claim (R117, R118, R124 to R126) and the record as the trip opens or updates it (R91). A close that waits is
void, and hands the zone the grade of the record (R196). -/
def Tripped (own origin : Cause) (votes grade : Nat) (stations : List StationId) (s u : State) : Prop :=
  u.vtu.armed = false ∧ u.vtu.lastTrip = some u.nodeTime ∧
  u.vtu.rearmDue = some (u.nodeTime + (cfg s).hw) ∧
  (own ≠ .wire → u.vtu.driving = true ∧ u.vtu.driveDue = some (u.nodeTime + (cfg s).hw)) ∧
  (own = .wire → u.vtu.driving = s.vtu.driving ∧ u.vtu.driveDue = s.vtu.driveDue) ∧
  .trip own origin votes grade u.nodeTime ∈ u.slc.queue ∧
  u.zs.ta = max s.zs.ta u.nodeTime ∧ u.rcp.lastTripReq = some u.nodeTime ∧ u.rcp.closeWaits = false ∧
  (holdsAboveZero (cfg s) = true →
    (u.zs.st = .shutting ∨ u.zs.st = .watch) ∧
    u.zs.grade = (if s.rcp.closeWaits = true ∧ s.rcp.record.isOpen = true
      then max grade s.rcp.record.grade else grade) ∧
    u.zs.consoleHold = s.zs.consoleHold ∧
    (s.zs.st = .shutting → u.zs.stage = s.zs.stage ∧ u.zs.currentStage = s.zs.currentStage ∧
      u.zs.gapDue = s.zs.gapDue ∧ u.cd = s.cd) ∧
    (s.zs.st ≠ .shutting → u.zs.pause = noCauses ∧ u.zs.held = noCauses ∧ u.zs.nextRestart = 1 ∧
      u.zs.restartStage = none ∧ u.zs.startDue = none ∧ u.zs.waiver = none) ∧
    (s.zs.st = .claiming ∨ s.zs.st = .restarting ∨ s.zs.st = .paused → u.icu.own = .none) ∧
    (s.rcp.record.isOpen = true →
      u.rcp.record = { s.rcp.record with
        sequence := u.rcp.record.sequence, count := min 255 (s.rcp.record.count + 1)
        grade := max s.rcp.record.grade grade
        permit := s.rcp.record.permit || origin == .console }) ∧
    (s.rcp.record.isOpen = false →
      u.rcp.record = { isOpen := true, permit := origin == .console, sequence := u.rcp.record.sequence
                       own := some own, origin := some origin, votes := votes, grade := grade, count := 1
                       stations := stations }))

/-- The twelve fault ids in ascending order (R211). -/
def allFaults : List FaultId :=
  [.sensorLost, .selftestFail, .selftestAborted, .lineIsolated, .lineSuppressed, .wireStuck,
   .channelUnconfirmed, .configMismatch, .recordFail, .recordLost, .idConflict, .configBad]

/-- Node time stays within 48 bits (R1), and Ta is never later than now (R131). -/
def timesOk (s : State) : Bool := decide (s.nodeTime ≤ maxNodeTime) && decide (s.zs.ta ≤ s.nodeTime)

/-- The transmit queue holds at most four frames, no two of the same class, in order of class (R46). -/
def queueOk (s : State) : Bool :=
  decide (s.slc.queue.length ≤ 4) && ascending (s.slc.queue.map entryClass)

/-- The line error score is 0..255. It is above 64 while the node is suppressed and below 128 while it is
not (R39, R40). -/
def scoreOk (s : State) : Bool :=
  decide (s.slc.score ≤ 255) &&
    (if suppressed s then decide (64 < s.slc.score) else decide (s.slc.score < 128))

/-- Every active fault is in the sticky set, and SELFTEST-ABORTED is never active (R210). -/
def faultsOk (s : State) : Bool :=
  allFaults.all (fun f => !active f s || hasFault f s.hm.sticky) && !active .selftestAborted s

/-- The inrush list holds at most one claim per station (R151). -/
def claimsOk (s : State) : Bool := decide ((s.icu.list.map (fun e => e.station)).Nodup)

/-- The pause-cause set is not empty in PAUSED and empty in every other state, and the held-back set is
not empty only while a restart stage is in progress. AFTERSHOCK, CONSOLE and RESET alone are held back
(R139). The restart gap runs only in RESTARTING with no stage in progress (R181). In a warm reset the
sequencer is not CLAIMING, and in PAUSED it holds RESET (R149, notes/assumptions/34.md). -/
def causesOk (s : State) : Bool :=
  (causesEmpty s.zs.pause == (s.zs.st != .paused)) &&
    (causesEmpty s.zs.held || (s.zs.st == .restarting && s.zs.restartStage.isSome)) &&
    !(s.zs.held.channel || s.zs.held.precheck || s.zs.held.line) &&
    (s.zs.restartGap.isNone || (s.zs.st == .restarting && s.zs.restartStage.isNone)) &&
    (s.phase != .warmReset || (s.zs.st != .claiming && (s.zs.st != .paused || s.zs.pause.reset)))

/-- The detector is IDLE while SENSOR-LOST is active and while the part is not running (R18, R187, and the
model's choice of notes/assumptions/34.md for a warm reset), and an own event is in progress in EVENT and in
no other state (R20, R21). -/
def detectorOk (s : State) : Bool :=
  (!active .sensorLost s || s.mp.det == .idle) && (running s || s.mp.det == .idle) &&
    (s.mp.inProgress == (s.mp.det == .event))

/-- The baselines stay within ±8,388,352 (R10), and S and L within 0..786,400 (R13, R16). -/
def averagesOk (s : State) : Bool :=
  decide (-8388352 ≤ s.mp.baseX ∧ s.mp.baseX ≤ 8388352) &&
    decide (-8388352 ≤ s.mp.baseY ∧ s.mp.baseY ≤ 8388352) &&
    decide (-8388352 ≤ s.mp.baseZ ∧ s.mp.baseZ ≤ 8388352) &&
    decide (0 ≤ s.mp.sta ∧ s.mp.sta ≤ 786400) && decide (0 ≤ s.mp.lta ∧ s.mp.lta ≤ 786400)

/-- What a node in LISTEN mode keeps to (R46, R94, R115): its sequencer is RUNNING or UNCONFIGURED, no
frame but STATUS is queued, it does not drive the Trip Wire, and it has no claim to make. -/
def listenQuiet (s : State) : Bool :=
  (s.zs.st == .running || s.zs.st == .unconfigured) && s.slc.queue.all (fun e => e == .status) &&
    !s.vtu.driving && (s.icu.own == .none || s.icu.own == .inForce)

/-- A channel of shutdown stage `k`, 1..8, has command SHUT for every `k` up to `n`. -/
def shutUpTo (n : Nat) (s : State) : Bool :=
  allChannels.all (fun c =>
    (chan s c).isNone || hasCmd .shut s c || (chanCfg s c).shutdownStage == 0 ||
      decide (n < (chanCfg s c).shutdownStage))

/-- In WATCH and AWAIT-PERMIT every staged channel has command SHUT, and in SHUTTING every channel of a
stage completed or in progress has (R121, R123). -/
def shedOk (s : State) : Bool :=
  match s.zs.st with
  | .watch => shutUpTo 8 s
  | .awaitPermit => shutUpTo 8 s
  | .shutting => shutUpTo (max (s.zs.stage.getD 0) s.zs.currentStage) s
  | .unconfigured => true
  | .starting => true
  | .running => true
  | .claiming => true
  | .restarting => true
  | .paused => true

/-- A frame is in flight exactly while the line state is SENDING, and a node sends only while it is running
and not suppressed (R31, R40, R47, R187). -/
def sendingOk (s : State) : Bool :=
  (s.slc.line == .sending) == s.slc.inFlight.isSome &&
    (s.slc.line != .sending || (running s && !suppressed s))

/-- The health output toggles exactly while the part is running in ARMED mode with no active fault (R213,
R214). -/
def healthOk (s : State) : Bool := s.hm.healthy == (running s && s.hm.mode == .armed && s.hm.active == noFaults)

/-- A close waits only in a running part with a record to close, and not behind a trip request of the node time
that stands (R196). -/
def closeOk (s : State) : Bool :=
  !s.rcp.closeWaits || (running s && s.rcp.record.isOpen && s.rcp.lastTripReq != some s.nodeTime)

/-- Until the cold start is over the sequencer is UNCONFIGURED (R115, R188). -/
def startOk (s : State) : Bool :=
  s.phase == .running || s.phase == .warmReset || s.zs.st == .unconfigured

/-- Everything that every step keeps. -/
def safe (s : State) : Bool :=
  timesOk s && queueOk s && scoreOk s && faultsOk s && claimsOk s && causesOk s && detectorOk s &&
    averagesOk s && sendingOk s && shedOk s && startOk s && healthOk s && closeOk s

end Sys2Proof.Machine
end

