-- ==== Sys2Proof/Certificates/Slice0/Obligations.lean ====
section
/-! DEFINITION. The statements of the HT-520 model for the provers. They follow the chapters of the manual,
and the promises that every step keeps stand last. -/

open Sys2Proof Sys2Proof.Machine

/-! ## The step and the passing of time -/

/-- A step takes the command at the front of the queue, and is its effect on the state with the queue's
rest. -/
def Obligations.StepTakesTheFrontCommand : Prop :=
  ∀ (c : Instr) (rest : List Instr) (s : State),
    s.pending = c :: rest → step s = exec c (s.setPending rest)

/-- While no command waits: without power nothing passes. With power a tick passes when nothing has fallen
due, which first takes a close that waits. Otherwise the step takes one of what has fallen due: the
deadlines, and the SOF of a frame that is queued while the line is idle and the node is not suppressed
(R1, R31, and the model's own choices of notes/assumptions/2.md and 30.md). -/
def Obligations.IdleStepTicksOrTakesADueDeadline : Prop :=
  ∀ s : State, s.pending = [] →
    (s.phase = .powerUp → step s = .next s) ∧
    (s.phase ≠ .powerUp → s.nodeTime ≤ maxNodeTime → dueCommands s = [] →
      s.phase ≠ .running ∨ s.rcp.closeWaits = false →
      step s = .next { s with nodeTime := min (s.nodeTime + 1) maxNodeTime }) ∧
    (s.phase = .running → s.nodeTime ≤ maxNodeTime → dueCommands s = [] → s.rcp.closeWaits = true →
      step s = .next { takeClose s with nodeTime := min (s.nodeTime + 1) maxNodeTime }) ∧
    (.transmitStart s.nodeTime ∈ dueCommands s ↔
      s.phase = .running ∧ s.slc.line = .idle ∧ active .lineSuppressed s = false ∧ s.slc.queue ≠ []) ∧
    (dueCommands s ≠ [] → ∃ c, c ∈ dueCommands s ∧ (step s = exec c s ∨ step s = exec c (drawn s)))

/-! ## Motion processing (Chapter 1) -/

/-- Steps 1, 2, 3, 5 and 7: the clamp changes the count −32768 alone. Against any baseline the detrended
value is within ±32767. The horizontal amplitude is the larger of the two values and half the smaller,
within 0..49,150, and its square is at most 5/4 of the true square. The sample amplitude is the larger of
it and the vertical value, within 0..49,150. A baseline moves by the 256th part of its distance to the
target and a running average by the 2^k-th part, both rounded down, and each lands between the old value
and the target. A baseline above its target falls by at least one, and one that is less than 256 below
stands still (R9, R10, R11, R13, R16). -/
def Obligations.SampleArithmeticStaysInRange : Prop :=
  (∀ c : RawCount, clampCount c = if c.toInt = -32768 then -32767 else c.toInt) ∧
  (∀ c b : Int, -32767 ≤ detrend c b ∧ detrend c b ≤ 32767 ∧
    (-32767 ≤ c - b / 256 → c - b / 256 ≤ 32767 → detrend c b = c - b / 256)) ∧
  (∀ p q r : Int, horizontal p q = max p.natAbs q.natAbs + min p.natAbs q.natAbs / 2 ∧
    amplitude p q r = max (horizontal p q) r.natAbs) ∧
  (∀ p q : Int, p.natAbs ≤ 32767 → q.natAbs ≤ 32767 →
    horizontal p q ≤ 49150 ∧
    4 * (horizontal p q * horizontal p q) ≤ 5 * (p.natAbs * p.natAbs + q.natAbs * q.natAbs)) ∧
  (∀ (p : Sample) (m : MotionState), sampleU p m ≤ 49150 ∧ sampleH p m ≤ sampleU p m) ∧
  (∀ c b : Int, nextBaseline c b = b + (256 * c - b) / 256 ∧
    min b (256 * c) ≤ nextBaseline c b ∧ nextBaseline c b ≤ max b (256 * c) ∧
    (256 * c < b → nextBaseline c b < b) ∧
    (b ≤ 256 * c → 256 * c < b + 256 → nextBaseline c b = b)) ∧
  (∀ (k u : Nat) (v : Int), average k u v = v + (16 * (u : Int) - v) / 2 ^ k ∧
    min v (16 * (u : Int)) ≤ average k u v ∧ average k u v ≤ max v (16 * (u : Int)))

/-- Step 4: mg(n) by the strap held, its values at the largest amplitude, and its use on the sample
amplitude for CI and on the peak in step 8 (R12). -/
def Obligations.MilliGConversion : Prop :=
  (∀ n : Nat, milliG true n = n * 125 / 256 ∧ milliG false n = n * 125 / 1024) ∧
  milliG true 49150 = 23999 ∧ milliG false 49150 = 5999 ∧
  ∀ (c : NodeConfig) (strap : Bool) (h u : Nat) (m : MotionState),
    (addFigures c strap h u m).pmg = milliG strap (max m.peak h) ∧
    (addFigures c strap h u m).ci =
      if c.uci < milliG strap u then min 4294967295 (m.ci + (milliG strap u - c.uci)) else m.ci

/-- Step 8: with figures that agree with each other, one more sample keeps them so, and neither P, nor CI,
nor the grade of the event decreases. Figures of 0 agree under a valid configuration (R17). -/
def Obligations.EventGradeNeverDecreases : Prop :=
  (∀ (c : NodeConfig) (strap : Bool) (h u : Nat) (m : MotionState),
    m.pmg = milliG strap m.peak → m.grade = eventGrade c m.pmg m.ci → m.ci ≤ 4294967295 →
    let n := addFigures c strap h u m
    n.pmg = milliG strap n.peak ∧ n.grade = eventGrade c n.pmg n.ci ∧ n.ci ≤ 4294967295 ∧
      m.peak ≤ n.peak ∧ h ≤ n.peak ∧ m.ci ≤ n.ci ∧ m.grade ≤ n.grade ∧ n.grade ≤ 4) ∧
  (∀ (c : NodeConfig) (m : MotionState), configValid c = true → eventGrade c 0 0 = 0 ∧ (zeroFigures m).grade = 0)

/-- A sample in IDLE, WARMUP or QUIET that opens no event changes the detector and its averages alone:
IDLE passes steps 1 and 2, the first sample of WARMUP seeds the baselines and leaves S and L at 0, each
later one counts toward 2^kl, and QUIET moves S and L. From step 2 of the cold start to its end the
samples are IDLE samples, and the 400th after a sensor loss clears SENSOR-LOST with the detector still
IDLE (R4, R7, R10, R13, R16, R18, R19, R187). -/
def Obligations.SampleOutsideAnEvent : Prop :=
  (∀ (t : Nat) (x y z : RawCount) (s : State),
    RunsAt t s ∨ ((s.phase = .readImage ∨ s.phase = .readRecord) ∧ s.nodeTime ≤ t ∧ t ≤ maxNodeTime) →
    s.mp.det = .idle →
    let idled (r : Nat) : MotionState := { s.mp with
      baseX := nextBaseline (clampCount x) s.mp.baseX
      baseY := nextBaseline (clampCount y) s.mp.baseY
      baseZ := nextBaseline (clampCount z) s.mp.baseZ
      missingCount := 0, missingDue := some (t + 100), recovery := r }
    (¬(active .sensorLost s = true ∧ s.mp.recovery = 399) →
      exec (.dataReady t x y z) s = .next { s with
        nodeTime := t
        mp := idled (if active .sensorLost s then s.mp.recovery + 1 else s.mp.recovery) }) ∧
    (s.phase ≠ .running → active .sensorLost s = true → s.mp.recovery = 399 →
      ∃ u, exec (.dataReady t x y z) s = .next u ∧ active .sensorLost u = false ∧
        (∀ f, f ≠ .sensorLost → active f u = active f s) ∧ u.hm.sticky = s.hm.sticky ∧
        (∀ j, j ≠ ownId s → peer u j = peer s j) ∧
        u = { s with nodeTime := t, mp := idled 0, pv := u.pv, hm := u.hm })) ∧
  ∀ (t : Nat) (x y z : RawCount) (s : State), RunsAt t s →
    let m := s.mp
    let p := sampleOf x y z
    (m.det = .warmup → active .sensorLost s = false → m.warmupCount = 0 →
      exec (.dataReady t x y z) s = .next { s with
        nodeTime := t
        mp := { m with
          baseX := 256 * clampCount x, baseY := 256 * clampCount y, baseZ := 256 * clampCount z
          sta := 0, lta := 0, missingCount := 0, missingDue := some (t + 100), warmupCount := 1
          det := if 2 ^ (cfg s).kl = 1 then .quiet else .warmup } }) ∧
    (m.det = .warmup → active .sensorLost s = false → m.warmupCount ≠ 0 →
      exec (.dataReady t x y z) s = .next { s with
        nodeTime := t
        mp := { m with
          baseX := nextBaseline (clampCount x) m.baseX
          baseY := nextBaseline (clampCount y) m.baseY
          baseZ := nextBaseline (clampCount z) m.baseZ
          sta := average (cfg s).ks (sampleU p m) m.sta
          lta := average (cfg s).kl (sampleU p m) m.lta
          missingCount := 0, missingDue := some (t + 100), warmupCount := m.warmupCount + 1
          det := if 2 ^ (cfg s).kl = m.warmupCount + 1 then .quiet else .warmup } }) ∧
    (m.det = .quiet → active .sensorLost s = false →
      8 * average (cfg s).ks (sampleU p m) m.sta <
        ((cfg s).onsetRatio : Int) * max m.lta (16 * ((cfg s).lmin : Int)) →
      exec (.dataReady t x y z) s = .next { s with
        nodeTime := t
        mp := { m with
          baseX := nextBaseline (clampCount x) m.baseX
          baseY := nextBaseline (clampCount y) m.baseY
          baseZ := nextBaseline (clampCount z) m.baseZ
          sta := average (cfg s).ks (sampleU p m) m.sta
          lta := average (cfg s).kl (sampleU p m) m.lta
          missingCount := 0, missingDue := some (t + 100) } })

/-- A sample in QUIET that passes the onset test opens an own event: the next event number, the onset
time, figures from 0, phase STRONG from Gs on and ONSET below it, L as it stood. The report is in the own
Peer View entry and, from a node in ARMED whose observations are not excluded, in the transmit queue. Ta
is now (R14, R17, R20, R22, R23, R131). -/
def Obligations.OnsetOpensAnEvent : Prop :=
  ∀ (t : Nat) (x y z : RawCount) (s : State), RunsAt t s → s.mp.det = .quiet →
    active .sensorLost s = false →
    let m := s.mp
    let p := sampleOf x y z
    let c := cfg s
    let sta := average c.ks (sampleU p m) m.sta
    let ci := if c.uci < milliG s.rcp.range16 (sampleU p m)
      then min 4294967295 (milliG s.rcp.range16 (sampleU p m) - c.uci) else 0
    let pmg := milliG s.rcp.range16 (sampleH p m)
    let g := eventGrade c pmg ci
    (c.onsetRatio : Int) * max m.lta (16 * (c.lmin : Int)) ≤ 8 * sta →
    ∃ u, exec (.dataReady t x y z) s = .next u ∧ SameAround s u ∧ u.nodeTime = t ∧
      u.mp = { m with
        baseX := nextBaseline (clampCount x) m.baseX
        baseY := nextBaseline (clampCount y) m.baseY
        baseZ := nextBaseline (clampCount z) m.baseZ
        sta := sta, missingCount := 0, missingDue := some (t + 100), det := .event, endHold := 0
        event := (m.event + 1) % 256, onsetTime := t, inProgress := true, peak := sampleH p m
        ci := ci, pmg := pmg, grade := g, strongReached := decide (c.gs ≤ g)
        phase := if c.gs ≤ g then .strong else .onset } ∧
      (∃ o, (peer u (ownId s)).observation = some o ∧ o.event = (m.event + 1) % 256 ∧
        o.phase = (if c.gs ≤ g then .strong else .onset) ∧ o.peak = pmg ∧ o.grade = g ∧
        ((∀ held, (peer s (ownId s)).observation = some held → held.event ≠ (m.event + 1) % 256) →
          o.onset = some t)) ∧
      (queueOk s = true → s.hm.mode = .armed → active .selftestFail s = false →
        .observe ((m.event + 1) % 256) (if c.gs ≤ g then .strong else .onset) t pmg g ∈ u.slc.queue) ∧
      (configured s = true → u.vtu.votes = (countedSet u).length) ∧
      (s.hm.mode = .listen ∨ active .selftestFail s = true →
        ∀ e ∈ u.slc.queue, entryClass e = 1 → e ∈ s.slc.queue) ∧
      (s.zs.st ≠ .unconfigured → u.zs.ta = max s.zs.ta t)

/-- A sample in EVENT moves S and the figures, counts toward the end by quiet, and ends the event at the
Dth quiet sample in a row or when its length has run out, when L becomes S. A grade increase that does not
end the event is reported as STRONG the first time it reaches Gs and as UPDATE otherwise. An end goes to
QUIET with phase END. The own entry carries each report, and so does the transmit queue of a node in ARMED
whose observations are not excluded. Ta is now (R15, R17, R21 to R24). -/
def Obligations.EventSampleMovesOrEndsTheEvent : Prop :=
  ∀ (t : Nat) (x y z : RawCount) (s : State), RunsAt t s → s.mp.det = .event →
    active .sensorLost s = false →
    let m := s.mp
    let p := sampleOf x y z
    let c := cfg s
    let sta := average c.ks (sampleU p m) m.sta
    let hold := if 8 * sta < (c.endRatio : Int) * max m.lta (16 * (c.lmin : Int)) then m.endHold + 1 else 0
    let long := c.emax * 10000 ≤ t - m.onsetTime
    let isOver := c.endHold ≤ hold ∨ long
    let figures := addFigures c s.rcp.range16 (sampleH p m) (sampleU p m) m
    let strong := c.gs ≤ figures.grade ∧ m.strongReached = false
    let raised := m.grade < figures.grade
    ∃ u, exec (.dataReady t x y z) s = .next u ∧ SameAround s u ∧ u.nodeTime = t ∧
      u.mp = { m with
        baseX := nextBaseline (clampCount x) m.baseX
        baseY := nextBaseline (clampCount y) m.baseY
        baseZ := nextBaseline (clampCount z) m.baseZ
        sta := sta, lta := if long then sta else m.lta, endHold := hold
        missingCount := 0, missingDue := some (t + 100)
        peak := figures.peak, ci := figures.ci, pmg := figures.pmg, grade := figures.grade
        det := if isOver then .quiet else .event
        inProgress := if isOver then false else m.inProgress
        phase := if isOver then .ended else if raised then (if strong then .strong else .update) else m.phase
        strongReached := m.strongReached || decide (¬isOver ∧ raised ∧ strong) } ∧
      (isOver ∨ raised → ∃ o, (peer u (ownId s)).observation = some o ∧ o.event = m.event ∧
        o.phase = (if isOver then .ended else if strong then .strong else .update) ∧
        o.peak = figures.pmg ∧ o.grade = figures.grade) ∧
      (isOver ∨ raised → queueOk s = true → s.hm.mode = .armed → active .selftestFail s = false →
        .observe m.event (if isOver then .ended else if strong then .strong else .update) m.onsetTime
          figures.pmg figures.grade ∈ u.slc.queue) ∧
      (s.hm.mode = .listen ∨ active .selftestFail s = true →
        ∀ e ∈ u.slc.queue, entryClass e = 1 → e ∈ s.slc.queue) ∧
      (isOver ∨ raised → configured s = true → u.vtu.votes = (countedSet u).length) ∧
      (¬isOver → ¬raised → u.pv = s.pv ∧ u.vtu = s.vtu) ∧
      (s.zs.st ≠ .unconfigured → u.zs.ta = max s.zs.ta t)

/-- The samples of a self-test. Measuring samples 1..39 leave the baselines, and add the vertical value
from the 21st on. Measuring sample 40 takes the verdict on floor(sum/20): within Dmin..Dmax it passes and
clears SELFTEST-FAIL, and otherwise it fails and makes it active, and deflection goes off. Settle samples
move the baselines, and the 400th takes the detector out of MASKED as the outcome and the start have it,
with the due time T hours on (R25, R26, R27). -/
def Obligations.SelfTestSamplesAndVerdict : Prop :=
  (∀ (t : Nat) (x y z : RawCount) (s : State), RunsAt t s → s.mp.det = .masked →
    active .sensorLost s = false →
    let m := s.mp
    let p := sampleOf x y z
    let settled : MotionState := { m with
      baseX := nextBaseline (clampCount x) m.baseX
      baseY := nextBaseline (clampCount y) m.baseY
      baseZ := nextBaseline (clampCount z) m.baseZ
      missingCount := 0, missingDue := some (t + 100), settleCount := m.settleCount + 1 }
    let due := if (cfg s).testHours = 0 then none else some (t + (cfg s).testHours * 36000000)
    let level := 16 * (sampleU p m : Int)
    (m.testPart = .measuring → m.testCount ≠ 39 →
      exec (.dataReady t x y z) s = .next { s with
        nodeTime := t
        mp := { m with
          missingCount := 0, missingDue := some (t + 100), testCount := m.testCount + 1
          testSum := if 20 ≤ m.testCount then m.testSum + detrend (clampCount z) m.baseZ
            else m.testSum } }) ∧
    (m.testPart ≠ .measuring → m.settleCount ≠ 399 →
      exec (.dataReady t x y z) s = .next { s with nodeTime := t, mp := settled }) ∧
    (m.settleCount = 399 → m.testPart = .passed ∨ m.testPart = .aborted → m.testFromIdle = false →
      exec (.dataReady t x y z) s = .next { s with
        nodeTime := t
        mp := { settled with testDue := due, det := .quiet, sta := level, lta := level } }) ∧
    (m.settleCount = 399 → m.testPart = .passed → m.testFromIdle = true →
      exec (.dataReady t x y z) s = .next { s with
        nodeTime := t
        mp := { settled with testDue := due, det := .warmup, warmupCount := 0 } }) ∧
    (m.settleCount = 399 → m.testPart = .failed ∨ (m.testPart = .aborted ∧ m.testFromIdle = true) →
      exec (.dataReady t x y z) s = .next { s with
        nodeTime := t, mp := { settled with testDue := due, det := .idle } })) ∧
  (∀ (t : Nat) (x y z : RawCount) (s : State), RunsAt t s → s.mp.det = .masked →
    s.mp.testPart = .measuring → s.mp.testCount = 39 → active .sensorLost s = false →
    let sum := s.mp.testSum + detrend (clampCount z) s.mp.baseZ
    let pass := ((cfg s).dmin : Int) ≤ sum / 20 ∧ sum / 20 ≤ ((cfg s).dmax : Int)
    ∃ u, exec (.dataReady t x y z) s = .next u ∧ SameAround s u ∧ u.nodeTime = t ∧
      u.mp = { s.mp with
        missingCount := 0, missingDue := some (t + 100), testCount := 40, testSum := sum
        deflection := false, settleCount := 0, testPart := if pass then .passed else .failed } ∧
      active .selftestFail u = decide (¬pass) ∧
      (¬pass → active .selftestFail s = false → hasFault .selftestFail u.hm.sticky = true))

/-- An expiry of the missing deadline counts one missing sample, up to 40, and moves on by 50 ticks. The
40th raises SENSOR-LOST, with the detector IDLE: an own event in progress ends with phase END in the own
entry, and a self-test in its measuring samples is aborted with deflection off and the notice entered. The
400th sample in IDLE after it clears SENSOR-LOST, and the detector enters WARMUP if it may (R5, R6, R7,
R28). -/
def Obligations.SensorLossAndRecovery : Prop :=
  (∀ (t d : Nat) (s : State), RunsAt t s → s.mp.missingDue = some d → d ≤ t → s.mp.missingCount ≤ 40 →
    s.mp.missingCount ≠ 39 →
    exec (.missingDeadline t) s = .next { s with
      nodeTime := t
      mp := { s.mp with missingCount := min 40 (s.mp.missingCount + 1), recovery := 0,
                        missingDue := some (d + 50) } }) ∧
  (∀ (t d : Nat) (s : State), RunsAt t s → s.mp.missingDue = some d → d ≤ t → s.mp.missingCount = 39 →
    ∃ u, exec (.missingDeadline t) s = .next u ∧ SameAround s u ∧ u.nodeTime = t ∧
      active .sensorLost u = true ∧ hasFault .sensorLost u.hm.sticky = true ∧
      u.mp.det = .idle ∧ u.mp.missingCount = 40 ∧ u.mp.recovery = 0 ∧ u.mp.missingDue = some (d + 50) ∧
      u.mp.baseX = s.mp.baseX ∧ u.mp.baseY = s.mp.baseY ∧ u.mp.baseZ = s.mp.baseZ ∧
      u.mp.sta = s.mp.sta ∧ u.mp.lta = s.mp.lta ∧ u.mp.event = s.mp.event ∧ u.mp.grade = s.mp.grade ∧
      (s.mp.det = .event → u.mp.inProgress = false ∧ u.mp.phase = .ended ∧
        ∃ o, (peer u (ownId s)).observation = some o ∧ o.event = s.mp.event ∧ o.phase = .ended ∧
          o.grade = s.mp.grade) ∧
      (s.mp.det = .masked → s.mp.testPart = .measuring →
        u.mp.deflection = false ∧ hasFault .selftestAborted u.hm.sticky = true)) ∧
  (∀ (t : Nat) (x y z : RawCount) (s : State), RunsAt t s → s.mp.det = .idle →
    active .sensorLost s = true → s.mp.recovery = 399 →
    ∃ u, exec (.dataReady t x y z) s = .next u ∧ SameAround s u ∧ u.nodeTime = t ∧
      active .sensorLost u = false ∧ u.mp.recovery = 0 ∧ u.mp.missingCount = 0 ∧
      u.mp.det = (if configured s = true ∧ active .selftestFail s = false then .warmup else .idle) ∧
      u.mp.baseZ = nextBaseline (clampCount z) s.mp.baseZ)

/-- At its due time a self-test starts in QUIET, or in IDLE with SELFTEST-FAIL active, SENSOR-LOST clear
and a valid configuration: the detector enters MASKED with deflection on and the counts at 0. That no due
time runs during the test is the model's choice (notes/assumptions/16.md). In any other detector state the
due time moves on by one hour (R25). -/
def Obligations.SelfTestFallsDue : Prop :=
  ∀ (t d : Nat) (s : State), RunsAt t s → s.mp.testDue = some d → d ≤ t →
    let may := s.mp.det = .quiet ∨
      (s.mp.det = .idle ∧ active .selftestFail s = true ∧ active .sensorLost s = false ∧ configured s = true)
    (may → exec (.selftestDue t) s = .next { s with
      nodeTime := t
      mp := { s.mp with testDue := none, testFromIdle := decide (s.mp.det = .idle), det := .masked,
                        deflection := true, testPart := .measuring, testCount := 0, testSum := 0,
                        settleCount := 0 } }) ∧
    (¬may → exec (.selftestDue t) s = .next { s with
      nodeTime := t, mp := { s.mp with testDue := some (d + 36000000) } })

/-! ## The Site Line (Chapter 2) -/

/-- The line states that the line itself moves, from step 4 of the cold start on and outside a warm reset:
ten recessive bits lead from SEEKING, and from the count after a delimiter, to IDLE. A SOF edge of another
station leads from IDLE to RECEIVING, stamped. A dominant bit in the count leads to SEEKING, and so does a
header of class 6 or 7, which leaves the score as it is. The count after a delimiter as a line state of
its own, and that nothing moves in any other line state, are the model's choices (notes/assumptions/12.md
and 8.md) (R31, R32, R41). -/
def Obligations.LineStatesFollowTheLine : Prop :=
  ∀ (t : Nat) (s : State), RunsAt t s ∨ (s.phase = .readRecord ∧ s.nodeTime ≤ t ∧ t ≤ maxNodeTime) →
    exec (.lineIdle t) s = .next { s with
      nodeTime := t
      slc := { s.slc with
        line := if s.slc.line = .seeking ∨ s.slc.line = .counting then .idle else s.slc.line } } ∧
    exec (.otherStationSof t) s = .next { s with
      nodeTime := t
      slc := { s.slc with
        line := if s.slc.line = .idle then .receiving else s.slc.line
        tSof := if s.slc.line = .idle then t else s.slc.tSof } } ∧
    exec (.dominantBitBeforeIdle t) s = .next { s with
      nodeTime := t
      slc := { s.slc with line := if s.slc.line = .counting then .seeking else s.slc.line } } ∧
    exec (.ignoredFrame t) s = .next { s with
      nodeTime := t
      slc := { s.slc with line := if s.slc.line = .receiving then .seeking else s.slc.line } }

/-- At a bit time at which a SOF may start, the first entry is copied and sent with the node's id. The
copy's age is the time since the onset or the trip, at most 65535, and a STATUS is composed from the state
as it stands: an UNCONFIGURED node reports LISTEN and the record's site grade, and the causes held back
are reported with the pause causes. A record whose close waits is reported as closed, which is the model's
choice (notes/assumptions/30.md). The entry stays in the queue, in flight. A node that is suppressed, or
whose line is not idle, starts no SOF (R31, R36, R40, R42, R47, R52, R54, R191, R209). -/
def Obligations.TransmitStartSendsTheFirstEntry : Prop :=
  (∀ (t : Nat) (s : State), RunsAt t s →
    (∀ (e : TxEntry) (rest : List TxEntry), s.slc.queue = e :: rest → s.slc.line = .idle →
      active .lineSuppressed s = false →
      exec (.transmitStart t) s = .next { s with
        nodeTime := t
        slc := { s.slc with
          line := .sending, tSof := t
          inFlight := some {
            copy := { sender := s.rcp.stationId
                      body := match e with
                        | .trip own origin votes grade since =>
                          .trip { own := own, origin := origin, votes := votes, grade := grade
                                  age := min 65535 (t - since) }
                        | .observe event phase onset peak grade =>
                          .observe { event := event, phase := phase, age := min 65535 (t - onset)
                                     peak := peak, grade := grade }
                        | .claim n w d => .claim { number := n, weight := w, duration := d }
                        | .release n reason => .release { number := n, reason := reason }
                        | .status => .status (composeStatus s) }
            tSof := t, fate := .unchanged, releaseTied := false } } }) ∧
    (s.slc.line ≠ .idle ∨ active .lineSuppressed s = true ∨ s.slc.queue = [] →
      exec (.transmitStart t) s = .next { s with nodeTime := t })) ∧
  (∀ s : State,
    composeStatus s =
      { mode := if s.rcp.config.isSome then s.hm.mode else .listen
        detector := s.mp.det, sequencer := s.zs.st, currentStage := s.zs.currentStage
        nextStage := s.zs.nextRestart
        pause := { aftershock := s.zs.pause.aftershock || s.zs.held.aftershock
                   console := s.zs.pause.console || s.zs.held.console
                   channel := s.zs.pause.channel || s.zs.held.channel
                   precheck := s.zs.pause.precheck || s.zs.held.precheck
                   line := s.zs.pause.line || s.zs.held.line
                   reset := s.zs.pause.reset || s.zs.held.reset }
        grade := if s.rcp.config.isSome then s.zs.grade else s.rcp.record.grade
        recordOpen := s.rcp.record.isOpen && !s.rcp.closeWaits
        permit := s.rcp.record.permit && !s.rcp.closeWaits
        lastError := s.slc.lastError, active := s.hm.active, sticky := s.hm.sticky
        digest := s.rcp.digest, unconfirmed := (composeStatus s).unconfirmed
        disagree := (composeStatus s).disagree, lastCode := s.hm.lastCode
        lastResult := s.hm.lastResult, wouldTrip := s.vtu.wouldTrip } ∧
    (∀ c : Channel, (composeStatus s).unconfirmed.getLsbD c.val = true ↔
      ∃ r, chan s c = some r ∧ r.conf = .unconfirmed) ∧
    (∀ c : Channel, (composeStatus s).disagree.getLsbD c.val = true ↔
      ∃ r, chan s c = some r ∧ r.disagree = true))

/-- Lost arbitration leaves the score and the entry as they are and the node receives with the same SOF
stamp. A BIT error at a score below 120 adds 8, records BIT and leads to SEEKING, and the entry stays. A
RELEASE that is tied to the CLAIM in flight goes with the attempt (R35, R38, R39, R47, R49). -/
def Obligations.AttemptThatFails : Prop :=
  ∀ (t : Nat) (a : Attempt) (s : State), RunsAt t s → s.slc.line = .sending → s.slc.inFlight = some a →
    let left := if a.releaseTied = true then
        match a.copy.body with
        | .claim p => s.slc.queue.filter (fun e =>
            match e with | .release n _ => n != p.number | _ => true)
        | _ => s.slc.queue
      else s.slc.queue
    exec (.arbitrationLost t) s = .next { s with
      nodeTime := t, slc := { s.slc with line := .receiving, queue := left, inFlight := none } } ∧
    (s.slc.score < 120 →
      exec (.bitError t) s = .next { s with
        nodeTime := t
        slc := { s.slc with line := .seeking, queue := left, inFlight := none
                            score := s.slc.score + 8, lastError := .bit } })

/-- At a score of 120 or more one more error begins suppression: as sender a BIT error, as receiver a
STUFF, CRC or FORM error. At a lower score the error adds 8 and records its kind, and a receive error
while the own claim settles is noted by the ICU (R37 to R40, R160, R210). -/
def Obligations.ErrorsRaiseTheScore : Prop :=
  (∀ (t : Nat) (kind : RxError) (s : State), RunsAt t s → s.slc.line = .receiving → s.slc.score < 120 →
    exec (.receiveError t kind) s = .next { s with
      nodeTime := t
      slc := { s.slc with line := .seeking, score := s.slc.score + 8
                          lastError := match kind with | .stuff => .stuff | .crc => .crc | .form => .form }
      icu := { s.icu with settleError := s.icu.settleError || s.icu.own == .settling } }) ∧
  (∀ (t : Nat) (kind : RxError) (s : State), RunsAt t s → s.slc.line = .receiving → 120 ≤ s.slc.score →
    ∃ u, exec (.receiveError t kind) s = .next u ∧ SameAround s u ∧ u.nodeTime = t ∧
      u.slc.line = .seeking ∧ u.slc.score = min 255 (s.slc.score + 8) ∧
      active .lineSuppressed u = true ∧ maySend u = false ∧
      u.slc.lastError = match kind with | .stuff => .stuff | .crc => .crc | .form => .form) ∧
  (∀ (t : Nat) (s : State), RunsAt t s → s.slc.line = .sending → 120 ≤ s.slc.score →
    ∃ u, exec (.bitError t) s = .next u ∧ SameAround s u ∧ u.nodeTime = t ∧
      u.slc.line = .seeking ∧ u.slc.score = min 255 (s.slc.score + 8) ∧
      active .lineSuppressed u = true ∧ maySend u = false ∧ u.slc.lastError = .bit)

/-- A frame that completes at a node that is not suppressed lowers the score by 1 and stamps its end. Its
entry leaves the queue if it has not been replaced since the SOF. The own CLAIM, if the claim is still
wanted, goes to the end of the inrush list with completion and expiry, and settles for Ts (R39, R43, R47,
R159). -/
def Obligations.FrameThatCompletes : Prop :=
  ∀ (t : Nat) (a : Attempt) (s : State), RunsAt t s → s.slc.line = .sending → s.slc.inFlight = some a →
    active .lineSuppressed s = false →
    let after : LineCtl := { s.slc with
      line := .counting, tEnd := t, score := s.slc.score - 1, inFlight := none
      queue := if a.fate = .unchanged
        then s.slc.queue.filter (fun e => entryClass e != bodyClass a.copy.body) else s.slc.queue }
    ((∀ p, a.copy.body = .claim p → s.icu.own ≠ .queued ∨ p.number ≠ s.icu.lastNumber) →
      exec (.frameCompleted t) s = .next { s with nodeTime := t, slc := after }) ∧
    (∀ p, a.copy.body = .claim p → s.icu.own = .queued → p.number = s.icu.lastNumber →
      exec (.frameCompleted t) s = .next { s with
        nodeTime := t, slc := after
        icu := { s.icu with
          list := s.icu.list.filter (fun e => e.station != s.rcp.stationId) ++
            [{ station := s.rcp.stationId, number := p.number, weight := s.icu.weight, completion := t,
               expiry := t + s.icu.duration * 1000 }]
          own := .settling, settleDue := some (t + (cfg s).ts), settleError := false
          ownExpiry := some (t + s.icu.duration * 1000) } })

/-- A queue that holds at most four frames in order of class keeps so when a frame is placed. The frame is
in it, in place of any of its class, unless it is a STATUS that overflows. Every frame of another class
stays, but for a STATUS that an overflow displaces. Nothing but the queue and the fate of the entry in
flight changes. The attempt of an entry whose values are replaced is marked as replaced, and that of a
STATUS displaced by an overflow as removed. Any other attempt stands as it is, also one whose entry has
been removed before, and the copy, the stamp and a tied RELEASE of every attempt stay (R46 to R48, R51).
-/
def Obligations.PlaceKeepsTheQueue : Prop :=
  ∀ (e : TxEntry) (s : State), queueOk s = true →
    queueOk (place e s) = true ∧
    (e ∈ (place e s).slc.queue ∨ (e = .status ∧ s.slc.queue.length = 4 ∧ place e s = s)) ∧
    (∀ x ∈ s.slc.queue, entryClass x ≠ entryClass e → x ≠ .status → x ∈ (place e s).slc.queue) ∧
    (s.slc.queue.length < 4 → .status ∈ s.slc.queue → .status ∈ (place e s).slc.queue) ∧
    (∀ x ∈ (place e s).slc.queue, x = e ∨ (x ∈ s.slc.queue ∧ entryClass x ≠ entryClass e)) ∧
    place e s = { s with slc := { s.slc with queue := (place e s).slc.queue
                                             inFlight := (place e s).slc.inFlight } } ∧
    (s.slc.inFlight = none → (place e s).slc.inFlight = none) ∧
    (∀ a, s.slc.inFlight = some a →
      let own := bodyClass a.copy.body
      let stands := a.fate ≠ .removed
      let replaced := stands ∧ own = entryClass e ∧ ∃ x ∈ s.slc.queue, entryClass x = entryClass e
      let displaced := stands ∧ own = 5 ∧ s.slc.queue.length = 4 ∧ .status ∈ s.slc.queue ∧
        ∀ x ∈ s.slc.queue, entryClass x ≠ entryClass e
      (replaced → (place e s).slc.inFlight = some { a with fate := .replaced }) ∧
      (displaced → (place e s).slc.inFlight = some { a with fate := .removed }) ∧
      (¬replaced → ¬displaced → (place e s).slc.inFlight = some a))

/-- The line's deadlines, and a conflicting frame. The ID-CONFLICT clearing deadline clears the fault, and
the STATUS period queues a STATUS and moves on by Ps. A conflicting frame lowers the score, marks the line
heard, raises ID-CONFLICT with its deadline, and goes to no block. It ends isolation, and suppression at a
score of 64 or below. That a conflicting frame moves the heard deadline also at that deadline's own node
time, and later while the deadline is not yet taken, is the model's choice (notes/assumptions/35.md).
Where a valid frame of any station makes the line usable again, LINE leaves a pause, and a stage begins
when the pause held nothing else. The heard deadline raises LINE-ISOLATED, and the line is then unusable:
a node in CLAIMING withdraws its claim and begins the stage if its weight is within A, and otherwise
pauses with LINE (R39 to R41, R44, R45, R52, R139, R143, R170). -/
def Obligations.LineDeadlinesAndConflict : Prop :=
  (∀ (t d : Nat) (s : State), RunsAt t s → s.slc.conflictDue = some d → d ≤ t →
    exec (.idConflictDeadline t) s = .next
      (clearFault .idConflict { s with nodeTime := t, slc := { s.slc with conflictDue := none } })) ∧
  (∀ (t d : Nat) (s : State), RunsAt t s → s.slc.statusDue = some d → d ≤ t →
    exec (.statusPeriod t) s = .next
      (place .status { s with
        nodeTime := t, slc := { s.slc with statusDue := some (d + (cfg s).ps * 10000) } })) ∧
  (∀ (c : Instr) (t : Nat) (s : State), frameArrival c = some (t, ownId s) → c.wellFormed = true →
    RunsAt t s → s.slc.line = .receiving → active .lineSuppressed s = false →
    active .lineIsolated s = false →
    exec c s = .next (raiseFault .idConflict { s with
      nodeTime := t
      slc := { s.slc with
        line := .counting, tEnd := t, score := s.slc.score - 1, lastHeard := t
        heardDue := some (t + threePs s), conflictDue := some (t + threePs s) } })) ∧
  (∀ (c : Instr) (t : Nat) (s : State), frameArrival c = some (t, ownId s) → c.wellFormed = true →
    RunsAt t s → s.slc.line = .receiving → active .lineSuppressed s = true ∨ active .lineIsolated s = true →
    ∃ u, exec c s = .next u ∧ SameAround s u ∧ u.nodeTime = t ∧
      u.slc.line = .counting ∧ u.slc.tSof = s.slc.tSof ∧ u.slc.tEnd = t ∧ u.slc.score = s.slc.score - 1 ∧
      u.slc.lastHeard = t ∧ u.slc.heardDue = some (t + threePs s) ∧
      u.slc.conflictDue = some (t + threePs s) ∧
      active .idConflict u = true ∧ hasFault .idConflict u.hm.sticky = true ∧ active .lineIsolated u = false ∧
      active .lineSuppressed u = (active .lineSuppressed s && decide (64 < s.slc.score - 1)) ∧
      u.mp = s.mp ∧ u.pv = s.pv ∧ u.vtu = s.vtu ∧ LineReturns t s u) ∧
  (∀ (t : Nat) (i : StationId) (s : State), RunsAt t s → i ≠ ownId s → LineReturns t s (heardFrame t i s)) ∧
  (∀ (t d : Nat) (s : State), RunsAt t s → s.slc.heardDue = some d → d ≤ t →
    ∃ u, exec (.heardDeadline t) s = .next u ∧ SameAround s u ∧ u.nodeTime = t ∧
      active .lineIsolated u = true ∧ hasFault .lineIsolated u.hm.sticky = true ∧ lineUsable u = false ∧
      u.slc.heardDue = none ∧ u.slc.line = s.slc.line ∧ u.slc.score = s.slc.score ∧ u.mp = s.mp ∧
      u.pv = s.pv ∧ u.vtu = s.vtu ∧ u.rcp = s.rcp ∧
      (s.zs.st ≠ .claiming ∨ lineUsable s = false → u.zs = s.zs ∧ u.cd = s.cd ∧ u.icu = s.icu) ∧
      (s.zs.st = .claiming → lineUsable s = true → (cfg s).a < s.zs.stageWeight →
        u.zs.st = .paused ∧ u.zs.pause = { noCauses with line := true } ∧ u.cd = s.cd ∧
        (s.icu.own ≠ .inForce → u.icu.own = .none)) ∧
      (s.zs.st = .claiming → lineUsable s = true → s.zs.stageWeight ≤ (cfg s).a →
        u.zs.st = .restarting ∧ u.zs.restartStage = some s.zs.nextRestart ∧
        (s.icu.own ≠ .inForce → u.icu.own = .none)))

/-- A valid frame from another station, of any class, lowers the score, is stamped, marks the line heard
and the station PRESENT, clears LINE-ISOLATED, and ends suppression at a score of 64 or below. That it
moves the heard deadline also at that deadline's own node time, and later while the deadline is not yet
taken, is the model's choice (notes/assumptions/35.md). On an UNCONFIGURED node it goes to no other block
(R39, R40, R41, R45, R58). -/
def Obligations.ValidFrameIsHeard : Prop :=
  ∀ (c : Instr) (t : Nat) (i : StationId) (s : State), frameArrival c = some (t, i) →
    c.wellFormed = true → RunsAt t s → s.slc.line = .receiving → i ≠ ownId s →
    ∃ u, exec c s = .next u ∧ SameAround s u ∧ u.nodeTime = t ∧
      u.slc.line = .counting ∧ u.slc.tSof = s.slc.tSof ∧ u.slc.tEnd = t ∧
      u.slc.score = s.slc.score - 1 ∧ u.slc.lastError = s.slc.lastError ∧
      u.slc.lastHeard = t ∧ u.slc.heardDue = some (t + threePs s) ∧
      active .lineIsolated u = false ∧
      active .lineSuppressed u = (active .lineSuppressed s && decide (64 < s.slc.score - 1)) ∧
      (peer u i).presence = .present ∧ (peer u i).lastHeard = t ∧
      (peer u i).silenceDue = some (t + threePs s) ∧
      (configured s = false → s.zs.st = .unconfigured →
        u.mp = s.mp ∧ u.vtu = s.vtu ∧ u.cd = s.cd ∧ u.zs = s.zs ∧ u.icu = s.icu ∧ u.rcp = s.rcp ∧
        u.hm.lastCode = s.hm.lastCode ∧ u.hm.lastResult = s.hm.lastResult ∧
        (peer u i).summary = (peer s i).summary ∧ (peer u i).observation = (peer s i).observation)

/-- A frame whose payload field lies outside its range is a FORM error and nothing else (R37, R53, R54).
-/
def Obligations.FieldOutOfRangeIsAFormError : Prop :=
  ∀ (c : Instr) (t : Nat) (i : StationId) (s : State), frameArrival c = some (t, i) → t ≤ maxNodeTime →
    c.wellFormed = false → exec c s = exec (.receiveError t .form) s

/-- A receiver takes from the bits that a sender puts on the line exactly the frame that was sent: header,
fields, CRC, stuff bits and delimiter, for every frame whose fields are in range (R32, R33, R34, R53,
R54). -/
def Obligations.FrameSurvivesTheLine : Prop :=
  ∀ f : Frame, frameInRange f = true → receive (lineBits f) = .frame f

/-! ## The Peer View (Chapter 3) -/

/-- The onset that a received frame's stamps give: unknown at age 65535, and otherwise t_sof − age − Lc,
or 0 where that is less than 0, never after t_sof, and so never later than the present. An OBSERVE of a
new event stores it as it comes out (R65). -/
def Obligations.OnsetReconstruction : Prop :=
  (∀ tSof age lc : Nat,
    (age = 65535 → reconstructOnset tSof age lc = none) ∧
    (age ≠ 65535 → ∃ on, reconstructOnset tSof age lc = some on ∧
      (on : Int) = max 0 ((tSof : Int) - age - lc) ∧ on ≤ tSof)) ∧
  (∀ (t : Nat) (i : StationId) (p : ObservePayload) (s : State), RunsAt t s → s.slc.line = .receiving →
    i ≠ ownId s → configured s = true → observeInRange p = true →
    (∀ held, (peer s i).observation = some held → held.event ≠ p.event) →
    ∃ u, exec (.observeFrame t i p) s = .next u ∧
      (peer u i).observation = some { event := p.event, phase := p.phase
                                      onset := reconstructOnset s.slc.tSof p.age (cfg s).lc
                                      peak := p.peak, grade := p.grade } ∧
      (s.slc.tSof ≤ t → ∀ o on, (peer u i).observation = some o → o.onset = some on → on ≤ u.nodeTime))

/-- An OBSERVE from another station is written into its entry. With the event number the entry holds,
phase, peak and grade are taken and the onset and the window deadline stay. With another, the onset is
reconstructed, and the entry has a window deadline if it is counted. The vote count is taken, Ta moves to
now, and ONSET or STRONG aborts a self-test that is measuring (R28, R64 to R68, R71, R72, R75, R131). -/
def Obligations.ObserveIsStored : Prop :=
  ∀ (t : Nat) (i : StationId) (p : ObservePayload) (s : State), RunsAt t s → s.slc.line = .receiving →
    i ≠ ownId s → configured s = true → observeInRange p = true →
    let onset := if p.age = 65535 then none else some (s.slc.tSof - p.age - (cfg s).lc)
    ∃ u, exec (.observeFrame t i p) s = .next u ∧ SameAround s u ∧ u.nodeTime = t ∧
      (∀ held, (peer s i).observation = some held → held.event = p.event →
        (peer u i).observation = some { event := p.event, phase := p.phase, onset := held.onset
                                        peak := p.peak, grade := p.grade } ∧
        (peer u i).windowDue = (peer s i).windowDue) ∧
      ((∀ held, (peer s i).observation = some held → held.event ≠ p.event) →
        (peer u i).observation = some { event := p.event, phase := p.phase, onset := onset
                                        peak := p.peak, grade := p.grade } ∧
        (∀ on, onset = some on →
          (peer u i).windowDue = if t ≤ on + (cfg s).w then some (on + (cfg s).w + 1) else none) ∧
        (onset = none → (peer u i).windowDue = none ∧ i ∉ countedSet u)) ∧
      (∀ j, j ≠ i → (peer u j).observation = (peer s j).observation) ∧
      u.vtu.votes = (countedSet u).length ∧
      (s.zs.st ≠ .unconfigured → u.zs.ta = max s.zs.ta t) ∧
      (s.mp.det = .masked → s.mp.testPart = .measuring → p.phase = .onset ∨ p.phase = .strong →
        u.mp.testPart = .aborted ∧ u.mp.deflection = false ∧
        hasFault .selftestAborted u.hm.sticky = true) ∧
      (s.mp.det ≠ .masked ∨ s.mp.testPart ≠ .measuring ∨ p.phase = .update ∨ p.phase = .ended → u.mp = s.mp)

/-- CONFIG-MISMATCH is active exactly while an entry that takes part in the digest comparison differs from
the own digest. A STATUS stores the station's summary. A valid frame of any class makes a SILENT station
PRESENT again, and the summary that it kept is compared again. A silence deadline makes the entry SILENT,
keeps its observation and summary, and drops the station's claim (R58, R59, R61, R62, R63, R155). -/
def Obligations.SummariesAreCompared : Prop :=
  let differs (u : State) (j : StationId) : Prop :=
    j ≠ ownId u ∧ (peer u j).presence = .present ∧ inConsoleSet u j = false ∧
    ∃ m, (peer u j).summary = some m ∧ m.sequencer ≠ .unconfigured ∧ m.digest ≠ u.rcp.digest
  (∀ (t : Nat) (i : StationId) (p : StatusPayload) (s : State), RunsAt t s → s.slc.line = .receiving →
    i ≠ ownId s → configured s = true → statusInRange p = true →
    ∃ u, exec (.statusFrame t i p) s = .next u ∧ SameAround s u ∧ u.nodeTime = t ∧
      (peer u i).summary = some { sequencer := p.sequencer, digest := p.digest } ∧
      (∀ j, j ≠ i → peer u j = peer s j) ∧ (peer u i).observation = (peer s i).observation ∧
      (active .configMismatch u = true ↔ ∃ j, differs u j) ∧
      u = { heardFrame t i s with pv := u.pv, hm := u.hm }) ∧
  (∀ (c : Instr) (t : Nat) (i : StationId) (m : Summary) (s : State), frameArrival c = some (t, i) →
    c.wellFormed = true → RunsAt t s → s.slc.line = .receiving → i ≠ ownId s →
    (peer s i).presence = .silent → (peer s i).summary = some m →
    ∃ u, exec c s = .next u ∧ SameAround s u ∧ u.nodeTime = t ∧
      (peer u i).presence = .present ∧ (peer u i).lastHeard = t ∧
      (peer u i).silenceDue = some (t + threePs s) ∧
      ((∀ p, c ≠ .statusFrame t i p) → (peer u i).summary = some m) ∧
      (active .configMismatch u = true ↔ ∃ j, differs u j)) ∧
  (∀ (t d : Nat) (i : StationId) (s : State), RunsAt t s → (peer s i).presence = .present →
    (peer s i).silenceDue = some d → d ≤ t →
    ∃ u, exec (.silenceDeadline t i) s = .next u ∧ SameAround s u ∧ u.nodeTime = t ∧
      peer u i = { peer s i with presence := .silent, silenceDue := none } ∧
      (∀ j, j ≠ i → peer u j = peer s j) ∧
      u.icu = { s.icu with list := s.icu.list.filter (fun e => e.station != i) } ∧
      (active .configMismatch u = true ↔ ∃ j, differs u j) ∧
      u.mp = s.mp ∧ u.slc = s.slc ∧ u.vtu = s.vtu ∧ u.cd = s.cd ∧ u.zs = s.zs ∧ u.rcp = s.rcp)

/-- The counted set is in ascending order, and holds exactly the stations whose observation has a known
onset no more than W ago, but the own one while own observations are excluded. A window deadline takes the
vote count afresh and keeps the observation. It trips nothing when the entry leaves the set below K, and
arms the node when every condition holds (R71, R72, R73, R75, R76, R84). -/
def Obligations.CountedSetAndItsWindow : Prop :=
  (∀ s : State, (countedSet s).Pairwise (fun i j => i < j) ∧ (countedSet s).length ≤ 32 ∧
    ∀ i, i ∈ countedSet s ↔
      (∃ o on, (peer s i).observation = some o ∧ o.onset = some on ∧ s.nodeTime ≤ on + (cfg s).w) ∧
      (i = ownId s → active .sensorLost s = false ∧ active .selftestFail s = false)) ∧
  (∀ (t d : Nat) (i : StationId) (s : State), RunsAt t s → configured s = true →
    (peer s i).windowDue = some d → d ≤ t →
    let v := (countedSet (s.setNodeTime t)).length
    v < (cfg s).k →
    exec (.windowDeadline t i) s = .next (setPeer i { peer s i with windowDue := none } { s with
      nodeTime := t
      vtu := { s.vtu with
        votes := v
        armed := s.vtu.armed ||
          (!(s.mp.inProgress && decide ((cfg s).gsolo ≤ s.mp.grade)) &&
            (s.vtu.wire == .released || s.vtu.wire == .stuck) &&
            (match s.vtu.rearmDue with | some r => decide (r ≤ t) | none => true)) } }))

/-! ## Coincidence vote and trip (Chapter 4) -/

/-- A vote test takes V from the counted set. Below K the flag is set if it was, or if the arming
conditions hold, and nothing else changes. From K on, a clear flag stays clear, and a set flag makes the
node trip with cause VOTE. The solo test trips with cause SOLO from an own event in progress at Gsolo or
above (R75, R76, R77, R84). -/
def Obligations.VoteAndSoloTests : Prop :=
  ∀ s : State, s.phase = .running → configured s = true →
    let v := (countedSet s).length
    (v < (cfg s).k → voteTest s = { s with vtu := { s.vtu with
      votes := v
      armed := s.vtu.armed ||
        (!(s.mp.inProgress && decide ((cfg s).gsolo ≤ s.mp.grade)) &&
          (s.vtu.wire == .released || s.vtu.wire == .stuck) &&
          (match s.vtu.rearmDue with | some d => decide (d ≤ s.nodeTime) | none => true)) } }) ∧
    ((cfg s).k ≤ v → s.vtu.armed = false → voteTest s = { s with vtu := { s.vtu with votes := v } }) ∧
    ((cfg s).k ≤ v → s.vtu.armed = true →
      voteTest s = tripOccasion .vote .vote v 0 { s with vtu := { s.vtu with votes := v } }) ∧
    (s.mp.inProgress = true ∧ (cfg s).gsolo ≤ s.mp.grade → soloTest s = tripOccasion .solo .solo 0 0 s) ∧
    (s.mp.inProgress = false ∨ s.mp.grade < (cfg s).gsolo → soloTest s = s)

/-- A trip of any cause in ARMED mode clears the flag, takes the trip time and the re-arm deadline, queues
its TRIP frame with the trip grade, drives the wire unless the cause is WIRE, moves Ta, opens or updates
the record, and has the zone shutting down or in WATCH (zone and record where every hold is longer than no
time). The trip grade is at least the site grade, the grade of an own event in progress, that of every
counted entry and that of a received TRIP, and is one of these. A trip in LISTEN mode clears the flag,
takes the trip time and the re-arm deadline, counts one would-trip up to 255, and has no other effect. A
trip occasion that finds the flag clear changes nothing, in either mode (R83, R86 to R94, R117, R131,
R133, R195). -/
def Obligations.TripByModeAndFlag : Prop :=
  (∀ (own origin : Cause) (votes received : Nat) (s : State), s.phase = .running → configured s = true →
    s.vtu.armed = true → s.hm.mode = .armed → queueOk s = true → s.zs.st ≠ .unconfigured →
    let g := tripGrade received s
    let u := tripOccasion own origin votes received s
    s.zs.grade ≤ g ∧ received ≤ g ∧ (s.mp.inProgress = true → s.mp.grade ≤ g) ∧
    (∀ i ∈ countedSet s, ∀ o, (peer s i).observation = some o → o.grade ≤ g) ∧
    (g = s.zs.grade ∨ g = received ∨ (s.mp.inProgress = true ∧ g = s.mp.grade) ∨
      ∃ i ∈ countedSet s, ∃ o, (peer s i).observation = some o ∧ g = o.grade) ∧
    Tripped own origin votes g (countedSet s) s u ∧
    SameAround s u ∧ u.nodeTime = s.nodeTime ∧ u.mp = s.mp ∧ u.pv = s.pv ∧
    u.vtu.votes = s.vtu.votes ∧ u.vtu.wire = s.vtu.wire ∧ u.vtu.wouldTrip = s.vtu.wouldTrip) ∧
  (∀ (own origin : Cause) (votes received : Nat) (s : State),
    (s.phase = .running → configured s = true → s.vtu.armed = true → s.hm.mode = .listen →
      tripOccasion own origin votes received s = { s with vtu := { s.vtu with
        armed := false, lastTrip := some s.nodeTime, rearmDue := some (s.nodeTime + (cfg s).hw)
        wouldTrip := min 255 (s.vtu.wouldTrip + 1) } }) ∧
    (s.vtu.armed = false ∨ configured s = false ∨ s.phase ≠ .running →
      tripOccasion own origin votes received s = s))

/-- A TRIP frame from another station trips an armed node with cause FRAME and the origin received, where
every hold is longer than no time and the frame does not itself end a pause on LINE. It aborts a self-test
that is measuring. With the flag clear the VTU keeps its state and queues no TRIP. In LISTEN mode an armed
node counts a would-trip and drives and queues nothing. With the flag clear or in LISTEN mode, origin
CONSOLE sets permit-required in an open record, under the same conditions (R28, R78, R92, R93, R94). -/
def Obligations.TripFrameIsFollowed : Prop :=
  ∀ (t : Nat) (i : StationId) (p : TripPayload) (s : State), RunsAt t s → s.slc.line = .receiving →
    i ≠ ownId s → configured s = true → tripInRange p = true → queueOk s = true → timesOk s = true →
    s.zs.st ≠ .unconfigured →
    ∃ u, exec (.tripFrame t i p) s = .next u ∧ SameAround s u ∧ u.nodeTime = t ∧ u.zs.ta = t ∧
      (measuring s = true → u.mp.testPart = .aborted ∧ u.mp.deflection = false ∧
        hasFault .selftestAborted u.hm.sticky = true) ∧
      (measuring s = false → u.mp = s.mp) ∧
      (s.vtu.armed = true → s.hm.mode = .armed → (s.zs.st = .paused → lineUsable s = true) →
        holdsAboveZero (cfg s) = true →
        ∃ g, p.grade ≤ g ∧ s.zs.grade ≤ g ∧ Tripped .frame p.origin 0 g (countedSet (s.setNodeTime t)) s u) ∧
      (s.vtu.armed = true → s.hm.mode = .listen →
        u.vtu = { s.vtu with armed := false, lastTrip := some t, rearmDue := some (t + (cfg s).hw)
                             wouldTrip := min 255 (s.vtu.wouldTrip + 1) }) ∧
      (s.vtu.armed = false → u.vtu = s.vtu) ∧
      (s.vtu.armed = false ∨ s.hm.mode = .listen → (s.zs.st = .paused → lineUsable s = true) →
        holdsAboveZero (cfg s) = true →
        (∀ e ∈ u.slc.queue, entryClass e = 0 → e ∈ s.slc.queue) ∧
        u.rcp.record.isOpen = s.rcp.record.isOpen ∧ u.rcp.record.count = s.rcp.record.count ∧
        (recordOpen s = true →
          u.rcp.record.permit = (s.rcp.record.permit || p.origin == .console)) ∧
        (recordOpen s = false → u.rcp.record = s.rcp.record))

/-- The Trip Wire's edges. An assertion edge at RELEASED leads to RISING with both deadlines from now, and
aborts a self-test that is measuring. At any other sensed state it changes nothing but the level. A
release edge leads to RELEASED from every other state, cancels the deadlines, clears WIRE-STUCK when it
leads from STUCK, and takes an arming evaluation. That it cancels a deadline also at that deadline's own
node time, and later while the deadline is not yet taken, is the model's choice (notes/assumptions/35.md)
(R28, R80, R82, R84, R85). -/
def Obligations.TripWireEdges : Prop :=
  ∀ (t : Nat) (s : State), RunsAt t s →
    (s.vtu.wire = .released → measuring s = false →
      exec (.wireAssertionEdge t) s = .next { s with
        nodeTime := t, pins := { s.pins with wireAsserted := true }
        vtu := { s.vtu with wire := .rising, confirmDue := some (t + 20)
                            stuckDue := some (t + 100000) } }) ∧
    (s.vtu.wire = .released → measuring s = true →
      exec (.wireAssertionEdge t) s = .next { s with
        nodeTime := t, pins := { s.pins with wireAsserted := true }
        vtu := { s.vtu with wire := .rising, confirmDue := some (t + 20), stuckDue := some (t + 100000) }
        mp := { s.mp with deflection := false, testPart := .aborted, settleCount := 0 }
        hm := { s.hm with sticky := { s.hm.sticky with selftestAborted := true } } }) ∧
    (s.vtu.wire ≠ .released →
      exec (.wireAssertionEdge t) s = .next { s with
        nodeTime := t, pins := { s.pins with wireAsserted := true } }) ∧
    (s.vtu.wire = .released →
      exec (.wireReleaseEdge t) s = .next { s with
        nodeTime := t, pins := { s.pins with wireAsserted := false } }) ∧
    (s.vtu.wire ≠ .released →
      ∃ u, exec (.wireReleaseEdge t) s = .next u ∧ u.nodeTime = t ∧
        u.pins = { s.pins with wireAsserted := false } ∧
        u.vtu = { s.vtu with
          wire := .released, confirmDue := none, stuckDue := none
          armed := s.vtu.armed || (configured s && decide (s.vtu.votes < (cfg s).k) &&
            !(s.mp.inProgress && decide ((cfg s).gsolo ≤ s.mp.grade)) &&
            (match s.vtu.rearmDue with | some d => decide (d ≤ t) | none => true)) } ∧
        (s.vtu.wire = .stuck → active .wireStuck u = false) ∧
        (s.vtu.wire ≠ .stuck → u.hm = s.hm) ∧
        u = { s with nodeTime := t, pins := u.pins, vtu := u.vtu, hm := u.hm })

/-- The VTU's deadlines. At the confirm deadline the wire is ASSERTED: Ta is now, and an armed node trips
with cause WIRE in ARMED mode, which starts no drive, or counts a would-trip in LISTEN mode (what the trip
does to zone and record is said where every hold is longer than no time). At the stuck deadline it is
STUCK with WIRE-STUCK active, and counts as released for arming. At the re-arm deadline the arming
conditions are tested, and at the drive deadline the drive is released (R81, R82, R84, R89, R94). -/
def Obligations.VoteUnitDeadlines : Prop :=
  ∀ (t d : Nat) (s : State), RunsAt t s → d ≤ t →
    let others := configured s && decide (s.vtu.votes < (cfg s).k) &&
      !(s.mp.inProgress && decide ((cfg s).gsolo ≤ s.mp.grade))
    (s.vtu.wire = .rising → s.vtu.confirmDue = some d → queueOk s = true → timesOk s = true →
      s.zs.st ≠ .unconfigured → configured s = true →
      ∃ u, exec (.confirmDeadline t) s = .next u ∧ SameAround s u ∧ u.nodeTime = t ∧
        u.vtu.wire = .asserted ∧ u.vtu.confirmDue = none ∧ u.vtu.stuckDue = s.vtu.stuckDue ∧
        u.vtu.driving = s.vtu.driving ∧ u.mp = s.mp ∧ u.pv = s.pv ∧ u.zs.ta = t ∧
        (s.vtu.armed = true → s.hm.mode = .armed → holdsAboveZero (cfg s) = true →
          ∃ g, s.zs.grade ≤ g ∧ Tripped .wire .wire 0 g (countedSet (s.setNodeTime t)) s u) ∧
        (s.vtu.armed = true → s.hm.mode = .listen →
          u.vtu.armed = false ∧ u.vtu.wouldTrip = min 255 (s.vtu.wouldTrip + 1)) ∧
        (s.vtu.armed = false → u.vtu = { s.vtu with wire := .asserted, confirmDue := none } ∧
          (holdsAboveZero (cfg s) = true → u.rcp = s.rcp))) ∧
    (s.vtu.wire = .asserted → s.vtu.stuckDue = some d →
      ∃ u, exec (.stuckDeadline t) s = .next u ∧ u.nodeTime = t ∧ active .wireStuck u = true ∧
        hasFault .wireStuck u.hm.sticky = true ∧
        u.vtu = { s.vtu with
          wire := .stuck, stuckDue := none
          armed := s.vtu.armed || (others &&
            (match s.vtu.rearmDue with | some r => decide (r ≤ t) | none => true)) } ∧
        u = { s with nodeTime := t, vtu := u.vtu, hm := u.hm }) ∧
    (s.vtu.rearmDue = some d →
      exec (.rearmDeadline t) s = .next { s with
        nodeTime := t
        vtu := { s.vtu with
          rearmDue := none
          armed := s.vtu.armed || (others && (s.vtu.wire == .released || s.vtu.wire == .stuck)) } }) ∧
    (s.vtu.driving = true → s.vtu.driveDue = some d →
      exec (.driveDeadline t) s = .next { s with
        nodeTime := t, vtu := { s.vtu with driving := false, driveDue := none } })

/-! ## Load channels (Chapter 5) -/

/-- A change of the raw level at the acknowledge input of an enabled channel that uses it starts the
filter when the new level reads other than the filtered level, and cancels it when it reads the same. A
filter that runs already runs on. The filtered level stands. That the filter is cancelled also at its
deadline's own node time, and later while the deadline is not yet taken, is the model's choice
(notes/assumptions/27.md). An input that is not used, or of a DISABLED channel, is not read (R98, R99,
R103). -/
def Obligations.AcknowledgeInputIsFiltered : Prop :=
  ∀ (t : Nat) (c : Channel) (high : Bool) (s : State), RunsAt t s →
    let moved := { s with nodeTime := t, pins := { s.pins with ackHigh := s.pins.ackHigh.set c.val high } }
    let reads := high != (chanCfg s c).inverted
    (∀ r, chan s c = some r → (chanCfg s c).ackUsed = true → rawAck s c ≠ high →
      reads ≠ r.readsShut → r.filterDue = none →
      exec (.ackInputChange t c high) s = .next (setChan c (some { r with filterDue := some (t + 10) }) moved)) ∧
    (∀ r d, chan s c = some r → (chanCfg s c).ackUsed = true → rawAck s c ≠ high →
      reads ≠ r.readsShut → r.filterDue = some d →
      exec (.ackInputChange t c high) s = .next moved) ∧
    (∀ r, chan s c = some r → (chanCfg s c).ackUsed = true → rawAck s c ≠ high → reads = r.readsShut →
      exec (.ackInputChange t c high) s = .next (setChan c (some { r with filterDue := none }) moved)) ∧
    ((chanCfg s c).ackUsed = false ∨ chan s c = none ∨ rawAck s c = high →
      exec (.ackInputChange t c high) s = .next moved)

/-- A stage command changes the named channels that are enabled and have the other command, and no channel
else. Each of them loses its disagree flag, and is CONFIRMED at once when it does not acknowledge or its
level matches, and otherwise PENDING for its full timeout. The pending set returned is the named channels
that are PENDING for the command. CHANNEL-UNCONFIRMED follows the unconfirmed set. The outputs follow the
commands. That a pair is low at once, where R100 allows 1 ms, is the model's choice
(notes/assumptions/4.md) (R99 to R101, R104, R105, R110). -/
def Obligations.StageCommandChangesNamedChannels : Prop :=
  ∀ (named : List Channel) (cmd : ChanCmd) (s : State),
    let u := stageCommand named cmd s
    u = { s with cd := u.cd, hm := u.hm } ∧
    (∀ c, c ∉ named → chan u c = chan s c) ∧
    (∀ c, chan s c = none → chan u c = none) ∧
    (∀ c r, c ∈ named → chan s c = some r → r.cmd = cmd → chan u c = some r) ∧
    (∀ c r, c ∈ named → chan s c = some r → r.cmd ≠ cmd →
      let fits := (chanCfg s c).ackUsed = false ∨ r.readsShut = decide (cmd = .shut)
      chan u c = some { r with
        cmd := cmd, disagree := false, since := s.nodeTime
        conf := if fits then .confirmed else .pending
        ackDue := if fits then none else some (s.nodeTime + (chanCfg s c).ackTimeout * 1000) }) ∧
    (∀ c, c ∈ pendingSet named cmd u ↔
      c ∈ named ∧ ∃ r, chan u c = some r ∧ r.conf = .pending ∧ r.cmd = cmd) ∧
    (active .channelUnconfirmed u = true ↔ ∃ c r, chan u c = some r ∧ r.conf = .unconfirmed) ∧
    (∀ c r, chan u c = some r → outputOf u c =
      match (chanCfg s c).kind, r.cmd with
      | .permit, .run => .pairToggling r.since
      | .permit, .shut => .pairLow
      | .request, .run => .line false
      | .request, .shut => .line true)

/-- A filter deadline takes the raw level as the filtered level. A change that matches the command
confirms a PENDING or an UNCONFIRMED channel. In CONFIRMED it clears the disagree flag and a contrary one
sets it, and a contrary change does nothing in PENDING or UNCONFIRMED. Outside SHUTTING, RESTARTING and
PAUSED that is all. In SHUTTING a channel that leaves PENDING leaves the shutdown pending set, and the
last one completes the stage: the gap follows before a later stage when the stage acted, and WATCH after
the last stage. In a restart stage it leaves the pending set, and the last one after the inrush deadline
ends the stage. In PAUSED a change that makes the checked stage's pre-check pass removes PRECHECK, and a
stage begins when the pause held nothing else (R103, R106, R108 to R111, R120, R121, R123, R135, R139,
R142, R146, R179 to R181). -/
def Obligations.FilteredInputChange : Prop :=
  ∀ (t d : Nat) (c : Channel) (r : ChanRun) (s : State), RunsAt t s → chan s c = some r →
    r.filterDue = some d → d ≤ t →
    let hold := s.zs.ta + holdSeconds (cfg s) s.zs.grade * 10000
    let later (k : Nat) : Prop :=
      ∃ j e, k < j ∧ j ≤ 8 ∧ (chan s e).isSome = true ∧ (chanCfg s e).shutdownStage = j
    let causes : Causes := { s.zs.held with
      aftershock := s.zs.held.aftershock && decide (t < hold)
      reset := s.zs.held.reset && (match s.zs.resetDue with | some d => decide (t < d) | none => false)
      channel := s.zs.held.channel || s.zs.unconfMark }
    let level := rawAck s c != (chanCfg s c).inverted
    let fits := level = decide (r.cmd = .shut)
    let after : ChanRun := { r with
      readsShut := level, filterDue := none
      conf := if fits then .confirmed else r.conf
      ackDue := if fits ∧ r.conf = .pending then none else r.ackDue
      disagree := if r.conf = .confirmed then decide (¬fits) else r.disagree }
    (level = r.readsShut →
      exec (.filterDeadline t c) s = .next (setChan c (some { r with filterDue := none }) (s.setNodeTime t))) ∧
    (level ≠ r.readsShut → s.zs.st ≠ .shutting → s.zs.st ≠ .restarting → s.zs.st ≠ .paused →
      ∃ u, exec (.filterDeadline t c) s = .next u ∧ chan u c = some after ∧
        (∀ e, e ≠ c → chan u e = chan s e) ∧
        (active .channelUnconfirmed u = true ↔ ∃ e q, chan u e = some q ∧ q.conf = .unconfirmed) ∧
        u = { s with nodeTime := t, cd := u.cd, hm := u.hm }) ∧
    (level ≠ r.readsShut → s.zs.st = .shutting → r.conf = .pending → fits → (∃ k, s.zs.stage = some k) →
      c ∈ s.zs.shutPending → (∃ e, e ∈ s.zs.shutPending ∧ e ≠ c) →
      ∃ u, exec (.filterDeadline t c) s = .next u ∧ chan u c = some after ∧
        u = { s with nodeTime := t, cd := u.cd, hm := u.hm
                     zs := { s.zs with shutPending := s.zs.shutPending.filter (fun e => e != c) } }) ∧
    (∀ k, level ≠ r.readsShut → s.zs.st = .shutting → r.conf = .pending → fits → s.zs.stage = some k →
      s.zs.shutPending = [c] →
      (later k → s.zs.acted = true → ∃ u, exec (.filterDeadline t c) s = .next u ∧ chan u c = some after ∧
        (∀ e, e ≠ c → chan u e = chan s e) ∧
        u = { s with nodeTime := t, cd := u.cd, hm := u.hm
                     zs := { s.zs with shutPending := [], currentStage := k, stage := none
                                       gapDue := some (t + (cfg s).shutdownGap * 1000) } }) ∧
      (¬later k → t < hold → ∃ u, exec (.filterDeadline t c) s = .next u ∧ chan u c = some after ∧
        (∀ e, e ≠ c → chan u e = chan s e) ∧
        u = { s with nodeTime := t, cd := u.cd, hm := u.hm, slc := (place .status s).slc
                     zs := { s.zs with shutPending := [], currentStage := k, stage := none, st := .watch
                                       holdDue := some hold } })) ∧
    (∀ k, level ≠ r.readsShut → s.zs.st = .restarting → r.conf = .pending → fits →
      s.zs.restartStage = some k → c ∈ s.zs.runPending →
      let left := s.zs.runPending.filter (fun e => e != c)
      (left ≠ [] ∨ s.zs.inrushDue ≠ none → ∃ u, exec (.filterDeadline t c) s = .next u ∧ chan u c = some after ∧
        (∀ e, e ≠ c → chan u e = chan s e) ∧
        u = { s with nodeTime := t, cd := u.cd, hm := u.hm, zs := { s.zs with runPending := left } }) ∧
      (left = [] → s.zs.inrushDue = none → causes = noCauses →
        ∃ u, exec (.filterDeadline t c) s = .next u ∧ chan u c = some after ∧
        (∀ e, e ≠ c → chan u e = chan s e) ∧
        u = { s with nodeTime := t, cd := u.cd, hm := u.hm
                     zs := { s.zs with runPending := [], restartStage := none, nextRestart := k + 1
                                       held := noCauses
                                       restartGap := some (t + (cfg s).restartGap * 1000) } }) ∧
      (left = [] → s.zs.inrushDue = none → causes ≠ noCauses → s.zs.held.precheck = false →
        ∃ u, exec (.filterDeadline t c) s = .next u ∧ chan u c = some after ∧
        (∀ e, e ≠ c → chan u e = chan s e) ∧
        u = { s with nodeTime := t, cd := u.cd, hm := u.hm, slc := (place .status s).slc
                     zs := { s.zs with st := .paused, pause := causes, runPending := [], restartStage := none
                                       nextRestart := k + 1, held := noCauses
                                       holdDue := if causes.aftershock then some hold else s.zs.holdDue } })) ∧
    (level ≠ r.readsShut → s.zs.st = .paused →
      let passes := s.zs.pause.precheck = true ∧ ∃ k, s.zs.checkedStage = some k ∧ precheck k s = false ∧
        precheck k (setChan c (some after) s) = true
      let left : Causes := { s.zs.pause with precheck := false }
      (¬passes → ∃ u, exec (.filterDeadline t c) s = .next u ∧ chan u c = some after ∧
        (∀ e, e ≠ c → chan u e = chan s e) ∧ u = { s with nodeTime := t, cd := u.cd, hm := u.hm }) ∧
      (passes → left ≠ noCauses → ∃ u, exec (.filterDeadline t c) s = .next u ∧ chan u c = some after ∧
        (∀ e, e ≠ c → chan u e = chan s e) ∧
        u = { s with nodeTime := t, cd := u.cd, hm := u.hm, zs := { s.zs with pause := left } }) ∧
      (passes → left = noCauses → ∃ v, exec (.filterDeadline t c) s = .next (beginStage v) ∧
        chan v c = some after ∧ (∀ e, e ≠ c → chan v e = chan s e) ∧
        v = { s with nodeTime := t, cd := v.cd, hm := v.hm, zs := { s.zs with pause := left } }))

/-- The acknowledge deadline of a PENDING channel makes it UNCONFIRMED under the same command, and
CHANNEL-UNCONFIRMED active. In SHUTTING the last channel of the pending set completes its stage: the gap
follows when the stage acted and a later stage has channels, and WATCH when no later stage has. In a
restart stage, while others remain, it leaves the pending set with the stage marked for CHANNEL (R107,
R110, R120, R121, R123, R135, R179). -/
def Obligations.AcknowledgeTimesOut : Prop :=
  ∀ (t d : Nat) (c : Channel) (r : ChanRun) (s : State), RunsAt t s → chan s c = some r →
    r.conf = .pending → r.ackDue = some d → d ≤ t →
    (s.zs.st ≠ .shutting → s.zs.st ≠ .restarting →
      ∃ u, exec (.ackDeadline t c) s = .next u ∧
        chan u c = some { r with conf := .unconfirmed, ackDue := none } ∧
        (∀ e, e ≠ c → chan u e = chan s e) ∧ active .channelUnconfirmed u = true ∧
        (active .channelUnconfirmed s = false → hasFault .channelUnconfirmed u.hm.sticky = true) ∧
        u = { s with nodeTime := t, cd := u.cd, hm := u.hm }) ∧
    (∀ k, s.zs.st = .shutting → s.zs.stage = some k → s.zs.shutPending = [c] → s.zs.acted = true →
      (∃ j e, k < j ∧ j ≤ 8 ∧ (chan s e).isSome = true ∧ (chanCfg s e).shutdownStage = j) →
      ∃ u, exec (.ackDeadline t c) s = .next u ∧
        chan u c = some { r with conf := .unconfirmed, ackDue := none } ∧
        (∀ e, e ≠ c → chan u e = chan s e) ∧ active .channelUnconfirmed u = true ∧
        u = { s with nodeTime := t, cd := u.cd, hm := u.hm
                     zs := { s.zs with shutPending := [], currentStage := k, stage := none
                                       gapDue := some (t + (cfg s).shutdownGap * 1000) } }) ∧
    (∀ k, s.zs.st = .shutting → s.zs.stage = some k → s.zs.shutPending = [c] →
      (∀ j e, k < j → j ≤ 8 → (chan s e).isSome = true → (chanCfg s e).shutdownStage ≠ j) →
      let hold := s.zs.ta + holdSeconds (cfg s) s.zs.grade * 10000
      t < hold →
      ∃ u, exec (.ackDeadline t c) s = .next u ∧
        chan u c = some { r with conf := .unconfirmed, ackDue := none } ∧
        (∀ e, e ≠ c → chan u e = chan s e) ∧ active .channelUnconfirmed u = true ∧
        u = { s with nodeTime := t, cd := u.cd, hm := u.hm, slc := (place .status s).slc
                     zs := { s.zs with shutPending := [], currentStage := k, stage := none, st := .watch
                                       holdDue := some hold } }) ∧
    (s.zs.st = .restarting → s.zs.restartStage.isSome = true → c ∈ s.zs.runPending →
      (∃ e, e ∈ s.zs.runPending ∧ e ≠ c) →
      ∃ u, exec (.ackDeadline t c) s = .next u ∧
        chan u c = some { r with conf := .unconfirmed, ackDue := none } ∧
        (∀ e, e ≠ c → chan u e = chan s e) ∧ active .channelUnconfirmed u = true ∧
        u = { s with nodeTime := t, cd := u.cd, hm := u.hm
                     zs := { s.zs with unconfMark := true
                                       runPending := s.zs.runPending.filter (fun e => e != c) } })

/-! ## Shutdown and aftershock watch (Chapters 6 and 7) -/

/-- The gap deadline begins the next shutdown stage that has channels: every channel of it is then SHUT.
The stage is in progress while a channel of it is PENDING. A stage that is complete at once and acted is
followed by the gap before a later stage that has channels. After the last stage that has channels, also
one that the gap begins and that is complete at once, a hold that has not run out has the zone in WATCH
with that stage as current stage. Channels of completed stages, and kept channels, are untouched then
(R119, R121 to R123, R135). -/
def Obligations.GapBeginsTheNextStage : Prop :=
  ∀ (t d : Nat) (s : State), RunsAt t s → s.zs.st = .shutting → s.zs.gapDue = some d → d ≤ t →
    let holds := t < s.zs.ta + holdSeconds (cfg s) s.zs.grade * 10000
    let has (k : Nat) : Prop := ∃ c, (chan s c).isSome = true ∧ (chanCfg s c).shutdownStage = k
    ∃ u, exec (.gapDeadline t) s = .next u ∧ SameAround s u ∧ u.nodeTime = t ∧ u.mp = s.mp ∧ u.pv = s.pv ∧
      u.vtu = s.vtu ∧ u.zs.ta = s.zs.ta ∧
      (holds → u.icu = s.icu ∧ u.rcp = s.rcp ∧ u.zs.grade = s.zs.grade) ∧
      (holds → ∀ c, (chanCfg s c).shutdownStage ≤ s.zs.currentStage → chan u c = chan s c) ∧
      (∀ k, s.zs.currentStage < k → k ≤ 8 → has k → (∀ j, s.zs.currentStage < j → j < k → ¬has j) →
        (holds → ∀ c r, (chanCfg s c).shutdownStage = k → chan u c = some r → r.cmd = .shut) ∧
        ((∃ c, (chanCfg s c).shutdownStage = k ∧ pendingFor .shut u c = true) →
          u.zs.st = .shutting ∧ u.zs.stage = some k ∧ u.zs.gapDue = none ∧
          u.zs.currentStage = s.zs.currentStage ∧
          ∀ c, c ∈ u.zs.shutPending ↔ (chanCfg s c).shutdownStage = k ∧ pendingFor .shut u c = true) ∧
        ((∀ c, (chanCfg s c).shutdownStage = k → pendingFor .shut u c = false) →
          (∃ c, (chanCfg s c).shutdownStage = k ∧ hasCmd .run s c = true) →
          (∃ j, k < j ∧ j ≤ 8 ∧ has j) →
          u.zs.st = .shutting ∧ u.zs.stage = none ∧ u.zs.currentStage = k ∧
          u.zs.gapDue = some (t + (cfg s).shutdownGap * 1000)) ∧
        ((∀ c, (chanCfg s c).shutdownStage = k → pendingFor .shut u c = false) →
          (∀ j, k < j → j ≤ 8 → ¬has j) → holds →
          u.zs.st = .watch ∧ u.zs.stage = none ∧ u.zs.currentStage = k ∧ u.zs.gapDue = none ∧
          u.zs.holdDue = some (s.zs.ta + holdSeconds (cfg s) s.zs.grade * 10000))) ∧
      (holds → (∀ k, s.zs.currentStage < k → k ≤ 8 → ¬has k) → u.zs.st = .watch ∧ u.cd = s.cd)

/-- An activity report moves Ta forward and offers its grade to an open record. In AWAIT-PERMIT it leads
back to WATCH. In STARTING it moves the start wait. An aftershock in CLAIMING withdraws the claim and
pauses, in a restart stage it is held back, in the restart gap and in PAUSED it pauses. In WATCH the hold
moves to Ta + Q of the site grade. All this where every hold is longer than no time (R131, R132, R133,
R135, R137, R138, R145). -/
def Obligations.ActivityReport : Prop :=
  ∀ (offer : Nat) (aftershock : Bool) (s : State), s.zs.st ≠ .unconfigured → s.zs.ta ≤ s.nodeTime →
    holdsAboveZero (cfg s) = true →
    let g := if recordOpen s then max s.zs.grade offer else s.zs.grade
    let hold := s.nodeTime + holdSeconds (cfg s) g * 10000
    let u := activity s.nodeTime offer aftershock s
    u.zs.ta = s.nodeTime ∧ u.zs.grade = g ∧ SameAround s u ∧ u.nodeTime = s.nodeTime ∧ u.mp = s.mp ∧
    u.pv = s.pv ∧ u.vtu = s.vtu ∧ u.cd = s.cd ∧
    (g = s.zs.grade → u.rcp = s.rcp) ∧
    (s.zs.grade < g → u.rcp.record.grade = max s.rcp.record.grade g) ∧
    (s.zs.st = .watch → s.zs.ta < s.nodeTime → u.zs.st = .watch ∧ u.zs.holdDue = some hold) ∧
    (s.zs.st = .awaitPermit → u.zs.st = .watch ∧ u.zs.holdDue = some hold ∧
      (s.slc.queue.length < 4 → .status ∈ u.slc.queue)) ∧
    (s.zs.st = .starting → u.zs.st = .starting ∧
      u.zs.startDue = some (max s.zs.startFloor (s.nodeTime + (cfg s).q0 * 10000))) ∧
    (s.zs.st = .claiming → aftershock = true →
      u.zs.st = .paused ∧ u.zs.pause = { noCauses with aftershock := true } ∧ u.zs.holdDue = some hold ∧
      (s.icu.own ≠ .inForce → u.icu.own = .none)) ∧
    (s.zs.st = .claiming → aftershock = false → u.zs.st = .claiming ∧ u.icu = s.icu) ∧
    (s.zs.st = .restarting → s.zs.restartStage.isSome = true →
      u.zs.st = .restarting ∧ u.zs.held = { s.zs.held with aftershock := s.zs.held.aftershock || aftershock } ∧
      u.zs.restartStage = s.zs.restartStage ∧ u.zs.runPending = s.zs.runPending) ∧
    (s.zs.st = .restarting → s.zs.restartStage = none → aftershock = true →
      u.zs.st = .paused ∧ u.zs.pause = { noCauses with aftershock := true } ∧ u.zs.restartGap = none ∧
      u.zs.holdDue = some hold) ∧
    (s.zs.st = .paused →
      u.zs.st = .paused ∧ u.zs.pause = { s.zs.pause with aftershock := s.zs.pause.aftershock || aftershock }) ∧
    (s.zs.st = .running ∨ s.zs.st = .shutting → u.zs = { s.zs with ta := s.nodeTime, grade := g })

/-- The hold deadline. In WATCH it leads to AWAIT-PERMIT when the site grade is Gpermit or more or the
record requires permission, and otherwise a restart stage begins. In PAUSED it removes AFTERSHOCK, and a
restart stage begins when no cause remains (R136, R139, R140). -/
def Obligations.HoldDeadline : Prop :=
  ∀ (t d : Nat) (s : State), RunsAt t s → s.zs.holdDue = some d → d ≤ t →
    (s.zs.st = .watch → (cfg s).gpermit ≤ s.zs.grade ∨ recordPermit s = true →
      exec (.holdDeadline t) s = .next (place .status { s with
        nodeTime := t, zs := { s.zs with st := .awaitPermit, holdDue := none } })) ∧
    (s.zs.st = .watch → s.zs.grade < (cfg s).gpermit → recordPermit s = false →
      exec (.holdDeadline t) s = .next (beginStage (s.setNodeTime t))) ∧
    (s.zs.st = .paused → s.zs.pause.aftershock = true → s.zs.pause ≠ { noCauses with aftershock := true } →
      exec (.holdDeadline t) s = .next { s with
        nodeTime := t
        zs := { s.zs with holdDue := none, pause := { s.zs.pause with aftershock := false } } }) ∧
    (s.zs.st = .paused → s.zs.pause = { noCauses with aftershock := true } →
      exec (.holdDeadline t) s = .next (beginStage (s.setNodeTime t)))

/-- The start wait and the restart gap begin a restart stage. The reset deadline takes RESET out of the
pause-cause set and the held-back set, and begins a restart stage when PAUSED held nothing else (R138,
R139, R144, R181). -/
def Obligations.WaitsBeginAStage : Prop :=
  ∀ (t d : Nat) (s : State), RunsAt t s → d ≤ t →
    (s.zs.st = .starting → s.zs.startDue = some d →
      exec (.startWait t) s = .next (beginStage (s.setNodeTime t))) ∧
    (s.zs.st = .restarting → s.zs.restartGap = some d →
      exec (.restartGapDeadline t) s = .next (beginStage (s.setNodeTime t))) ∧
    (s.zs.resetDue = some d → s.zs.st = .paused → s.zs.pause = { noCauses with reset := true } →
      exec (.resetDeadline t) s = .next (beginStage { s with
        nodeTime := t
        zs := { s.zs with resetDue := none, held := { s.zs.held with reset := false } } })) ∧
    (s.zs.resetDue = some d → s.zs.st ≠ .paused ∨
        ({ s.zs.pause with reset := false } : Causes) ≠ noCauses →
      exec (.resetDeadline t) s = .next { s with
        nodeTime := t
        zs := { s.zs with resetDue := none, pause := { s.zs.pause with reset := false }
                          held := { s.zs.held with reset := false } } })

/-! ## Inrush claims and restart (Chapters 8 and 9) -/

/-- The inrush list. A CLAIM of another station goes to the end in place of any entry of it. A RELEASE
removes the entry of its station and number, and nothing when there is none. An expiry removes the entry.
The own expiry ends the claim in force and sends nothing. The backoff deadline makes the claim again under
the next number (R152, R153, R154, R164, R165). -/
def Obligations.InrushListAndDeadlines : Prop :=
  (∀ (t : Nat) (i : StationId) (p : ClaimPayload) (s : State), RunsAt t s → s.slc.line = .receiving →
    i ≠ ownId s → configured s = true → claimInRange p = true →
    let h := heardFrame t i s
    exec (.claimFrame t i p) s = .next { h with
      icu := { h.icu with list := h.icu.list.filter (fun e => e.station != i) ++
        [{ station := i, number := p.number, weight := p.weight, completion := t,
           expiry := t + p.duration * 1000 }] } }) ∧
  (∀ (t : Nat) (i : StationId) (p : ReleasePayload) (s : State), RunsAt t s → s.slc.line = .receiving →
    i ≠ ownId s → configured s = true → releaseInRange p = true →
    let h := heardFrame t i s
    exec (.releaseFrame t i p) s = .next { h with
      icu := { h.icu with list := h.icu.list.filter (fun e => e.station != i || e.number != p.number) } }) ∧
  (∀ (t : Nat) (i : StationId) (e : InrushEntry) (s : State), RunsAt t s → i ≠ ownId s → e ∈ s.icu.list →
    e.station = i → e.expiry ≤ t →
    exec (.claimExpiry t i) s = .next { s with
      nodeTime := t, icu := { s.icu with list := s.icu.list.filter (fun e => e.station != i) } }) ∧
  (∀ (t d : Nat) (s : State), RunsAt t s → s.icu.own = .inForce → s.icu.ownExpiry = some d → d ≤ t →
    exec (.ownExpiry t) s = .next { s with
      nodeTime := t
      icu := { s.icu with
        list := s.icu.list.filter (fun e => e.station != s.rcp.stationId)
        own := .none, settleDue := none, ownExpiry := none, backoffDue := none } }) ∧
  (∀ (t d : Nat) (s : State), RunsAt t s → s.icu.own = .backoff → s.icu.backoffDue = some d → d ≤ t →
    exec (.backoffDeadline t) s = .next
      (place (.claim ((s.icu.lastNumber + 1) % 256) s.icu.weight s.icu.duration) { s with
        nodeTime := t
        icu := { s.icu with own := .queued, lastNumber := (s.icu.lastNumber + 1) % 256
                            backoffDue := none } }))

/-- The verdict at the settle deadline. With no receive error and a prefix sum within B the claim is in
force and a node in CLAIMING commands its stage RUN, every SHUT channel of it and no channel else.
Otherwise the claim is withdrawn: its entry goes, its RELEASE is queued and it backs off for (own id + 1)
× Bu. The ZS stays as it is (R161, R163, R177, R178). -/
def Obligations.ClaimVerdict : Prop :=
  ∀ (t d : Nat) (s : State), RunsAt t s → s.icu.own = .settling → s.icu.settleDue = some d → d ≤ t →
    let own := s.rcp.stationId
    let sum := ((s.icu.list.takeWhile (fun e => e.station != own)).map (fun e => e.weight)).sum + s.icu.weight
    (s.icu.settleError = false → sum ≤ (cfg s).b →
      ∃ u, exec (.settleDeadline t) s = .next u ∧ SameAround s u ∧ u.nodeTime = t ∧
        u.icu = { s.icu with own := .inForce, settleDue := none } ∧
        u.mp = s.mp ∧ u.pv = s.pv ∧ u.vtu = s.vtu ∧ u.rcp = s.rcp ∧
        (s.zs.st = .claiming →
          u.zs.st = .restarting ∧ u.zs.restartStage = some s.zs.nextRestart ∧ u.zs.unconfMark = false ∧
          u.zs.inrushDue = some (t + irOf (cfg s) s.zs.nextRestart * 1000) ∧
          (∀ c, c ∈ shutInRestart s.zs.nextRestart s → hasCmd .run u c = true) ∧
          (∀ c, c ∉ shutInRestart s.zs.nextRestart s → chan u c = chan s c) ∧
          (∀ c, c ∈ u.zs.runPending ↔
            c ∈ shutInRestart s.zs.nextRestart s ∧ pendingFor .run u c = true)) ∧
        (s.zs.st ≠ .claiming → u.zs = s.zs ∧ u.cd = s.cd)) ∧
    (s.icu.settleError = true ∨ (cfg s).b < sum →
      exec (.settleDeadline t) s = .next (queueRelease s.icu.lastNumber .withdrawn { s with
        nodeTime := t
        icu := { s.icu with
          list := s.icu.list.filter (fun e => e.station != own)
          own := .backoff, settleDue := none, ownExpiry := none
          backoffDue := some (t + (own.val + 1) * (cfg s).bu) } }))

/-- Ending a claim early. A RELEASE over its own CLAIM that is not in flight takes the CLAIM out of the
queue and is not queued. Over one in flight, the CLAIM leaves the queue and the RELEASE is queued, tied to
the attempt. Otherwise the RELEASE is queued. A withdrawal and an abort end the claim with NONE and every
deadline of it cancelled, a settling one by a RELEASE and a backoff without one. Only an abort ends a
claim in force (R49, R50, R167, R168, R169). -/
def Obligations.ClaimEndedEarly : Prop :=
  ∀ (s : State), queueOk s = true →
    let ended : State := { s with icu := { s.icu with
      own := .none, settleDue := none, ownExpiry := none, backoffDue := none } }
    let removed : State := { s with icu := { ended.icu with
      list := s.icu.list.filter (fun e => e.station != s.rcp.stationId) } }
    let n := s.icu.lastNumber
    (∀ reason, holdsClaim n s.slc.queue = true → classInFlight 2 s.slc.inFlight = false →
      queueRelease n reason s = { s with slc := { s.slc with
        queue := s.slc.queue.filter (fun e => entryClass e != 2) } }) ∧
    (∀ reason, holdsClaim n s.slc.queue = true → classInFlight 2 s.slc.inFlight = true →
      holdsClaim n (queueRelease n reason s).slc.queue = false ∧
      .release n reason ∈ (queueRelease n reason s).slc.queue ∧
      ∃ a, (queueRelease n reason s).slc.inFlight = some a ∧ a.fate = .removed ∧ a.releaseTied = true ∧
        s.slc.inFlight.map (fun b => b.copy) = some a.copy) ∧
    (∀ reason, holdsClaim n s.slc.queue = false → queueRelease n reason s = place (.release n reason) s) ∧
    (s.icu.own = .queued → withdrawClaim s = queueRelease n .withdrawn ended ∧
      abortClaim s = queueRelease n .aborted ended) ∧
    (s.icu.own = .settling → withdrawClaim s = queueRelease n .withdrawn removed ∧
      abortClaim s = queueRelease n .aborted removed) ∧
    (s.icu.own = .backoff → withdrawClaim s = ended ∧ abortClaim s = ended) ∧
    (s.icu.own = .inForce → withdrawClaim s = s ∧ abortClaim s = queueRelease n .aborted removed) ∧
    (s.icu.own = .none → withdrawClaim s = s ∧ abortClaim s = s)

/-- The beginning of a restart stage: console hold, reset wait, the lowest stage from the next restart
stage on that has a SHUT channel, its pre-check, and its weight against the line. It ends PAUSED with one
cause, in CLAIMING with a claim queued, in RESTARTING with the stage's SHUT channels commanded RUN, or in
RUNNING when no stage is left. The record is then presented as closed: closed in the RAM copy, or with its
close waiting for a trip request of the same node time, which is the model's choice
(notes/assumptions/30.md) (R111, R128, R134, R158, R174 to R178, R182, R196). -/
def Obligations.RestartStageBegins : Prop :=
  ∀ s : State,
    let u := beginStage s
    let free := s.zs.consoleHold = false ∧ s.zs.resetDue = none
    u.mp = s.mp ∧ u.pv = s.pv ∧ u.vtu = s.vtu ∧ SameAround s u ∧ u.nodeTime = s.nodeTime ∧
    u.zs.holdDue = none ∧ u.zs.startDue = none ∧ u.zs.restartGap = none ∧ u.zs.ta = s.zs.ta ∧
    (s.zs.consoleHold = true → u.zs.st = .paused ∧ u.zs.pause = { noCauses with console := true } ∧
      u.cd = s.cd ∧ u.icu = s.icu ∧ u.rcp = s.rcp) ∧
    (s.zs.consoleHold = false → s.zs.resetDue.isSome = true →
      u.zs.st = .paused ∧ u.zs.pause = { noCauses with reset := true } ∧
      u.cd = s.cd ∧ u.icu = s.icu ∧ u.rcp = s.rcp) ∧
    (free → ∀ r, 1 ≤ r → r ≤ 8 → s.zs.nextRestart ≤ r → shutInRestart r s ≠ [] →
      (∀ j, 1 ≤ j → s.zs.nextRestart ≤ j → j < r → shutInRestart j s = []) →
      let w := min (cfg s).b (((shutInRestart r s).map (fun c => (chanCfg s c).weight)).sum)
      let passes := s.zs.waiver = some r ∨ ∀ c ∈ shutInRestart r s, (chanCfg s c).ackUsed = true →
        ∀ q, chan s c = some q → q.readsShut = true
      u.zs.nextRestart = r ∧ u.rcp = s.rcp ∧
      (¬passes → u.zs.st = .paused ∧ u.zs.pause = { noCauses with precheck := true } ∧
        u.zs.checkedStage = some r ∧ u.cd = s.cd ∧ u.icu = s.icu) ∧
      (passes → w = 0 ∨ (lineUsable s = false ∧ w ≤ (cfg s).a) →
        u.zs.st = .restarting ∧ u.zs.pause = noCauses ∧ u.zs.restartStage = some r ∧
        u.zs.stageWeight = w ∧ u.zs.inrushDue = some (s.nodeTime + irOf (cfg s) r * 1000) ∧ u.icu = s.icu ∧
        (∀ c, c ∈ shutInRestart r s → hasCmd .run u c = true) ∧
        (∀ c, c ∉ shutInRestart r s → chan u c = chan s c)) ∧
      (passes → w ≠ 0 → lineUsable s = true →
        u.zs.st = .claiming ∧ u.zs.pause = noCauses ∧ u.zs.stageWeight = w ∧ u.cd = s.cd ∧
        u.icu = { s.icu with own := .queued, lastNumber := (s.icu.lastNumber + 1) % 256, weight := w
                             duration := irOf (cfg s) r, backoffDue := none } ∧
        (queueOk s = true →
          .claim ((s.icu.lastNumber + 1) % 256) w (irOf (cfg s) r) ∈ u.slc.queue)) ∧
      (passes → lineUsable s = false → (cfg s).a < w → w ≠ 0 →
        u.zs.st = .paused ∧ u.zs.pause = { noCauses with line := true } ∧ u.cd = s.cd ∧ u.icu = s.icu)) ∧
    (free → (∀ r, 1 ≤ r → r ≤ 8 → s.zs.nextRestart ≤ r → shutInRestart r s = []) →
      u.zs.st = .running ∧ u.zs.currentStage = 0 ∧ u.zs.nextRestart = 1 ∧ u.zs.pause = noCauses ∧
      u.zs.checkedStage = none ∧ u.zs.waiver = none ∧ u.cd = s.cd ∧ u.icu = s.icu ∧
      (s.rcp.lastTripReq ≠ some s.nodeTime →
        u.zs.grade = 0 ∧ recordOpen u = false ∧
        (s.rcp.record.isOpen = true →
          (u.rcp.closeWaits = false ∧ u.rcp.record = { s.rcp.record with
            isOpen := false, permit := false, grade := 0, sequence := u.rcp.record.sequence }) ∨
          u.rcp = { s.rcp with closeWaits := true }) ∧
        (s.rcp.record.isOpen = false → u.rcp = { s.rcp with closeWaits := false })) ∧
      (s.rcp.lastTripReq = some s.nodeTime →
        u.zs.grade = s.rcp.record.grade ∧ u.rcp = { s.rcp with closeWaits := false }))

/-- The inrush deadline of a restart stage. While channels are pending the stage runs on. With none
pending it ends: the next restart stage is the one after, and the restart gap runs when no cause remains.
A cause held back that still holds, or CHANNEL for a stage with an unconfirmed channel, pauses the restart
without a gap. A last channel that times out after the deadline ends the stage with CHANNEL (R146, R179,
R180, R181). -/
def Obligations.RestartStageEnds : Prop :=
  ∀ (t r : Nat) (s : State), RunsAt t s → s.zs.st = .restarting → s.zs.restartStage = some r →
    let hold := s.zs.ta + holdSeconds (cfg s) s.zs.grade * 10000
    let causes : Causes := { s.zs.held with
      aftershock := s.zs.held.aftershock && decide (t < hold)
      reset := s.zs.held.reset && (match s.zs.resetDue with | some d => decide (t < d) | none => false)
      channel := s.zs.held.channel || s.zs.unconfMark }
    (∀ d, s.zs.inrushDue = some d → d ≤ t → s.zs.runPending ≠ [] →
      exec (.inrushDeadline t) s = .next { s with nodeTime := t, zs := { s.zs with inrushDue := none } }) ∧
    (∀ d, s.zs.inrushDue = some d → d ≤ t → s.zs.runPending = [] → causes = noCauses →
      exec (.inrushDeadline t) s = .next { s with
        nodeTime := t
        zs := { s.zs with
          restartStage := none, nextRestart := r + 1, held := noCauses, inrushDue := none
          restartGap := some (t + (cfg s).restartGap * 1000) } }) ∧
    (∀ d, s.zs.inrushDue = some d → d ≤ t → s.zs.runPending = [] → causes ≠ noCauses →
      exec (.inrushDeadline t) s = .next (place .status { s with
        nodeTime := t
        zs := { s.zs with
          st := .paused, pause := causes, restartStage := none, nextRestart := r + 1, held := noCauses
          inrushDue := none, holdDue := if causes.aftershock then some hold else s.zs.holdDue } })) ∧
    (∀ (c : Channel) (q : ChanRun) (d : Nat), chan s c = some q → q.conf = .pending → q.ackDue = some d →
      d ≤ t → s.zs.runPending = [c] → s.zs.inrushDue = none →
      ∃ u, exec (.ackDeadline t c) s = .next u ∧ SameAround s u ∧ u.nodeTime = t ∧
        chan u c = some { q with conf := .unconfirmed, ackDue := none } ∧
        (∀ e, e ≠ c → chan u e = chan s e) ∧ active .channelUnconfirmed u = true ∧
        u.zs.st = .paused ∧ u.zs.pause = { causes with channel := true } ∧ u.zs.nextRestart = r + 1 ∧
        u.zs.restartStage = none ∧ u.icu = s.icu ∧ u.rcp = s.rcp)

/-! ## Configuration, cold start and trip record (Chapter 10) -/

/-- The requests that the trip record takes, from a RAM copy that is open and from one that is not, and
the write that each change of it starts or leaves pending. A request that makes no change starts no write.
A close at the node time of the last trip request is void. Any other close of an open record is taken at
once or waits, and one that waits is taken when node time moves on, unless a trip request comes first,
which finds the record open: that it waits as a flag, and that the record then counts as closed for every
other request, are the model's choices (notes/assumptions/30.md) (R91, R93, R128, R133, R195, R196, R197).
-/
def Obligations.RecordTakesRequests : Prop :=
  ∀ s : State,
    let r := s.rcp.record
    (∀ content : TripRecord, content ≠ r →
      setRecord content s = { s with rcp :=
        if s.rcp.writeInFlight then { s.rcp with record := content, rewritePending := true }
        else { s.rcp with
          record := { content with sequence := (content.sequence + 1) % 65536 }
          writeInFlight := true, rewritePending := false, retry := false
          attemptDue := some (s.nodeTime + 200)
          writeBytes := recordBytes { content with sequence := (content.sequence + 1) % 65536 } } }) ∧
    setRecord r s = s ∧
    (∀ own origin votes grade stations,
      rcpTrip own origin votes grade stations s =
        setRecord
          (if r.isOpen then
            { r with count := min 255 (r.count + 1), grade := max r.grade grade,
                     permit := r.permit || origin == .console }
          else
            { isOpen := true, permit := origin == .console, sequence := r.sequence, own := some own
              origin := some origin, votes := votes, grade := grade, count := 1, stations := stations })
          { s with rcp := { s.rcp with lastTripReq := some s.nodeTime } }) ∧
    (recordOpen s = (r.isOpen && !s.rcp.closeWaits)) ∧
    (∀ g, rcpRaise g s = if recordOpen s ∧ r.grade < g then setRecord { r with grade := g } s else s) ∧
    (rcpPermit s = if recordOpen s then setRecord { r with permit := true } s else s) ∧
    (let taken := { s with rcp := { s.rcp with closeWaits := false } }
     (s.rcp.lastTripReq ≠ some s.nodeTime → takeClose s =
        if r.isOpen then setRecord { r with isOpen := false, permit := false, grade := 0 } taken else taken) ∧
     (s.rcp.lastTripReq = some s.nodeTime →
        takeClose s = { taken with zs := { s.zs with grade := max s.zs.grade r.grade } })) ∧
    (r.isOpen = false ∨ s.rcp.lastTripReq = some s.nodeTime → rcpClose s = takeClose s) ∧
    (r.isOpen = true → s.rcp.lastTripReq ≠ some s.nodeTime → rcpClose s = takeClose (drawn s) ∨
      rcpClose s = { drawn s with rcp := { s.rcp with closeWaits := true } }) ∧
    (∀ (c : Instr) (t : Nat), commandTime c = some t → s.phase = .running → s.rcp.closeWaits = true →
      s.nodeTime < t → t ≤ maxNodeTime → exec c s = exec c { takeClose s with nodeTime := t })

/-- The acknowledgement of a write completes it, clears RECORD-FAIL and RECORD-LOST, and starts the write
that is pending behind it. The deadline of a first attempt starts a retry, and that of a retry makes
RECORD-FAIL active and starts a pending write as a first attempt. Every write starts with the next
sequence and sends the whole record to memory address 0x0100. An acknowledgement at the node time at which
an attempt has failed is ignored: that it is that attempt's, and never that of the write then in flight,
is the model's inference (notes/assumptions/11.md, DEDUCED) (R185, R197, R198). -/
def Obligations.RecordIsWritten : Prop :=
  ∀ (t d : Nat) (s : State), RunsAt t s → s.rcp.writeInFlight = true → s.rcp.attemptDue = some d →
    let next := { s.rcp.record with sequence := (s.rcp.record.sequence + 1) % 65536 }
    let started (again : Bool) (failed : Option Nat) : RecordState := { s.rcp with
      record := next, writeInFlight := true, rewritePending := false, retry := again
      attemptDue := some (t + 200), writeBytes := recordBytes next, failedAt := failed }
    let idle (failed : Option Nat) : RecordState := { s.rcp with
      writeInFlight := false, attemptDue := none, retry := false, failedAt := failed }
    writeTransfer s = some (0x0100#16, s.rcp.writeBytes) ∧
    (t ≤ d → s.rcp.failedAt ≠ some t → ∃ u, exec (.recordWriteAck t) s = .next u ∧
      active .recordFail u = false ∧ active .recordLost u = false ∧ u.hm.sticky = s.hm.sticky ∧
      u = { s with nodeTime := t, hm := u.hm
                   rcp := if s.rcp.rewritePending then started false s.rcp.failedAt
                     else idle s.rcp.failedAt }) ∧
    (s.rcp.failedAt = some t → exec (.recordWriteAck t) s = .next { s with nodeTime := t }) ∧
    (d ≤ t → s.rcp.retry = false →
      exec (.attemptDeadline t) s = .next { s with nodeTime := t, rcp := started true (some t) }) ∧
    (d ≤ t → s.rcp.retry = true → ∃ u, exec (.attemptDeadline t) s = .next u ∧
      active .recordFail u = true ∧ hasFault .recordFail u.hm.sticky = true ∧
      u = { s with nodeTime := t, hm := u.hm
                   rcp := if s.rcp.rewritePending then started false (some t) else idle (some t) })

/-- The record that a write sends is the record that a cold start reads: every record whose fields lie in
their ranges is taken exactly from its own bytes, 43 of them (R193, R194). -/
def Obligations.RecordSurvivesTheMemory : Prop :=
  ∀ r : TripRecord, r.sequence ≤ 65535 → r.votes ≤ 32 → r.grade ≤ 4 → r.count ≤ 255 →
    ascending (r.stations.map (fun i => i.val)) = true →
    (recordBytes r).length = 43 ∧ parseRecord (recordBytes r) = some r

/-- The cold reset samples the straps, checks the sensor's identity byte and leaves every output
unpowered. A valid image is held with its digest and its bit timing, and any other raises CONFIG-BAD. An
image is valid when it has its 196 bytes, the format code 0x31, its CRC and a start mode of 0 or 1, and
its fields pass the ranges and the checks 5 to 8 of R189. A bound that the width of a field gives needs no
check. The image is read from memory address 0, 196 bytes, and then the record from 0x0100, 43 bytes. A
read that fails is retried once, and a second failure has the effect of a region that fails its checks.
That the reset keeps the levels at the pins (notes/assumptions/6.md), and that a read may fail at any node
time while it is in progress (notes/assumptions/11.md), are the model's choices (R2, R3, R55, R102, R185,
R186, R189, R190, R214). -/
def Obligations.ColdResetAndImage : Prop :=
  (∀ (id : StationId) (range16 : Bool) (identity : Byte) (s : State),
    ∃ u, exec (.coldReset id range16 identity) s = .next u ∧
      u.nodeTime = 0 ∧ u.phase = .readImage ∧ readTransfer u = some (0x0000#16, 196) ∧
      u.pins = s.pins ∧ u.pending = s.pending ∧
      u.rcp.stationId = id ∧ u.rcp.range16 = range16 ∧ u.rcp.config = none ∧ u.rcp.readDue = some 200 ∧
      u.mp.sensorRange16 = range16 ∧ u.mp.sensorRate200 = true ∧ u.mp.sensorDrdy = true ∧
      u.mp.deflection = false ∧ u.mp.det = .idle ∧ u.zs.st = .unconfigured ∧ u.slc.line = .inactive ∧
      u.slc.queue = [] ∧ u.vtu.driving = false ∧ u.vtu.armed = false ∧ u.hm.healthy = false ∧
      (∀ c, chan u c = none) ∧
      u.hm.active = { noFaults with sensorLost := decide (identity ≠ 0x5C#8) } ∧
      u.hm.sticky = u.hm.active) ∧
  (∀ (image : List Byte) (c : NodeConfig), parseImage image = some c ↔
    image.length = 196 ∧ image.getD 0 0#8 = 0x31#8 ∧
    (crcOfBytes (image.take 194)).toNat = (image.getD 194 0#8).toNat * 256 + (image.getD 195 0#8).toNat ∧
    (image.getD 62 0#8).toNat ≤ 1 ∧ c = imageFields image ∧ configValid c = true) ∧
  (∀ c : NodeConfig,
    let ch (n : Channel) := c.channels[n.val]'n.isLt
    configValid c = true ↔
      (2 ≤ c.k ∧ c.k ≤ 8 ∧ 100 ≤ c.w ∧ c.w ≤ 60000 ∧ 1 ≤ c.gs ∧ c.gs ≤ 4 ∧ 2 ≤ c.gsolo ∧ c.gsolo ≤ 5 ∧
        1 ≤ c.gpermit ∧ c.gpermit ≤ 5 ∧ c.uci ≤ 32767 ∧ 1 ≤ c.b ∧ 100 ≤ c.ts ∧ c.ts ≤ 5000 ∧
        100 ≤ c.bu ∧ c.bu ≤ 10000 ∧ 1000 ≤ c.hw ∧ c.hw ≤ 50000 ∧ 1 ≤ c.ps ∧ c.ps ≤ 60) ∧
      (c.timing.prescale ≤ 63 ∧ 3 ≤ c.timing.seg1 ∧ c.timing.seg1 ≤ 24 ∧ 2 ≤ c.timing.seg2 ∧
        c.timing.seg2 ≤ 12 ∧ 1 ≤ c.timing.jump ∧ c.timing.jump ≤ 6 ∧ c.timing.jump ≤ c.timing.seg2) ∧
      (2 ≤ c.ks ∧ c.ks ≤ 6 ∧ 8 ≤ c.kl ∧ c.kl ≤ 13 ∧ 17 ≤ c.onsetRatio ∧ 8 ≤ c.endRatio ∧
        c.endRatio < c.onsetRatio ∧ 20 ≤ c.endHold ∧ c.endHold ≤ 2000 ∧ 1 ≤ c.lmin ∧ c.lmin ≤ 4095 ∧
        10 ≤ c.emax ∧ c.emax ≤ 600 ∧ c.testHours ≤ 168 ∧ c.dmin ≤ c.dmax ∧ c.dmax ≤ 32767 ∧
        c.shutdownGap ≤ 600 ∧ c.restartGap ≤ 600) ∧
      (1 ≤ c.p1 ∧ c.p1 < c.p2 ∧ c.p2 < c.p3 ∧ c.p3 < c.p4 ∧ c.p4 ≤ 32767 ∧
        1 ≤ c.c1 ∧ c.c1 < c.c2 ∧ c.c2 < c.c3 ∧ c.c3 < c.c4) ∧
      (∀ r : Fin 8, 1 ≤ c.ir[r.val]'r.isLt ∧ c.ir[r.val]'r.isLt ≤ 6000) ∧
      (∀ n, (ch n).shutdownStage ≤ 8 ∧ (ch n).restartStage ≤ 8 ∧ 1 ≤ (ch n).ackTimeout ∧
        (ch n).ackTimeout ≤ 3000) ∧
      (∀ n, (ch n).enabled = true → (ch n).shutdownStage ≠ 0 ∨ (ch n).kind = .permit →
        1 ≤ (ch n).restartStage) ∧
      (∀ (n : Channel) (r : Fin 8), (ch n).enabled = true → (ch n).restartStage = r.val + 1 →
        c.ts < (c.ir[r.val]'r.isLt) * 1000)) ∧
  (∀ (t d : Nat) (image : List Byte) (s : State), s.phase = .readImage → s.nodeTime ≤ t → t ≤ maxNodeTime →
    s.rcp.readDue = some d → t ≤ d →
    (∃ u, exec (.imageRead t image) s = .next u ∧ readTransfer u = some (0x0100#16, 43)) ∧
    (∀ c, parseImage image = some c →
      exec (.imageRead t image) s = .next { s with
        nodeTime := t, phase := .readRecord
        rcp := { s.rcp with config := some c, digest := (crcOfBytes ((image.drop 1).take 61)).toNat
                            readRetry := false, readDue := some (t + 200) }
        slc := { s.slc with timing := c.timing, line := .seeking } }) ∧
    (parseImage image = none →
      exec (.imageRead t image) s = .next (raiseFault .configBad { s with
        nodeTime := t, phase := .readRecord
        rcp := { s.rcp with config := none, digest := 0, readRetry := false, readDue := some (t + 200) }
        slc := { s.slc with timing := defaultTiming, line := .seeking } }))) ∧
  (∀ (t : Nat) (s : State), s.nodeTime ≤ t → t ≤ maxNodeTime →
    (s.phase = .readImage ∨ s.phase = .readRecord → s.rcp.readRetry = false →
      exec (.memoryReadTimeout t) s = .next { s with
        nodeTime := t, rcp := { s.rcp with readRetry := true, readDue := some (t + 200) } }) ∧
    (s.phase = .readImage → s.rcp.readRetry = true →
      exec (.memoryReadTimeout t) s =
        exec (.imageRead t []) { s with rcp := { s.rcp with readDue := some t } }) ∧
    (s.phase = .readRecord → s.rcp.readRetry = true →
      exec (.memoryReadTimeout t) s =
        exec (.recordRead t []) { s with rcp := { s.rcp with readDue := some t } }))

/-- The record read ends the cold start. The RAM copy is the record read, or the lost record with
RECORD-LOST active. On a configured node the channels take their first commands, the sequencer its first
state and the site grade the open record's, by the tables of R112 and R188. An invalid image leaves the
node UNCONFIGURED with every channel DISABLED. Timers start at this moment, the wire is sensed, the flag
is taken and a STATUS is queued. A node that starts in WATCH has the highest shutdown stage with channels
as current stage, and a self-test falls due after T hours. That an UNCONFIGURED node has no self-test due
time is the model's inference (notes/assumptions/16.md, DEDUCED). What an open record does is said where
every hold is longer than no time. A reset input that stands asserted begins a warm reset then (R18, R25,
R45, R52, R57, R85, R112, R116, R131, R134, R187, R188, R194). -/
def Obligations.ColdStartEnds : Prop :=
  ∀ (t d : Nat) (bytes : List Byte) (s : State), s.phase = .readRecord → s.nodeTime ≤ t →
    t ≤ maxNodeTime → s.rcp.readDue = some d → t ≤ d → s.vtu = VoteState.reset → s.zs = SeqRecord.reset →
    s.mp.inProgress = false → s.cd = ChannelState.reset →
    let r := (parseRecord bytes).getD lostRecord
    let c := cfg s
    let valid := s.rcp.config.isSome = true
    let open_ := r.isOpen = true
    let calm := holdsAboveZero c = true ∨ r.isOpen = false
    let anyShut := ∃ e : Channel, (chanCfg s e).enabled = true ∧ (chanCfg s e).kind = .permit
    (s.pins.resetAsserted = true → ∃ u, exec (.recordRead t bytes) s = .next u ∧ u.phase = .warmReset ∧
      (calm → u.rcp.record = r) ∧ u.pins = s.pins ∧ u.pending = s.pending) ∧
    (s.pins.resetAsserted = false → ∃ u, exec (.recordRead t bytes) s = .next u ∧
      u.pins = s.pins ∧ u.pending = s.pending ∧
      u.phase = .running ∧ u.nodeTime = t ∧
      (calm → u.rcp = { s.rcp with
        record := r, readRetry := false, readDue := none, closeWaits := false }) ∧
      (parseRecord bytes = none → active .recordLost u = true) ∧
      (calm → ∀ f, f ≠ .recordLost → active f u = active f s) ∧
      (¬valid → u.zs.st = .unconfigured ∧ (∀ e, chan u e = none) ∧ u.vtu.armed = false ∧ u.mp.det = .idle) ∧
      (valid → u.hm.mode = c.startMode ∧ u.zs.ta = t) ∧
      (valid → calm → u.zs.grade = (if r.isOpen then r.grade else 0)) ∧
      (valid → c.startMode = .listen → u.zs.st = .running) ∧
      (valid → c.startMode = .armed → open_ → calm → u.zs.st = .watch ∧
        u.zs.holdDue = some (t + holdSeconds c r.grade * 10000) ∧
        (∀ e, (chan u e).isSome = true → (chanCfg s e).shutdownStage ≤ 8 →
          (chanCfg s e).shutdownStage ≤ u.zs.currentStage) ∧
        (u.zs.currentStage = 0 ∨
          ∃ e, (chan u e).isSome = true ∧ (chanCfg s e).shutdownStage = u.zs.currentStage)) ∧
      (valid → c.startMode = .armed → ¬open_ → anyShut → u.zs.st = .starting ∧
        u.zs.startDue = some (max (t + 3 * c.ps * 10000) (t + c.q0 * 10000))) ∧
      (valid → c.startMode = .armed → ¬open_ → ¬anyShut → u.zs.st = .running) ∧
      (valid → ∀ e : Channel, (chanCfg s e).enabled = false → chan u e = none) ∧
      (valid → calm → ∀ e : Channel, (chanCfg s e).enabled = true → ∃ q, chan u e = some q ∧
        q.cmd = (match c.startMode, (chanCfg s e).kind with
          | .listen, _ => .run
          | .armed, .permit => .shut
          | .armed, .request => if r.isOpen ∧ (chanCfg s e).shutdownStage ≠ 0 then .shut else .run) ∧
        q.readsShut = (rawAck s e != (chanCfg s e).inverted) ∧ q.disagree = false ∧
        (q.conf = .confirmed ∨ (q.conf = .pending ∧ (chanCfg s e).ackUsed = true ∧
          q.ackDue = some (t + (chanCfg s e).ackTimeout * 1000)))) ∧
      (valid → u.mp.det =
        if active .sensorLost s = true ∨ active .selftestFail s = true then .idle else .warmup) ∧
      u.mp.testDue = (if valid ∧ c.testHours ≠ 0 then some (t + c.testHours * 36000000) else none) ∧
      u.mp.missingDue = some (t + 100) ∧ u.slc.lastHeard = t ∧ u.slc.heardDue = some (t + 3 * c.ps * 10000) ∧
      u.slc.statusDue = some (t + c.ps * 10000) ∧ (calm → u.slc.queue = (place .status s).slc.queue) ∧
      (peer u (ownId s)).presence = .present ∧
      u.vtu.wire = (if s.pins.wireAsserted then .rising else .released) ∧
      (valid → 0 < c.k → u.vtu.armed = !s.pins.wireAsserted))

/-- A warm reset. It keeps the configuration, the record, node time, Ta, the site grade, the console hold,
the mode and every channel's command and confirmation. It clears the transmit queue, the score, the Peer
View, the inrush list and the own claim, releases the drive, ends an own event without a report and a
self-test with its notice, and adds or holds back RESET as the table of R149 has it. Before the end of the
cold start the reset input is not taken. That the detector is IDLE, the trip-armed flag clear, the wire
RELEASED and the rest as this state has it from the assertion on, where the rules speak of the end of the
reset alone (notes/assumptions/34.md), that a second assertion in a warm reset does nothing
(notes/assumptions/8.md), that the gap deadline and the flag of a write in flight stand as markers until
the end of the reset (notes/assumptions/9.md), that the last-heard times of the Peer View go to 0 and the
own claim keeps its weight and duration (notes/assumptions/26.md and 29.md), and that a close that waits
is taken first (notes/assumptions/30.md) are the model's choices (R2, R29, R55, R74, R96, R114, R149,
R156, R172, R187, R199, R214). -/
def Obligations.WarmResetBegins : Prop :=
  ∀ (t : Nat) (s : State), s.nodeTime ≤ t → t ≤ maxNodeTime →
    let pins := { s.pins with resetAsserted := true }
    let masked := s.mp.det = .masked
    let gap := s.zs.st = .restarting ∧ s.zs.restartStage = none
    (s.phase = .readImage ∨ s.phase = .readRecord ∨ s.phase = .warmReset →
      exec (.warmReset t) s = .next { s with nodeTime := t, pins := pins }) ∧
    (s.phase = .running → s.rcp.closeWaits = true → t = s.nodeTime →
      exec (.warmReset t) s = exec (.warmReset t) (takeClose s)) ∧
    (s.phase = .running → s.rcp.closeWaits = false → exec (.warmReset t) s = .next { s with
      nodeTime := t, pins := pins, phase := .warmReset
      mp := { s.mp with
        phase := if s.mp.inProgress then .ended else s.mp.phase, inProgress := false, det := .idle
        deflection := false, sensorRange16 := s.rcp.range16, warmupCount := 0, endHold := 0
        testCount := 0, testSum := 0, settleCount := 0, missingCount := 0, missingDue := none
        recovery := 0 }
      slc := { s.slc with line := .seeking, score := 0, lastError := .none, queue := [], inFlight := none
                          heardDue := none, conflictDue := none, statusDue := none }
      pv := PeerView.reset
      vtu := { s.vtu with votes := 0, armed := false, driving := false, driveDue := none, wire := .released
                          confirmDue := none, stuckDue := none }
      cd := { runs := Vector.ofFn (fun c : Fin 16 =>
        (chan s c).map (fun r => { r with ackDue := none, filterDue := none })) }
      zs := { s.zs with
        holdDue := none, startDue := none, resetDue := none, restartGap := none
        st := if s.zs.st = .claiming ∨ gap then .paused else s.zs.st
        pause := if s.zs.st = .claiming ∨ gap then { noCauses with reset := true }
          else if s.zs.st = .paused then { s.zs.pause with reset := true } else s.zs.pause
        held := if s.zs.st = .restarting ∧ s.zs.restartStage.isSome
          then { s.zs.held with reset := true } else s.zs.held }
      icu := { s.icu with list := [], own := .none, settleDue := none, settleError := false
                          backoffDue := none, ownExpiry := none }
      rcp := { s.rcp with attemptDue := none }
      hm := { s.hm with
        active := { s.hm.active with lineIsolated := false, lineSuppressed := false, wireStuck := false
                                     configMismatch := false, idConflict := false }
        sticky := { s.hm.sticky with selftestAborted := s.hm.sticky.selftestAborted || decide masked }
        healthy := false } })

/-- The end of a warm reset. The deadlines of the timers start at this moment, the reset deadline runs on
a configured node, the detector enters WARMUP or IDLE, the wire is sensed, every channel keeps its command
and takes its level, a write that the reset abandoned starts again, and a STATUS is queued. The sequencer
keeps its state where no hold has run out and no stage is in progress. PAUSED drops LINE, a PRECHECK whose
stage now passes and an AFTERSHOCK whose hold has run out, and keeps RESET. The trip-armed flag is
computed afresh, and CHANNEL-UNCONFIRMED follows the unconfirmed set. That a release of the reset input
before the end of the cold start (notes/assumptions/10.md), or while the part is running
(notes/assumptions/8.md), only moves the pin is the model's choice (R29, R45, R52, R84, R96, R110, R114,
R138, R140, R142 to R144, R150, R199, R214). -/
def Obligations.WarmResetEnds : Prop :=
  ∀ (t : Nat) (s : State), s.nodeTime ≤ t → t ≤ maxNodeTime →
    let pins := { s.pins with resetAsserted := false }
    let steady := s.zs.st ≠ .shutting ∧ s.zs.st ≠ .restarting ∧
      (s.zs.st = .watch → t < s.zs.ta + holdSeconds (cfg s) s.zs.grade * 10000) ∧
      (s.zs.st = .paused → s.zs.pause.reset = true)
    (s.phase = .readImage ∨ s.phase = .readRecord ∨ (s.phase = .running ∧ NoCloseBefore t s) →
      exec (.endOfWarmReset t) s = .next { s with nodeTime := t, pins := pins }) ∧
    (s.phase = .warmReset → ∃ u, exec (.endOfWarmReset t) s = .next u ∧
      u.phase = .running ∧ u.nodeTime = t ∧ u.pins = pins ∧ u.pending = s.pending ∧
      u.mp.missingDue = some (t + 100) ∧
      u.mp.det = (if configured s = true ∧ active .sensorLost s = false ∧ active .selftestFail s = false
        then .warmup else .idle) ∧
      u.slc.lastHeard = t ∧ u.slc.heardDue = some (t + threePs s) ∧
      u.slc.statusDue = some (t + (cfg s).ps * 10000) ∧
      (queueOk s = true → s.slc.queue.length < 4 → .status ∈ u.slc.queue) ∧
      (peer u (ownId s)).presence = .present ∧
      u.vtu.wire = (if s.pins.wireAsserted then .rising else .released) ∧
      u.vtu.armed = (s.vtu.armed || (configured s && decide (s.vtu.votes < (cfg s).k) &&
        !(s.mp.inProgress && decide ((cfg s).gsolo ≤ s.mp.grade)) && !s.pins.wireAsserted &&
        (match s.vtu.rearmDue with | some d => decide (d ≤ t) | none => true))) ∧
      (active .channelUnconfirmed u = true ↔ ∃ e q, chan u e = some q ∧ q.conf = .unconfirmed) ∧
      (configured s = true → u.zs.resetDue = some (t + threePs s)) ∧
      (∀ c q, chan s c = some q → (chanCfg s c).ackUsed = true → steady →
        let level := rawAck s c != (chanCfg s c).inverted
        let fits := level = decide (q.cmd = .shut)
        chan u c = some { q with
          readsShut := level, filterDue := none, conf := if fits then .confirmed else q.conf
          ackDue := if q.conf = .pending then
              (if fits then none else some (t + (chanCfg s c).ackTimeout * 1000)) else q.ackDue
          disagree := if q.conf = .confirmed then decide (¬fits) else q.disagree }) ∧
      (∀ c, (chanCfg s c).ackUsed = false → steady → chan u c = chan s c) ∧
      (s.rcp.writeInFlight = true → steady →
        u.rcp.record = { s.rcp.record with sequence := (s.rcp.record.sequence + 1) % 65536 } ∧
        u.rcp.attemptDue = some (t + 200) ∧ u.rcp.retry = false) ∧
      (s.rcp.writeInFlight = false → steady → u.rcp = s.rcp) ∧
      (steady → u.zs.st = s.zs.st ∧ u.zs.ta = s.zs.ta ∧ u.zs.grade = s.zs.grade ∧
        u.zs.consoleHold = s.zs.consoleHold ∧ u.zs.nextRestart = s.zs.nextRestart ∧ u.icu = s.icu) ∧
      (s.zs.st = .starting →
        u.zs.startDue = some (max (t + threePs s) (s.zs.ta + (cfg s).q0 * 10000))) ∧
      (s.zs.st = .watch → steady →
        u.zs.holdDue = some (s.zs.ta + holdSeconds (cfg s) s.zs.grade * 10000)) ∧
      (s.zs.st = .shutting → configured s = true → (∃ d, s.zs.gapDue = some d) → s.zs.stage = none →
        u.zs.st = .shutting ∧ u.zs.gapDue = some (t + (cfg s).shutdownGap * 1000)) ∧
      (s.zs.st = .paused → steady → u.zs.pause.line = false ∧ u.zs.pause.reset = true ∧
        u.zs.pause.console = s.zs.pause.console ∧ u.zs.pause.channel = s.zs.pause.channel ∧
        u.zs.pause.precheck = (s.zs.pause.precheck && (match s.zs.checkedStage with
          | some k => !precheck k u | none => false)) ∧
        u.zs.pause.aftershock = (s.zs.pause.aftershock &&
          decide (t < s.zs.ta + holdSeconds (cfg s) s.zs.grade * 10000))))

/-! ## Console commands, status and health (Chapter 11) -/

/-- A command for another node changes nothing that hearing its frame does not change. A command for this
node, or for all, from a station outside the console set is REFUSED and has no effect but that its code
and result are held (R200, R201). -/
def Obligations.CommandIsRefused : Prop :=
  ∀ (c : Instr) (code t : Nat) (i : StationId) (p : CommandPayload) (s : State),
    commandFrame c = some (code, t, i, p) → c.wellFormed = true → RunsAt t s → s.slc.line = .receiving →
    i ≠ ownId s → configured s = true →
    (p.target ≠ 255 → p.target ≠ (ownId s).val → exec c s = .next (heardFrame t i s)) ∧
    (p.target = 255 ∨ p.target = (ownId s).val → inConsoleSet s i = false →
      exec c s = .next { heardFrame t i s with
        hm := { (heardFrame t i s).hm with lastCode := code, lastResult := .refused } })

/-- PERMIT, SHUTDOWN, TEST, MODE, ACK-FAULTS and REPORT from the console set, each with the result it
reports and the effect that it has in the state in which its frame has been heard. Entry into ARMED zeroes
the would-trip count, queues a STATUS and takes the vote test. That the line error score falls before the
frame is delivered, so that the end of suppression comes first, is the model's choice
(notes/assumptions/19.md) (R95, R202, R205 to R208, R212). -/
def Obligations.CommandIsTaken : Prop :=
  ∀ (t : Nat) (i : StationId) (p : CommandPayload) (s : State), RunsAt t s → s.slc.line = .receiving →
    i ≠ ownId s → configured s = true → inConsoleSet s i = true → commandInRange p = true →
    p.target = 255 ∨ p.target = (ownId s).val →
    let h := heardFrame t i s
    let answered (code : Nat) (r : CmdResult) (u : State) : State :=
      { u with hm := { u.hm with lastCode := code, lastResult := r } }
    let mayTest := h.mp.det = .quiet ∨
      (h.mp.det = .idle ∧ active .selftestFail h = true ∧ active .sensorLost h = false)
    let takesMode := p.argument ≤ 1
    let mayMode := h.zs.st = .running ∧ h.mp.det ≠ .event ∧
      (p.argument = 0 ∨ (h.vtu.driving = false ∧ ∀ e ∈ h.slc.queue, entryClass e ≠ 0))
    (h.zs.st = .awaitPermit → exec (.permit t i p) s = .next (answered 1 .done (beginStage h))) ∧
    (h.zs.st ≠ .awaitPermit → exec (.permit t i p) s = .next (answered 1 .ignored h)) ∧
    (h.hm.mode = .armed → h.vtu.armed = true →
      exec (.shutdown t i p) s = .next (answered 4 .done (tripOccasion .console .console 0 0 h))) ∧
    (h.hm.mode = .listen ∨ h.vtu.armed = false →
      exec (.shutdown t i p) s = .next (answered 4 .ignored h)) ∧
    (mayTest → exec (.test t i p) s = .next (answered 5 .done { h with
      mp := { h.mp with testFromIdle := decide (h.mp.det = .idle), det := .masked, deflection := true
                        testPart := .measuring, testCount := 0, testSum := 0, settleCount := 0 } })) ∧
    (¬mayTest → exec (.test t i p) s = .next (answered 5 .ignored h)) ∧
    (takesMode → ¬mayMode → exec (.mode t i p) s = .next (answered 6 .ignored h)) ∧
    (takesMode → mayMode → p.argument = modeCode h.hm.mode → exec (.mode t i p) s = .next (answered 6 .done h)) ∧
    (mayMode → p.argument = 1 → h.hm.mode = .armed → ∃ u, exec (.mode t i p) s = .next u ∧
      u.hm.mode = .listen ∧ u.hm.healthy = false ∧ u.hm.lastCode = 6 ∧ u.hm.lastResult = .done ∧
      u.slc.queue = (place .status { h with slc := { h.slc with
        queue := h.slc.queue.filter (fun e => entryClass e != 1 && entryClass e != 3) } }).slc.queue ∧
      u.mp = h.mp ∧ u.pv = h.pv ∧ u.vtu = h.vtu ∧ u.cd = h.cd ∧ u.zs = h.zs ∧ u.icu = h.icu ∧
      u.rcp = h.rcp) ∧
    (mayMode → p.argument = 0 → h.hm.mode = .listen → ∃ u, exec (.mode t i p) s = .next u ∧
      u.hm.mode = .armed ∧ u.hm.lastCode = 6 ∧ u.hm.lastResult = .done ∧ u.vtu.wouldTrip = 0 ∧
      u.vtu.votes = (countedSet h).length ∧ u.mp = h.mp ∧ u.pv = h.pv ∧
      (h.slc.queue.length < 2 → .status ∈ u.slc.queue) ∧
      ∃ v : State, u = answered 6 .done (voteTest v) ∧
        v = { h with vtu := { h.vtu with wouldTrip := 0 }, slc := (place .status h).slc, hm := v.hm } ∧
        v.hm.mode = .armed ∧ v.hm.active = h.hm.active ∧ v.hm.sticky = h.hm.sticky) ∧
    exec (.ackFaults t i p) s = .next { h with
      hm := { h.hm with sticky := h.hm.active, lastCode := 7, lastResult := .done } } ∧
    exec (.report t i p) s = .next (answered 8 .done (place .status h))

/-- HOLD and RESUME from the console set are DONE in every state. HOLD sets the console-hold flag, pauses
with CONSOLE from CLAIMING, whose claim it withdraws, and from the restart gap, is held back in a restart
stage, and is added in PAUSED. RESUME clears the flag, takes CONSOLE, CHANNEL and PRECHECK out of both
sets, waives the pre-check it removed, and begins a stage when PAUSED held nothing else. That the line
error score falls before the frame is delivered, so that the end of suppression comes first, is the
model's choice (notes/assumptions/19.md) (R141, R148, R203, R204). -/
def Obligations.HoldAndResume : Prop :=
  ∀ (t : Nat) (i : StationId) (p : CommandPayload) (s : State), RunsAt t s → s.slc.line = .receiving →
    i ≠ ownId s → configured s = true → inConsoleSet s i = true → commandInRange p = true →
    p.target = 255 ∨ p.target = (ownId s).val →
    let h := heardFrame t i s
    let left (c : Causes) : Causes := { c with console := false, channel := false, precheck := false }
    let resumed : State := { h with zs := { h.zs with
      consoleHold := false, pause := left h.zs.pause, held := left h.zs.held
      waiver := if h.zs.pause.precheck || h.zs.held.precheck then h.zs.checkedStage else h.zs.waiver } }
    (∃ u, exec (.hold t i p) s = .next u ∧ SameAround s u ∧ u.nodeTime = t ∧
      u.hm.lastCode = 2 ∧ u.hm.lastResult = .done ∧ u.zs.consoleHold = true ∧
      u.mp = h.mp ∧ u.pv = h.pv ∧ u.vtu = h.vtu ∧ u.cd = h.cd ∧ u.rcp = h.rcp ∧
      (h.zs.st = .claiming → u.zs.st = .paused ∧ u.zs.pause = { noCauses with console := true } ∧
        (h.icu.own ≠ .inForce → u.icu.own = .none)) ∧
      (h.zs.st = .restarting → h.zs.restartStage.isSome = true →
        u.zs = { h.zs with consoleHold := true, held := { h.zs.held with console := true } }) ∧
      (h.zs.st = .restarting → h.zs.restartStage = none →
        u.zs.st = .paused ∧ u.zs.pause = { noCauses with console := true } ∧ u.zs.restartGap = none) ∧
      (h.zs.st = .paused →
        u.zs = { h.zs with consoleHold := true, pause := { h.zs.pause with console := true } }) ∧
      (h.zs.st ≠ .claiming → h.zs.st ≠ .restarting → h.zs.st ≠ .paused →
        u.zs = { h.zs with consoleHold := true }) ∧
      (h.zs.st ≠ .claiming → u.icu = h.icu)) ∧
    (h.zs.st ≠ .paused ∨ left h.zs.pause ≠ noCauses →
      exec (.resume t i p) s = .next { resumed with
        hm := { h.hm with lastCode := 3, lastResult := .done } }) ∧
    (h.zs.st = .paused → left h.zs.pause = noCauses →
      exec (.resume t i p) s = .next { beginStage resumed with
        hm := { (beginStage resumed).hm with lastCode := 3, lastResult := .done } })

/-- ACK-FAULTS from the console set makes the sticky set equal to the active set and changes no other
fault state. From any other station it is REFUSED and leaves both sets as they are. A raising, a clearing
and a notice beside it end as the two orders of R212 have it. That the line error score falls before the
frame is delivered, so that the end of suppression comes first, is the model's choice
(notes/assumptions/19.md) (R212). -/
def Obligations.AckFaults : Prop :=
  (∀ (t : Nat) (i : StationId) (p : CommandPayload) (s : State), RunsAt t s → s.slc.line = .receiving →
    i ≠ ownId s → configured s = true → commandInRange p = true →
    p.target = 255 ∨ p.target = (ownId s).val →
    let h := heardFrame t i s
    ∃ u, exec (.ackFaults t i p) s = .next u ∧ u.hm.active = h.hm.active ∧ u.hm.lastCode = 7 ∧
      u = { h with hm := { h.hm with sticky := u.hm.sticky, lastCode := 7, lastResult := u.hm.lastResult } } ∧
      (inConsoleSet s i = true → u.hm.sticky = h.hm.active ∧ u.hm.lastResult = .done) ∧
      (inConsoleSet s i = false → u.hm.sticky = h.hm.sticky ∧ u.hm.lastResult = .refused)) ∧
  (∀ (f : FaultId) (s : State),
    let ack (u : State) : State := { u with hm := { u.hm with sticky := u.hm.active } }
    let sticky (u : State) : Bool := hasFault f u.hm.sticky
    active f (ack (raiseFault f s)) = true ∧ sticky (ack (raiseFault f s)) = true ∧
    active f (raiseFault f (ack s)) = true ∧ sticky (raiseFault f (ack s)) = true ∧
    active f (ack (clearFault f s)) = false ∧ sticky (ack (clearFault f s)) = false ∧
    active f (clearFault f (ack s)) = false ∧ sticky (clearFault f (ack s)) = active f s ∧
    (active .selftestAborted s = false → (ack (noticeAborted s)).hm.sticky.selftestAborted = false) ∧
    (noticeAborted (ack s)).hm.sticky.selftestAborted = true)

/-! ## What every step keeps -/

/-- The state after reset meets every promise (R1, R10, R13, R16, R18, R39, R46, R115, R131, R139, R151,
R210). -/
def Obligations.ResetMeetsEveryPromise : Prop := safe State.reset = true ∧ listenQuiet State.reset = true

/-- Every step of every state keeps the transmit queue in order with at most four frames, the score within
0..255 and on the right side of suppression, and a frame in flight exactly in SENDING, never while
suppressed (R31, R39, R40, R46, R47). -/
def Obligations.LinePromisesAreKept : Prop :=
  ∀ s u : State, step s = .next u →
    (queueOk s = true → queueOk u = true) ∧ (scoreOk s = true → scoreOk u = true) ∧
    (sendingOk s = true → sendingOk u = true)

/-- Every step keeps every active fault in the sticky set and SELFTEST-ABORTED out of the active set, and
at most one claim per station in the inrush list. Node time stays within 48 bits and Ta never runs ahead
of it. A close waits only where a record is open to be closed, given that the sequencer is UNCONFIGURED
until the cold start is over. Every step keeps the health output toggling exactly while the part is
running in ARMED mode with no active fault: one line is then high while the other is low, and both change
every 10 ticks, 1 ms. In every other case both are low. That a close waits at all, as a flag of the
model's own (notes/assumptions/30.md), and that the lines are low at once, where R213 allows 1 ms
(notes/assumptions/4.md), are the model's choices (R1, R131, R151, R196, R210, R213, R214). -/
def Obligations.FaultsClaimsAndTimesAreKept : Prop :=
  (∀ s u : State, step s = .next u →
    (faultsOk s = true → faultsOk u = true) ∧ (claimsOk s = true → claimsOk u = true) ∧
    (timesOk s = true → timesOk u = true) ∧ (healthOk s = true → healthOk u = true) ∧
    (startOk s = true → closeOk s = true → closeOk u = true)) ∧
  (∀ s : State,
    (s.hm.healthy = false → healthLines s = (false, false)) ∧
    (s.hm.healthy = true → (healthLines s).2 = !(healthLines s).1) ∧
    (∀ n k : Nat, s.hm.healthy = true → k < 10 →
      let at_ (t : Nat) := healthLines { s with nodeTime := s.hm.healthSince + t }
      at_ (10 * n + k) = at_ (10 * n) ∧ at_ (10 * n + 10) = ((at_ (10 * n)).2, (at_ (10 * n)).1)))

/-- Every step keeps the baselines and averages within their bounds, the detector IDLE while SENSOR-LOST
is active and while the part is not running, and an own event in progress exactly in EVENT. That the
detector is IDLE during a warm reset is the model's choice (notes/assumptions/34.md) (R10, R13, R16, R18,
R20, R21). -/
def Obligations.MotionPromisesAreKept : Prop :=
  ∀ s u : State, step s = .next u →
    (averagesOk s = true → averagesOk u = true) ∧ (detectorOk s = true → detectorOk u = true)

/-- Every step keeps the pause-cause set non-empty exactly in PAUSED and causes held back only while a
restart stage is in progress. Every staged channel stays SHUT in WATCH and AWAIT-PERMIT, and in SHUTTING
every channel of a stage begun. That the sequencer is as R149 has it from the assertion of the reset input
on is the model's choice (notes/assumptions/34.md) (R121, R123, R139, R149). -/
def Obligations.ZonePromisesAreKept : Prop :=
  ∀ s u : State, step s = .next u → startOk s = true →
    startOk u = true ∧ (causesOk s = true → causesOk u = true) ∧ (shedOk s = true → shedOk u = true)

/-- A node that stays in LISTEN mode keeps its sequencer RUNNING or UNCONFIGURED, queues no frame but
STATUS, never drives the Trip Wire and makes no claim. Once its cold start is over it changes no channel's
command. A MODE to LISTEN that finds the sequencer RUNNING, no own event and the VTU trip-quiet leaves a
node that has no claim to make and no CLAIM queued in such a state (R46, R94, R95, R115, R207). -/
def Obligations.ListenStaysQuiet : Prop :=
  (∀ (t : Nat) (i : StationId) (p : CommandPayload) (s : State), RunsAt t s → s.slc.line = .receiving →
    i ≠ ownId s → configured s = true → inConsoleSet s i = true →
    p.target = 255 ∨ p.target = (ownId s).val → p.argument = 1 →
    let h := heardFrame t i s
    h.zs.st = .running → h.mp.det ≠ .event → h.vtu.driving = false → h.hm.mode = .armed →
    (∀ e ∈ h.slc.queue, entryClass e ≠ 0 ∧ entryClass e ≠ 2) → h.icu.own = .none ∨ h.icu.own = .inForce →
    ∃ u, exec (.mode t i p) s = .next u ∧ u.hm.mode = .listen ∧ u.hm.lastResult = .done ∧
      listenQuiet u = true ∧ startOk u = true) ∧
  ∀ s u : State, step s = .next u → s.hm.mode = .listen → u.hm.mode = .listen → startOk s = true →
    listenQuiet s = true →
    listenQuiet u = true ∧
    (s.phase = .running ∨ s.phase = .warmReset →
      (∀ id range16 identity rest, s.pending ≠ .coldReset id range16 identity :: rest) →
      ∀ c, (chan u c).map (fun r => r.cmd) = (chan s c).map (fun r => r.cmd))
end

