-- ==== Sys2Proof/Laws/State.lean ====
section
/-! SUPPORT. One lemma per field per update of `State`, true by rfl: what each setter sets and what it
leaves alone. Later proofs cite these and unfold no record update. -/

namespace Sys2Proof.Machine

variable (s : State)

@[simp] theorem State.setNodeTime_nodeTime (v : Nat) : (s.setNodeTime v).nodeTime = v := rfl
@[simp] theorem State.setNodeTime_mp (v : Nat) : (s.setNodeTime v).mp = s.mp := rfl
@[simp] theorem State.setNodeTime_slc (v : Nat) : (s.setNodeTime v).slc = s.slc := rfl
@[simp] theorem State.setNodeTime_pv (v : Nat) : (s.setNodeTime v).pv = s.pv := rfl
@[simp] theorem State.setNodeTime_vtu (v : Nat) : (s.setNodeTime v).vtu = s.vtu := rfl
@[simp] theorem State.setNodeTime_cd (v : Nat) : (s.setNodeTime v).cd = s.cd := rfl
@[simp] theorem State.setNodeTime_zs (v : Nat) : (s.setNodeTime v).zs = s.zs := rfl
@[simp] theorem State.setNodeTime_icu (v : Nat) : (s.setNodeTime v).icu = s.icu := rfl
@[simp] theorem State.setNodeTime_rcp (v : Nat) : (s.setNodeTime v).rcp = s.rcp := rfl
@[simp] theorem State.setNodeTime_hm (v : Nat) : (s.setNodeTime v).hm = s.hm := rfl
@[simp] theorem State.setNodeTime_pins (v : Nat) : (s.setNodeTime v).pins = s.pins := rfl
@[simp] theorem State.setNodeTime_phase (v : Nat) : (s.setNodeTime v).phase = s.phase := rfl
@[simp] theorem State.setNodeTime_draws (v : Nat) : (s.setNodeTime v).draws = s.draws := rfl
@[simp] theorem State.setNodeTime_pending (v : Nat) : (s.setNodeTime v).pending = s.pending := rfl

@[simp] theorem State.setMp_nodeTime (v : MotionState) : (s.setMp v).nodeTime = s.nodeTime := rfl
@[simp] theorem State.setMp_mp (v : MotionState) : (s.setMp v).mp = v := rfl
@[simp] theorem State.setMp_slc (v : MotionState) : (s.setMp v).slc = s.slc := rfl
@[simp] theorem State.setMp_pv (v : MotionState) : (s.setMp v).pv = s.pv := rfl
@[simp] theorem State.setMp_vtu (v : MotionState) : (s.setMp v).vtu = s.vtu := rfl
@[simp] theorem State.setMp_cd (v : MotionState) : (s.setMp v).cd = s.cd := rfl
@[simp] theorem State.setMp_zs (v : MotionState) : (s.setMp v).zs = s.zs := rfl
@[simp] theorem State.setMp_icu (v : MotionState) : (s.setMp v).icu = s.icu := rfl
@[simp] theorem State.setMp_rcp (v : MotionState) : (s.setMp v).rcp = s.rcp := rfl
@[simp] theorem State.setMp_hm (v : MotionState) : (s.setMp v).hm = s.hm := rfl
@[simp] theorem State.setMp_pins (v : MotionState) : (s.setMp v).pins = s.pins := rfl
@[simp] theorem State.setMp_phase (v : MotionState) : (s.setMp v).phase = s.phase := rfl
@[simp] theorem State.setMp_draws (v : MotionState) : (s.setMp v).draws = s.draws := rfl
@[simp] theorem State.setMp_pending (v : MotionState) : (s.setMp v).pending = s.pending := rfl

@[simp] theorem State.setSlc_nodeTime (v : LineCtl) : (s.setSlc v).nodeTime = s.nodeTime := rfl
@[simp] theorem State.setSlc_mp (v : LineCtl) : (s.setSlc v).mp = s.mp := rfl
@[simp] theorem State.setSlc_slc (v : LineCtl) : (s.setSlc v).slc = v := rfl
@[simp] theorem State.setSlc_pv (v : LineCtl) : (s.setSlc v).pv = s.pv := rfl
@[simp] theorem State.setSlc_vtu (v : LineCtl) : (s.setSlc v).vtu = s.vtu := rfl
@[simp] theorem State.setSlc_cd (v : LineCtl) : (s.setSlc v).cd = s.cd := rfl
@[simp] theorem State.setSlc_zs (v : LineCtl) : (s.setSlc v).zs = s.zs := rfl
@[simp] theorem State.setSlc_icu (v : LineCtl) : (s.setSlc v).icu = s.icu := rfl
@[simp] theorem State.setSlc_rcp (v : LineCtl) : (s.setSlc v).rcp = s.rcp := rfl
@[simp] theorem State.setSlc_hm (v : LineCtl) : (s.setSlc v).hm = s.hm := rfl
@[simp] theorem State.setSlc_pins (v : LineCtl) : (s.setSlc v).pins = s.pins := rfl
@[simp] theorem State.setSlc_phase (v : LineCtl) : (s.setSlc v).phase = s.phase := rfl
@[simp] theorem State.setSlc_draws (v : LineCtl) : (s.setSlc v).draws = s.draws := rfl
@[simp] theorem State.setSlc_pending (v : LineCtl) : (s.setSlc v).pending = s.pending := rfl

@[simp] theorem State.setPv_nodeTime (v : PeerView) : (s.setPv v).nodeTime = s.nodeTime := rfl
@[simp] theorem State.setPv_mp (v : PeerView) : (s.setPv v).mp = s.mp := rfl
@[simp] theorem State.setPv_slc (v : PeerView) : (s.setPv v).slc = s.slc := rfl
@[simp] theorem State.setPv_pv (v : PeerView) : (s.setPv v).pv = v := rfl
@[simp] theorem State.setPv_vtu (v : PeerView) : (s.setPv v).vtu = s.vtu := rfl
@[simp] theorem State.setPv_cd (v : PeerView) : (s.setPv v).cd = s.cd := rfl
@[simp] theorem State.setPv_zs (v : PeerView) : (s.setPv v).zs = s.zs := rfl
@[simp] theorem State.setPv_icu (v : PeerView) : (s.setPv v).icu = s.icu := rfl
@[simp] theorem State.setPv_rcp (v : PeerView) : (s.setPv v).rcp = s.rcp := rfl
@[simp] theorem State.setPv_hm (v : PeerView) : (s.setPv v).hm = s.hm := rfl
@[simp] theorem State.setPv_pins (v : PeerView) : (s.setPv v).pins = s.pins := rfl
@[simp] theorem State.setPv_phase (v : PeerView) : (s.setPv v).phase = s.phase := rfl
@[simp] theorem State.setPv_draws (v : PeerView) : (s.setPv v).draws = s.draws := rfl
@[simp] theorem State.setPv_pending (v : PeerView) : (s.setPv v).pending = s.pending := rfl

@[simp] theorem State.setVtu_nodeTime (v : VoteState) : (s.setVtu v).nodeTime = s.nodeTime := rfl
@[simp] theorem State.setVtu_mp (v : VoteState) : (s.setVtu v).mp = s.mp := rfl
@[simp] theorem State.setVtu_slc (v : VoteState) : (s.setVtu v).slc = s.slc := rfl
@[simp] theorem State.setVtu_pv (v : VoteState) : (s.setVtu v).pv = s.pv := rfl
@[simp] theorem State.setVtu_vtu (v : VoteState) : (s.setVtu v).vtu = v := rfl
@[simp] theorem State.setVtu_cd (v : VoteState) : (s.setVtu v).cd = s.cd := rfl
@[simp] theorem State.setVtu_zs (v : VoteState) : (s.setVtu v).zs = s.zs := rfl
@[simp] theorem State.setVtu_icu (v : VoteState) : (s.setVtu v).icu = s.icu := rfl
@[simp] theorem State.setVtu_rcp (v : VoteState) : (s.setVtu v).rcp = s.rcp := rfl
@[simp] theorem State.setVtu_hm (v : VoteState) : (s.setVtu v).hm = s.hm := rfl
@[simp] theorem State.setVtu_pins (v : VoteState) : (s.setVtu v).pins = s.pins := rfl
@[simp] theorem State.setVtu_phase (v : VoteState) : (s.setVtu v).phase = s.phase := rfl
@[simp] theorem State.setVtu_draws (v : VoteState) : (s.setVtu v).draws = s.draws := rfl
@[simp] theorem State.setVtu_pending (v : VoteState) : (s.setVtu v).pending = s.pending := rfl

@[simp] theorem State.setCd_nodeTime (v : ChannelState) : (s.setCd v).nodeTime = s.nodeTime := rfl
@[simp] theorem State.setCd_mp (v : ChannelState) : (s.setCd v).mp = s.mp := rfl
@[simp] theorem State.setCd_slc (v : ChannelState) : (s.setCd v).slc = s.slc := rfl
@[simp] theorem State.setCd_pv (v : ChannelState) : (s.setCd v).pv = s.pv := rfl
@[simp] theorem State.setCd_vtu (v : ChannelState) : (s.setCd v).vtu = s.vtu := rfl
@[simp] theorem State.setCd_cd (v : ChannelState) : (s.setCd v).cd = v := rfl
@[simp] theorem State.setCd_zs (v : ChannelState) : (s.setCd v).zs = s.zs := rfl
@[simp] theorem State.setCd_icu (v : ChannelState) : (s.setCd v).icu = s.icu := rfl
@[simp] theorem State.setCd_rcp (v : ChannelState) : (s.setCd v).rcp = s.rcp := rfl
@[simp] theorem State.setCd_hm (v : ChannelState) : (s.setCd v).hm = s.hm := rfl
@[simp] theorem State.setCd_pins (v : ChannelState) : (s.setCd v).pins = s.pins := rfl
@[simp] theorem State.setCd_phase (v : ChannelState) : (s.setCd v).phase = s.phase := rfl
@[simp] theorem State.setCd_draws (v : ChannelState) : (s.setCd v).draws = s.draws := rfl
@[simp] theorem State.setCd_pending (v : ChannelState) : (s.setCd v).pending = s.pending := rfl

@[simp] theorem State.setZs_nodeTime (v : SeqRecord) : (s.setZs v).nodeTime = s.nodeTime := rfl
@[simp] theorem State.setZs_mp (v : SeqRecord) : (s.setZs v).mp = s.mp := rfl
@[simp] theorem State.setZs_slc (v : SeqRecord) : (s.setZs v).slc = s.slc := rfl
@[simp] theorem State.setZs_pv (v : SeqRecord) : (s.setZs v).pv = s.pv := rfl
@[simp] theorem State.setZs_vtu (v : SeqRecord) : (s.setZs v).vtu = s.vtu := rfl
@[simp] theorem State.setZs_cd (v : SeqRecord) : (s.setZs v).cd = s.cd := rfl
@[simp] theorem State.setZs_zs (v : SeqRecord) : (s.setZs v).zs = v := rfl
@[simp] theorem State.setZs_icu (v : SeqRecord) : (s.setZs v).icu = s.icu := rfl
@[simp] theorem State.setZs_rcp (v : SeqRecord) : (s.setZs v).rcp = s.rcp := rfl
@[simp] theorem State.setZs_hm (v : SeqRecord) : (s.setZs v).hm = s.hm := rfl
@[simp] theorem State.setZs_pins (v : SeqRecord) : (s.setZs v).pins = s.pins := rfl
@[simp] theorem State.setZs_phase (v : SeqRecord) : (s.setZs v).phase = s.phase := rfl
@[simp] theorem State.setZs_draws (v : SeqRecord) : (s.setZs v).draws = s.draws := rfl
@[simp] theorem State.setZs_pending (v : SeqRecord) : (s.setZs v).pending = s.pending := rfl

@[simp] theorem State.setIcu_nodeTime (v : ClaimState) : (s.setIcu v).nodeTime = s.nodeTime := rfl
@[simp] theorem State.setIcu_mp (v : ClaimState) : (s.setIcu v).mp = s.mp := rfl
@[simp] theorem State.setIcu_slc (v : ClaimState) : (s.setIcu v).slc = s.slc := rfl
@[simp] theorem State.setIcu_pv (v : ClaimState) : (s.setIcu v).pv = s.pv := rfl
@[simp] theorem State.setIcu_vtu (v : ClaimState) : (s.setIcu v).vtu = s.vtu := rfl
@[simp] theorem State.setIcu_cd (v : ClaimState) : (s.setIcu v).cd = s.cd := rfl
@[simp] theorem State.setIcu_zs (v : ClaimState) : (s.setIcu v).zs = s.zs := rfl
@[simp] theorem State.setIcu_icu (v : ClaimState) : (s.setIcu v).icu = v := rfl
@[simp] theorem State.setIcu_rcp (v : ClaimState) : (s.setIcu v).rcp = s.rcp := rfl
@[simp] theorem State.setIcu_hm (v : ClaimState) : (s.setIcu v).hm = s.hm := rfl
@[simp] theorem State.setIcu_pins (v : ClaimState) : (s.setIcu v).pins = s.pins := rfl
@[simp] theorem State.setIcu_phase (v : ClaimState) : (s.setIcu v).phase = s.phase := rfl
@[simp] theorem State.setIcu_draws (v : ClaimState) : (s.setIcu v).draws = s.draws := rfl
@[simp] theorem State.setIcu_pending (v : ClaimState) : (s.setIcu v).pending = s.pending := rfl

@[simp] theorem State.setRcp_nodeTime (v : RecordState) : (s.setRcp v).nodeTime = s.nodeTime := rfl
@[simp] theorem State.setRcp_mp (v : RecordState) : (s.setRcp v).mp = s.mp := rfl
@[simp] theorem State.setRcp_slc (v : RecordState) : (s.setRcp v).slc = s.slc := rfl
@[simp] theorem State.setRcp_pv (v : RecordState) : (s.setRcp v).pv = s.pv := rfl
@[simp] theorem State.setRcp_vtu (v : RecordState) : (s.setRcp v).vtu = s.vtu := rfl
@[simp] theorem State.setRcp_cd (v : RecordState) : (s.setRcp v).cd = s.cd := rfl
@[simp] theorem State.setRcp_zs (v : RecordState) : (s.setRcp v).zs = s.zs := rfl
@[simp] theorem State.setRcp_icu (v : RecordState) : (s.setRcp v).icu = s.icu := rfl
@[simp] theorem State.setRcp_rcp (v : RecordState) : (s.setRcp v).rcp = v := rfl
@[simp] theorem State.setRcp_hm (v : RecordState) : (s.setRcp v).hm = s.hm := rfl
@[simp] theorem State.setRcp_pins (v : RecordState) : (s.setRcp v).pins = s.pins := rfl
@[simp] theorem State.setRcp_phase (v : RecordState) : (s.setRcp v).phase = s.phase := rfl
@[simp] theorem State.setRcp_draws (v : RecordState) : (s.setRcp v).draws = s.draws := rfl
@[simp] theorem State.setRcp_pending (v : RecordState) : (s.setRcp v).pending = s.pending := rfl

@[simp] theorem State.setHm_nodeTime (v : HealthState) : (s.setHm v).nodeTime = s.nodeTime := rfl
@[simp] theorem State.setHm_mp (v : HealthState) : (s.setHm v).mp = s.mp := rfl
@[simp] theorem State.setHm_slc (v : HealthState) : (s.setHm v).slc = s.slc := rfl
@[simp] theorem State.setHm_pv (v : HealthState) : (s.setHm v).pv = s.pv := rfl
@[simp] theorem State.setHm_vtu (v : HealthState) : (s.setHm v).vtu = s.vtu := rfl
@[simp] theorem State.setHm_cd (v : HealthState) : (s.setHm v).cd = s.cd := rfl
@[simp] theorem State.setHm_zs (v : HealthState) : (s.setHm v).zs = s.zs := rfl
@[simp] theorem State.setHm_icu (v : HealthState) : (s.setHm v).icu = s.icu := rfl
@[simp] theorem State.setHm_rcp (v : HealthState) : (s.setHm v).rcp = s.rcp := rfl
@[simp] theorem State.setHm_hm (v : HealthState) : (s.setHm v).hm = v := rfl
@[simp] theorem State.setHm_pins (v : HealthState) : (s.setHm v).pins = s.pins := rfl
@[simp] theorem State.setHm_phase (v : HealthState) : (s.setHm v).phase = s.phase := rfl
@[simp] theorem State.setHm_draws (v : HealthState) : (s.setHm v).draws = s.draws := rfl
@[simp] theorem State.setHm_pending (v : HealthState) : (s.setHm v).pending = s.pending := rfl

@[simp] theorem State.setPins_nodeTime (v : Pins) : (s.setPins v).nodeTime = s.nodeTime := rfl
@[simp] theorem State.setPins_mp (v : Pins) : (s.setPins v).mp = s.mp := rfl
@[simp] theorem State.setPins_slc (v : Pins) : (s.setPins v).slc = s.slc := rfl
@[simp] theorem State.setPins_pv (v : Pins) : (s.setPins v).pv = s.pv := rfl
@[simp] theorem State.setPins_vtu (v : Pins) : (s.setPins v).vtu = s.vtu := rfl
@[simp] theorem State.setPins_cd (v : Pins) : (s.setPins v).cd = s.cd := rfl
@[simp] theorem State.setPins_zs (v : Pins) : (s.setPins v).zs = s.zs := rfl
@[simp] theorem State.setPins_icu (v : Pins) : (s.setPins v).icu = s.icu := rfl
@[simp] theorem State.setPins_rcp (v : Pins) : (s.setPins v).rcp = s.rcp := rfl
@[simp] theorem State.setPins_hm (v : Pins) : (s.setPins v).hm = s.hm := rfl
@[simp] theorem State.setPins_pins (v : Pins) : (s.setPins v).pins = v := rfl
@[simp] theorem State.setPins_phase (v : Pins) : (s.setPins v).phase = s.phase := rfl
@[simp] theorem State.setPins_draws (v : Pins) : (s.setPins v).draws = s.draws := rfl
@[simp] theorem State.setPins_pending (v : Pins) : (s.setPins v).pending = s.pending := rfl

@[simp] theorem State.setPhase_nodeTime (v : Phase) : (s.setPhase v).nodeTime = s.nodeTime := rfl
@[simp] theorem State.setPhase_mp (v : Phase) : (s.setPhase v).mp = s.mp := rfl
@[simp] theorem State.setPhase_slc (v : Phase) : (s.setPhase v).slc = s.slc := rfl
@[simp] theorem State.setPhase_pv (v : Phase) : (s.setPhase v).pv = s.pv := rfl
@[simp] theorem State.setPhase_vtu (v : Phase) : (s.setPhase v).vtu = s.vtu := rfl
@[simp] theorem State.setPhase_cd (v : Phase) : (s.setPhase v).cd = s.cd := rfl
@[simp] theorem State.setPhase_zs (v : Phase) : (s.setPhase v).zs = s.zs := rfl
@[simp] theorem State.setPhase_icu (v : Phase) : (s.setPhase v).icu = s.icu := rfl
@[simp] theorem State.setPhase_rcp (v : Phase) : (s.setPhase v).rcp = s.rcp := rfl
@[simp] theorem State.setPhase_hm (v : Phase) : (s.setPhase v).hm = s.hm := rfl
@[simp] theorem State.setPhase_pins (v : Phase) : (s.setPhase v).pins = s.pins := rfl
@[simp] theorem State.setPhase_phase (v : Phase) : (s.setPhase v).phase = v := rfl
@[simp] theorem State.setPhase_draws (v : Phase) : (s.setPhase v).draws = s.draws := rfl
@[simp] theorem State.setPhase_pending (v : Phase) : (s.setPhase v).pending = s.pending := rfl

@[simp] theorem State.setDraws_nodeTime (v : Nat) : (s.setDraws v).nodeTime = s.nodeTime := rfl
@[simp] theorem State.setDraws_mp (v : Nat) : (s.setDraws v).mp = s.mp := rfl
@[simp] theorem State.setDraws_slc (v : Nat) : (s.setDraws v).slc = s.slc := rfl
@[simp] theorem State.setDraws_pv (v : Nat) : (s.setDraws v).pv = s.pv := rfl
@[simp] theorem State.setDraws_vtu (v : Nat) : (s.setDraws v).vtu = s.vtu := rfl
@[simp] theorem State.setDraws_cd (v : Nat) : (s.setDraws v).cd = s.cd := rfl
@[simp] theorem State.setDraws_zs (v : Nat) : (s.setDraws v).zs = s.zs := rfl
@[simp] theorem State.setDraws_icu (v : Nat) : (s.setDraws v).icu = s.icu := rfl
@[simp] theorem State.setDraws_rcp (v : Nat) : (s.setDraws v).rcp = s.rcp := rfl
@[simp] theorem State.setDraws_hm (v : Nat) : (s.setDraws v).hm = s.hm := rfl
@[simp] theorem State.setDraws_pins (v : Nat) : (s.setDraws v).pins = s.pins := rfl
@[simp] theorem State.setDraws_phase (v : Nat) : (s.setDraws v).phase = s.phase := rfl
@[simp] theorem State.setDraws_draws (v : Nat) : (s.setDraws v).draws = v := rfl
@[simp] theorem State.setDraws_pending (v : Nat) : (s.setDraws v).pending = s.pending := rfl

@[simp] theorem State.setPending_nodeTime (v : List Instr) : (s.setPending v).nodeTime = s.nodeTime := rfl
@[simp] theorem State.setPending_mp (v : List Instr) : (s.setPending v).mp = s.mp := rfl
@[simp] theorem State.setPending_slc (v : List Instr) : (s.setPending v).slc = s.slc := rfl
@[simp] theorem State.setPending_pv (v : List Instr) : (s.setPending v).pv = s.pv := rfl
@[simp] theorem State.setPending_vtu (v : List Instr) : (s.setPending v).vtu = s.vtu := rfl
@[simp] theorem State.setPending_cd (v : List Instr) : (s.setPending v).cd = s.cd := rfl
@[simp] theorem State.setPending_zs (v : List Instr) : (s.setPending v).zs = s.zs := rfl
@[simp] theorem State.setPending_icu (v : List Instr) : (s.setPending v).icu = s.icu := rfl
@[simp] theorem State.setPending_rcp (v : List Instr) : (s.setPending v).rcp = s.rcp := rfl
@[simp] theorem State.setPending_hm (v : List Instr) : (s.setPending v).hm = s.hm := rfl
@[simp] theorem State.setPending_pins (v : List Instr) : (s.setPending v).pins = s.pins := rfl
@[simp] theorem State.setPending_phase (v : List Instr) : (s.setPending v).phase = s.phase := rfl
@[simp] theorem State.setPending_draws (v : List Instr) : (s.setPending v).draws = s.draws := rfl
@[simp] theorem State.setPending_pending (v : List Instr) : (s.setPending v).pending = v := rfl

end Sys2Proof.Machine
end

