-- ==== Sys2Proof/Laws/Ops.lean ====
section
/-! SUPPORT. What the operations of Machine/Ops.lean and Machine/Flags.lean do: one Peer View entry or channel
at a time, and the fault sets. Later proofs cite these in place of the definitions. -/

namespace Sys2Proof.Machine

/-! ## One Peer View entry, one channel -/

@[simp] theorem peer_setPeer_same (i : StationId) (e : PeerEntry) (s : State) :
    peer (setPeer i e s) i = e := by
  simp [peer, setPeer, State.setPv]

theorem peer_setPeer_other {i j : StationId} (h : i ≠ j) (e : PeerEntry) (s : State) :
    peer (setPeer i e s) j = peer s j := by
  have hv : i.val ≠ j.val := fun hv => h (Fin.ext hv)
  simp [peer, setPeer, State.setPv, hv]

@[simp] theorem chan_setChan_same (c : Channel) (r : Option ChanRun) (s : State) :
    chan (setChan c r s) c = r := by
  simp [chan, setChan, State.setCd]

theorem chan_setChan_other {c d : Channel} (h : c ≠ d) (r : Option ChanRun) (s : State) :
    chan (setChan c r s) d = chan s d := by
  have hv : c.val ≠ d.val := fun hv => h (Fin.ext hv)
  simp [chan, setChan, State.setCd, hv]

/-! ## Fault sets (R210) -/

@[simp] theorem hasFault_putFault_same (f : FaultId) (v : Bool) (a : FaultSet) :
    hasFault f (putFault f v a) = v := by cases f <;> rfl

theorem hasFault_putFault_other {f g : FaultId} (h : f ≠ g) (v : Bool) (a : FaultSet) :
    hasFault g (putFault f v a) = hasFault g a := by
  cases f <;> cases g <;> first | rfl | exact absurd rfl h

/-- Taking the health output afresh changes the HM's output fields and nothing else (R213). -/
theorem takeHealth_eq (s : State) :
    takeHealth s = s.setHm { s.hm with healthy := (takeHealth s).hm.healthy
                                       healthSince := (takeHealth s).hm.healthSince } := by
  unfold takeHealth
  split
  · split <;> rfl
  · rfl

@[simp] theorem takeHealth_active_set (s : State) : (takeHealth s).hm.active = s.hm.active := by
  rw [takeHealth_eq]; rfl

@[simp] theorem takeHealth_sticky_set (s : State) : (takeHealth s).hm.sticky = s.hm.sticky := by
  rw [takeHealth_eq]; rfl

/-- A raising changes the HM and nothing else. -/
theorem raiseFault_eq (f : FaultId) (s : State) : raiseFault f s = s.setHm (raiseFault f s).hm := by
  unfold raiseFault
  rw [takeHealth_eq]; rfl

/-- A clearing changes the HM and nothing else. -/
theorem clearFault_eq (f : FaultId) (s : State) : clearFault f s = s.setHm (clearFault f s).hm := by
  unfold clearFault
  rw [takeHealth_eq]; rfl

@[simp] theorem active_raiseFault_same (f : FaultId) (s : State) : active f (raiseFault f s) = true := by
  simp [active, raiseFault, State.setHm]

@[simp] theorem sticky_raiseFault_same (f : FaultId) (s : State) :
    hasFault f (raiseFault f s).hm.sticky = true := by
  simp [raiseFault, State.setHm]

theorem active_raiseFault_other {f g : FaultId} (h : f ≠ g) (s : State) :
    active g (raiseFault f s) = active g s := by
  simp [active, raiseFault, State.setHm, hasFault_putFault_other h]

@[simp] theorem active_clearFault_same (f : FaultId) (s : State) : active f (clearFault f s) = false := by
  simp [active, clearFault, State.setHm]

theorem active_clearFault_other {f g : FaultId} (h : f ≠ g) (s : State) :
    active g (clearFault f s) = active g s := by
  simp [active, clearFault, State.setHm, hasFault_putFault_other h]

@[simp] theorem sticky_clearFault (f : FaultId) (s : State) : (clearFault f s).hm.sticky = s.hm.sticky := by
  simp [clearFault, State.setHm]

/-- Following a condition leaves the fault active exactly when the condition holds. -/
theorem active_followFault (f : FaultId) (holds : Bool) (s : State) :
    active f (followFault f holds s) = holds := by
  unfold followFault
  cases holds <;> cases h : active f s <;> simp [h]

end Sys2Proof.Machine
end

