-- ==== Sys2Proof/Laws/Queue.lean ====
section
/-! SUPPORT. What the operations on the transmit queue do (section 2.8): they change the queue and the attempt
in flight and nothing else, and an entry is put in its class place. -/

namespace Sys2Proof.Machine

/-- Placing a frame changes the queue and the fate of the attempt in flight, and nothing else. -/
theorem place_eq (e : TxEntry) (s : State) :
    place e s = s.setSlc { s.slc with queue := (place e s).slc.queue, inFlight := (place e s).slc.inFlight } := by
  unfold place
  repeat' split
  all_goals rfl

/-- Queueing a RELEASE changes the queue and the attempt in flight, and nothing else. -/
theorem queueRelease_eq (n : Nat) (r : ReleaseReason) (s : State) :
    queueRelease n r s = s.setSlc { s.slc with
      queue := (queueRelease n r s).slc.queue, inFlight := (queueRelease n r s).slc.inFlight } := by
  unfold queueRelease
  repeat' split
  · rw [place_eq]; rfl
  · rfl
  · rw [place_eq]; rfl

/-- The end of a failed attempt changes the queue and the attempt in flight, and nothing else. -/
theorem failAttempt_eq (s : State) :
    failAttempt s = s.setSlc { s.slc with
      queue := (failAttempt s).slc.queue, inFlight := (failAttempt s).slc.inFlight } := by
  unfold failAttempt
  split <;> rfl

/-- The end of a completed attempt changes the queue and the attempt in flight, and nothing else. -/
theorem completeAttempt_eq (s : State) :
    completeAttempt s = s.setSlc { s.slc with
      queue := (completeAttempt s).slc.queue, inFlight := (completeAttempt s).slc.inFlight } := by
  unfold completeAttempt
  split <;> rfl

@[simp] theorem mem_insertEntry (x e : TxEntry) (q : List TxEntry) :
    x ∈ insertEntry e q ↔ x = e ∨ x ∈ q := by
  induction q with
  | nil => simp [insertEntry]
  | cons y ys ih =>
    unfold insertEntry
    split
    · simp
    · simp [ih, or_left_comm]

@[simp] theorem length_insertEntry (e : TxEntry) (q : List TxEntry) :
    (insertEntry e q).length = q.length + 1 := by
  induction q with
  | nil => rfl
  | cons y ys ih => unfold insertEntry; split <;> simp [ih]

@[simp] theorem mem_dropClass (x : TxEntry) (c : Nat) (q : List TxEntry) :
    x ∈ dropClass c q ↔ x ∈ q ∧ entryClass x ≠ c := by
  simp [dropClass]

@[simp] theorem length_replaceEntry (e : TxEntry) (q : List TxEntry) :
    (replaceEntry e q).length = q.length := by simp [replaceEntry]

/-- Replacing the values of an entry keeps the classes of the queue (R48). -/
@[simp] theorem classes_replaceEntry (e : TxEntry) (q : List TxEntry) :
    (replaceEntry e q).map entryClass = q.map entryClass := by
  unfold replaceEntry
  rw [List.map_map]
  apply List.map_congr_left
  intro x _
  simp only [Function.comp]
  split
  · exact Eq.symm ‹_›
  · rfl

/-- A new fate leaves the copy on the line (R47). -/
@[simp] theorem markFate_copy (c : Nat) (f : EntryFate) (a : Option Attempt) :
    (markFate c f a).map (fun x => x.copy) = a.map (fun x => x.copy) := by
  unfold markFate
  repeat' split
  all_goals rfl

end Sys2Proof.Machine
end

