-- ==== Sys2Proof/Laws/Zone.lean ====
section
/-! SUPPORT. What the operations of the queue, the record, the Channel Driver, the Inrush Claim Unit and
the Zone Sequencer leave alone: one lemma for each operation. `zoneKept` blanks what they may change. -/

namespace Sys2Proof.Machine

/-- The parts of a state that no operation of the zone changes: everything but the queue and the attempt in
flight, the channels, the sequencer, the claims, the record with its writes, CHANNEL-UNCONFIRMED, the health
output and the count of draws. -/
def zoneKept (s : State) : State :=
  { s with
    slc := { s.slc with queue := [], inFlight := none }
    cd := ChannelState.reset
    zs := SeqRecord.reset
    icu := ClaimState.reset
    rcp := { s.rcp with record := TripRecord.blank, writeInFlight := false, rewritePending := false,
                        retry := false, attemptDue := none, writeBytes := [], lastTripReq := none,
                        closeWaits := false }
    draws := 0
    hm := { s.hm with active := putFault .channelUnconfirmed false s.hm.active
                      sticky := putFault .channelUnconfirmed false s.hm.sticky
                      healthy := false, healthSince := 0 } }

@[simp] theorem zoneKept_setZs (s : State) (z : SeqRecord) : zoneKept (s.setZs z) = zoneKept s := rfl
@[simp] theorem zoneKept_setCd (s : State) (z : ChannelState) : zoneKept (s.setCd z) = zoneKept s := rfl
@[simp] theorem zoneKept_setIcu (s : State) (z : ClaimState) : zoneKept (s.setIcu z) = zoneKept s := rfl
@[simp] theorem zoneKept_setQueue (s : State) (q : List TxEntry) (a : Option Attempt) :
    zoneKept (s.setSlc { s.slc with queue := q, inFlight := a }) = zoneKept s := rfl
/-- What `zoneKept` fixes, field by field. -/
theorem zoneKept_fields {u s : State} (h : zoneKept u = zoneKept s) :
    u.nodeTime = s.nodeTime ∧ u.mp = s.mp ∧ u.pv = s.pv ∧ u.vtu = s.vtu ∧ u.pins = s.pins ∧
      u.phase = s.phase ∧ u.pending = s.pending :=
  ⟨congrArg (fun x => x.nodeTime) h, congrArg (fun x => x.mp) h, congrArg (fun x => x.pv) h, congrArg (fun x => x.vtu) h,
    congrArg (fun x => x.pins) h, congrArg (fun x => x.phase) h, congrArg (fun x => x.pending) h⟩

/-- The fields of the SLC that `zoneKept` fixes. -/
theorem zoneKept_slc {u s : State} (h : zoneKept u = zoneKept s) :
    u.slc = { s.slc with queue := u.slc.queue, inFlight := u.slc.inFlight } := by
  have h' := congrArg State.slc h
  cases hu : u.slc; cases hs : s.slc
  simp_all [zoneKept]

/-- The configuration, the digest and the straps are fixed by `zoneKept`. -/
theorem zoneKept_rcp {u s : State} (h : zoneKept u = zoneKept s) :
    u.rcp.config = s.rcp.config ∧ u.rcp.digest = s.rcp.digest ∧ u.rcp.stationId = s.rcp.stationId ∧
      u.rcp.range16 = s.rcp.range16 :=
  ⟨congrArg (fun x => x.rcp.config) h, congrArg (fun x => x.rcp.digest) h,
    congrArg (fun x => x.rcp.stationId) h, congrArg (fun x => x.rcp.range16) h⟩

/-- The mode and the last command record are fixed by `zoneKept`. -/
theorem zoneKept_hm {u s : State} (h : zoneKept u = zoneKept s) :
    u.hm.mode = s.hm.mode ∧ u.hm.lastCode = s.hm.lastCode ∧ u.hm.lastResult = s.hm.lastResult :=
  ⟨congrArg (fun x => x.hm.mode) h, congrArg (fun x => x.hm.lastCode) h,
    congrArg (fun x => x.hm.lastResult) h⟩

/-- The parameters in force are fixed by `zoneKept`. -/
theorem zoneKept_cfg {u s : State} (h : zoneKept u = zoneKept s) : cfg u = cfg s := by
  simp [cfg, (zoneKept_rcp h).1]

/-! ## Faults -/

@[simp] theorem zoneKept_takeHealth (s : State) : zoneKept (takeHealth s) = zoneKept s := by
  unfold takeHealth; split
  · split <;> rfl
  · rfl

/-- Raising, clearing and following CHANNEL-UNCONFIRMED, the one fault the zone raises (R110). -/
@[simp] theorem zoneKept_followFault (b : Bool) (s : State) :
    zoneKept (followFault .channelUnconfirmed b s) = zoneKept s := by
  unfold followFault; repeat' split
  · rfl
  · unfold raiseFault; rw [zoneKept_takeHealth]; rfl
  · unfold clearFault; rw [zoneKept_takeHealth]; rfl
  · rfl

/-- The faults other than CHANNEL-UNCONFIRMED are fixed by `zoneKept`. -/
theorem zoneKept_active {u s : State} (h : zoneKept u = zoneKept s) (f : FaultId)
    (hf : f ≠ .channelUnconfirmed) : active f u = active f s := by
  have h' := congrArg (fun x => x.hm.active) h
  cases f <;> simp_all [zoneKept, putFault, active, hasFault]

/-- Exclusion, suppression and the usable line are fixed by `zoneKept`. -/
theorem zoneKept_line {u s : State} (h : zoneKept u = zoneKept s) :
    excluded u = excluded s ∧ suppressed u = suppressed s ∧ lineUsable u = lineUsable s := by
  simp [excluded, suppressed, lineUsable, zoneKept_active h]

/-! ## Queue -/

@[simp] theorem zoneKept_removeEntry (c : Nat) (s : State) : zoneKept (removeEntry c s) = zoneKept s := rfl

@[simp] theorem zoneKept_place (e : TxEntry) (s : State) : zoneKept (place e s) = zoneKept s := by
  unfold place; repeat' split
  all_goals rfl

@[simp] theorem zoneKept_queueStatus (s : State) : zoneKept (queueStatus s) = zoneKept s := by
  simp [queueStatus]

@[simp] theorem zoneKept_queueRelease (n : Nat) (r : ReleaseReason) (s : State) :
    zoneKept (queueRelease n r s) = zoneKept s := by
  unfold queueRelease; repeat' split
  all_goals simp

/-! ## Record -/

@[simp] theorem zoneKept_startWrite (b : Bool) (s : State) : zoneKept (startWrite b s) = zoneKept s := rfl

@[simp] theorem zoneKept_writeChange (s : State) : zoneKept (writeChange s) = zoneKept s := by
  unfold writeChange; split <;> rfl

@[simp] theorem zoneKept_setRecord (r : TripRecord) (s : State) : zoneKept (setRecord r s) = zoneKept s := by
  unfold setRecord; split
  · rfl
  · rw [zoneKept_writeChange]; rfl

@[simp] theorem zoneKept_rcpTrip (a b : Cause) (v g : Nat) (l : List StationId) (s : State) :
    zoneKept (rcpTrip a b v g l s) = zoneKept s := by
  unfold rcpTrip; rw [zoneKept_setRecord]; rfl

@[simp] theorem zoneKept_rcpRaise (g : Nat) (s : State) : zoneKept (rcpRaise g s) = zoneKept s := by
  unfold rcpRaise; split <;> simp

@[simp] theorem zoneKept_rcpPermit (s : State) : zoneKept (rcpPermit s) = zoneKept s := by
  unfold rcpPermit; split <;> simp

@[simp] theorem zoneKept_drawn (s : State) : zoneKept (drawn s) = zoneKept s := rfl

@[simp] theorem zoneKept_takeClose (s : State) : zoneKept (takeClose s) = zoneKept s := by
  unfold takeClose; dsimp only; repeat' split
  · rfl
  · rw [zoneKept_setRecord]; rfl
  · rfl

@[simp] theorem zoneKept_takeWaitingClose (s : State) : zoneKept (takeWaitingClose s) = zoneKept s := by
  unfold takeWaitingClose; split <;> simp

@[simp] theorem zoneKept_rcpClose (s : State) : zoneKept (rcpClose s) = zoneKept s := by
  unfold rcpClose; repeat' split
  · simp
  · rfl
  · simp

/-! ## Channels and claims -/

@[simp] theorem zoneKept_setChan (c : Channel) (r : Option ChanRun) (s : State) :
    zoneKept (setChan c r s) = zoneKept s := rfl

@[simp] theorem zoneKept_followUnconfirmed (s : State) : zoneKept (followUnconfirmed s) = zoneKept s := by
  simp [followUnconfirmed]

@[simp] theorem zoneKept_stageCommand (l : List Channel) (c : ChanCmd) (s : State) :
    zoneKept (stageCommand l c s) = zoneKept s := by
  simp [stageCommand]

@[simp] theorem zoneKept_removeClaimOf (i : StationId) (s : State) :
    zoneKept (removeClaimOf i s) = zoneKept s := rfl

@[simp] theorem zoneKept_appendClaim (e : InrushEntry) (s : State) :
    zoneKept (appendClaim e s) = zoneKept s := rfl

@[simp] theorem zoneKept_makeClaim (s : State) : zoneKept (makeClaim s) = zoneKept s := by
  simp [makeClaim]

@[simp] theorem zoneKept_requestClaim (w d : Nat) (s : State) :
    zoneKept (requestClaim w d s) = zoneKept s := by
  simp [requestClaim]

@[simp] theorem zoneKept_claimCompleted (n t : Nat) (s : State) :
    zoneKept (claimCompleted n t s) = zoneKept s := by
  unfold claimCompleted; split <;> simp

@[simp] theorem zoneKept_claimReceiveError (s : State) : zoneKept (claimReceiveError s) = zoneKept s := by
  unfold claimReceiveError; split <;> simp

@[simp] theorem zoneKept_withdrawAtSettle (s : State) : zoneKept (withdrawAtSettle s) = zoneKept s := by
  simp [withdrawAtSettle]

@[simp] theorem zoneKept_claimNone (s : State) : zoneKept (claimNone s) = zoneKept s := rfl

@[simp] theorem zoneKept_releaseClaim (r : ReleaseReason) (s : State) :
    zoneKept (releaseClaim r s) = zoneKept s := by
  simp [releaseClaim]

@[simp] theorem zoneKept_withdrawClaim (s : State) : zoneKept (withdrawClaim s) = zoneKept s := by
  unfold withdrawClaim; split <;> simp

@[simp] theorem zoneKept_abortClaim (s : State) : zoneKept (abortClaim s) = zoneKept s := by
  unfold abortClaim; split <;> simp

/-! ## Sequencer -/

@[simp] theorem zoneKept_enterState (q : SeqState) (s : State) :
    zoneKept (enterState q s) = zoneKept s := by
  unfold enterState; split <;> simp

@[simp] theorem zoneKept_pauseWith (c : Causes) (s : State) : zoneKept (pauseWith c s) = zoneKept s := by
  simp [pauseWith]

@[simp] theorem zoneKept_runStage (r : Nat) (s : State) : zoneKept (runStage r s) = zoneKept s := by
  simp [runStage]

@[simp] theorem zoneKept_completeRestart (s : State) : zoneKept (completeRestart s) = zoneKept s := by
  simp [completeRestart]

@[simp] theorem zoneKept_beginClaim (r : Nat) (s : State) : zoneKept (beginClaim r s) = zoneKept s := by
  unfold beginClaim; dsimp only; repeat' split
  all_goals simp

@[simp] theorem zoneKept_beginPrecheck (r : Nat) (s : State) :
    zoneKept (beginPrecheck r s) = zoneKept s := by
  unfold beginPrecheck; repeat' split
  all_goals simp

@[simp] theorem zoneKept_beginStage (s : State) : zoneKept (beginStage s) = zoneKept s := by
  unfold beginStage; dsimp only; repeat' split
  all_goals simp

@[simp] theorem zoneKept_leavePause (s : State) : zoneKept (leavePause s) = zoneKept s := by
  unfold leavePause; split <;> simp

@[simp] theorem zoneKept_holdFalls (s : State) : zoneKept (holdFalls s) = zoneKept s := by
  unfold holdFalls; dsimp only; repeat' split
  all_goals simp

@[simp] theorem zoneKept_recomputeHold (s : State) : zoneKept (recomputeHold s) = zoneKept s := by
  unfold recomputeHold; repeat' split
  all_goals simp

@[simp] theorem zoneKept_enterWatch (s : State) : zoneKept (enterWatch s) = zoneKept s := by
  simp [enterWatch]

@[simp] theorem zoneKept_enterPaused (c : Causes) (s : State) :
    zoneKept (enterPaused c s) = zoneKept s := by
  simp [enterPaused]

@[simp] theorem zoneKept_beginShutdownStage (k : Nat) (s : State) :
    zoneKept (beginShutdownStage k s) = zoneKept s := by
  simp [beginShutdownStage]

@[simp] theorem zoneKept_runShutdown (l : List Nat) (s : State) :
    zoneKept (runShutdown l s) = zoneKept s := by
  induction l generalizing s with
  | nil => simp [runShutdown]
  | cons k ks ih =>
    unfold runShutdown; dsimp only; repeat' split
    all_goals simp [ih]

@[simp] theorem zoneKept_completeShutdownStage (k : Nat) (s : State) :
    zoneKept (completeShutdownStage k s) = zoneKept s := by
  unfold completeShutdownStage; dsimp only; split <;> simp

@[simp] theorem zoneKept_shutdownStart (s : State) : zoneKept (shutdownStart s) = zoneKept s := by
  simp [shutdownStart]

@[simp] theorem zoneKept_abortRestart (s : State) : zoneKept (abortRestart s) = zoneKept s := by
  simp [abortRestart]

@[simp] theorem zoneKept_tripEffect (s : State) : zoneKept (tripEffect s) = zoneKept s := by
  unfold tripEffect; split <;> simp

@[simp] theorem zoneKept_zsTrip (g : Nat) (s : State) : zoneKept (zsTrip g s) = zoneKept s := by
  unfold zsTrip; split <;> simp

@[simp] theorem zoneKept_recomputeStart (s : State) : zoneKept (recomputeStart s) = zoneKept s := by
  simp [recomputeStart]

@[simp] theorem zoneKept_takeActivity (t g : Nat) (s : State) :
    zoneKept (takeActivity t g s) = zoneKept s := by
  unfold takeActivity; dsimp only; split <;> simp

@[simp] theorem zoneKept_activityEffect (b : Bool) (s : State) :
    zoneKept (activityEffect b s) = zoneKept s := by
  unfold activityEffect; repeat' split
  all_goals simp

@[simp] theorem zoneKept_activity (t g : Nat) (b : Bool) (s : State) :
    zoneKept (activity t g b s) = zoneKept s := by
  unfold activity; dsimp only; repeat' split
  all_goals simp

@[simp] theorem zoneKept_endRestartStage (r : Nat) (s : State) :
    zoneKept (endRestartStage r s) = zoneKept s := by
  unfold endRestartStage; dsimp only; split <;> simp

@[simp] theorem zoneKept_endIfOver (s : State) : zoneKept (endIfOver s) = zoneKept s := by
  unfold endIfOver; repeat' split
  all_goals simp

@[simp] theorem zoneKept_leftPending (c : Channel) (b : Bool) (s : State) :
    zoneKept (leftPending c b s) = zoneKept s := by
  unfold leftPending shutdownReport restartReport; dsimp only; repeat' split
  all_goals simp

@[simp] theorem zoneKept_precheckReport (b : Bool) (s : State) :
    zoneKept (precheckReport b s) = zoneKept s := by
  unfold precheckReport; repeat' split
  all_goals simp

@[simp] theorem zoneKept_lineChange (b : Bool) (s : State) : zoneKept (lineChange b s) = zoneKept s := by
  unfold lineChange redecideStage; dsimp only; repeat' split
  all_goals simp

@[simp] theorem zoneKept_zsHold (s : State) : zoneKept (zsHold s) = zoneKept s := by
  unfold zsHold; dsimp only; repeat' split
  all_goals simp

@[simp] theorem zoneKept_zsResume (s : State) : zoneKept (zsResume s) = zoneKept s := by
  simp [zsResume]

@[simp] theorem zoneKept_zsConfirm (s : State) : zoneKept (zsConfirm s) = zoneKept s := by
  unfold zsConfirm; split <;> simp

end Sys2Proof.Machine
end

