-- ==== Sys2Proof/Laws/Reset.lean ====
section
/-! SUPPORT. The end of a warm reset leaves the record but for the restart of an abandoned write: the reset
deadline runs when a level test or a hold ends, so a stage beginning pauses and no restart
completes (R144, R175, R199; notes/assumptions/38.md). -/

namespace Sys2Proof.Machine

/-- The record and its writes stand, and so does the reset deadline. -/
abbrev RecordStands (u s : State) : Prop := u.rcp = s.rcp ∧ u.zs.resetDue = s.zs.resetDue

theorem queueStatus_recordStands (s : State) : RecordStands (queueStatus s) s := by
  unfold queueStatus; rw [place_eq]; exact ⟨rfl, rfl⟩

theorem takeHealth_recordStands (s : State) : RecordStands (takeHealth s) s := by
  unfold takeHealth; repeat' split
  all_goals exact ⟨rfl, rfl⟩

theorem followFault_recordStands (f : FaultId) (b : Bool) (s : State) :
    RecordStands (followFault f b s) s := by
  unfold followFault raiseFault clearFault; repeat' split
  all_goals first | exact ⟨rfl, rfl⟩ | exact takeHealth_recordStands _

theorem RecordStands.refl (s : State) : RecordStands s s := ⟨rfl, rfl⟩

theorem RecordStands.trans {u v s : State} (h : RecordStands u v) (g : RecordStands v s) : RecordStands u s :=
  ⟨h.1.trans g.1, h.2.trans g.2⟩

/-- A change of the sequencer's fields that keeps the reset deadline. -/
theorem RecordStands.setZs {u s : State} (h : RecordStands u s) {z : SeqRecord}
    (hz : z.resetDue = u.zs.resetDue) : RecordStands (u.setZs z) s := ⟨h.1, hz.trans h.2⟩

/-- Two changes one after the other, the second from a state in which the reset deadline still runs. -/
theorem RecordStands.andThen {f : State → State} {u s : State}
    (hf : ∀ x, x.zs.resetDue.isSome = true → RecordStands (f x) x) (h : s.zs.resetDue.isSome = true)
    (hu : RecordStands u s) : RecordStands (f u) s :=
  (hf u (hu.2 ▸ h)).trans hu

theorem followUnconfirmed_recordStands (s : State) : RecordStands (followUnconfirmed s) s := by
  unfold followUnconfirmed; exact followFault_recordStands _ _ _

theorem enterState_recordStands (q : SeqState) (s : State) : RecordStands (enterState q s) s := by
  unfold enterState; split
  · exact ⟨rfl, rfl⟩
  · exact queueStatus_recordStands _

/-- While the reset deadline runs, a stage beginning pauses (R175). -/
theorem beginStage_recordStands (s : State) (h : s.zs.resetDue.isSome = true) :
    RecordStands (beginStage s) s := by
  unfold beginStage; dsimp only; split
  · exact enterState_recordStands _ _
  · split
    · exact enterState_recordStands _ _
    · exact absurd h (by assumption)

theorem holdFalls_recordStands (s : State) (h : s.zs.resetDue.isSome = true) :
    RecordStands (holdFalls s) s := by
  unfold holdFalls; dsimp only; repeat' split
  · exact enterState_recordStands _ _
  · exact beginStage_recordStands _ h
  · unfold leavePause; split
    · exact beginStage_recordStands _ h
    · exact ⟨rfl, rfl⟩
  all_goals exact ⟨rfl, rfl⟩

theorem recomputeHold_recordStands (s : State) (h : s.zs.resetDue.isSome = true) :
    RecordStands (recomputeHold s) s := by
  unfold recomputeHold; repeat' split
  · exact holdFalls_recordStands s h
  all_goals exact ⟨rfl, rfl⟩

/-- A state change followed by the hold taken afresh, as an entry to WATCH or to PAUSED is. -/
theorem recomputeAfter_recordStands (q : SeqState) (s : State) (h : s.zs.resetDue.isSome = true) :
    RecordStands (recomputeHold (enterState q s)) s := by
  exact RecordStands.andThen recomputeHold_recordStands h (enterState_recordStands q s)

theorem stageCommand_recordStands (l : List Channel) (c : ChanCmd) (s : State) :
    RecordStands (stageCommand l c s) s := by
  unfold stageCommand
  exact (followUnconfirmed_recordStands _).trans ⟨rfl, rfl⟩

theorem beginShutdownStage_recordStands (k : Nat) (s : State) :
    RecordStands (beginShutdownStage k s) s := by
  have c := stageCommand_recordStands (shutdownChannels k s) .shut
    (s.setZs { s.zs with stage := some k, acted := (shutdownChannels k s).any (hasCmd .run s) })
  unfold beginShutdownStage
  dsimp only
  generalize stageCommand _ _ _ = u at c ⊢
  exact RecordStands.setZs ⟨c.1, c.2⟩ rfl

theorem runShutdown_recordStands (l : List Nat) (s : State) (h : s.zs.resetDue.isSome = true) :
    RecordStands (runShutdown l s) s := by
  induction l generalizing s with
  | nil => exact recomputeAfter_recordStands _ _ h
  | cons k ks ih =>
    have b := beginShutdownStage_recordStands k s
    unfold runShutdown
    generalize beginShutdownStage k s = u at b ⊢
    dsimp only
    split
    · split
      · split
        · exact (b.setZs rfl).setZs rfl
        · exact RecordStands.andThen ih h (b.setZs rfl)
      · exact b
    · exact ih s h

theorem completeShutdownStage_recordStands (k : Nat) (s : State) (h : s.zs.resetDue.isSome = true) :
    RecordStands (completeShutdownStage k s) s := by
  unfold completeShutdownStage; dsimp only; split
  · exact ((RecordStands.refl s).setZs rfl).setZs rfl
  · exact RecordStands.andThen (runShutdown_recordStands _) h ((RecordStands.refl s).setZs rfl)

theorem enterPaused_recordStands (c : Causes) (s : State) (h : s.zs.resetDue.isSome = true) :
    RecordStands (enterPaused c s) s := by
  unfold enterPaused pauseWith
  refine RecordStands.trans (recomputeAfter_recordStands .paused _ ?_) ((RecordStands.refl s).setZs rfl)
  exact h

theorem endIfOver_recordStands (s : State) (h : s.zs.resetDue.isSome = true) :
    RecordStands (endIfOver s) s := by
  unfold endIfOver; split
  · split
    · unfold endRestartStage; dsimp only; split
      · exact ((RecordStands.refl s).setZs rfl).setZs rfl
      · exact RecordStands.andThen (enterPaused_recordStands _) h ((RecordStands.refl s).setZs rfl)
    · exact .refl s
  · exact .refl s

theorem leftPending_recordStands (c : Channel) (b : Bool) (s : State) (h : s.zs.resetDue.isSome = true) :
    RecordStands (leftPending c b s) s := by
  have shutdown : RecordStands (shutdownReport c s) s := by
    unfold shutdownReport; dsimp only; repeat' split
    · exact RecordStands.andThen (completeShutdownStage_recordStands _) h ((RecordStands.refl s).setZs rfl)
    · exact (RecordStands.refl s).setZs rfl
    all_goals exact .refl s
  have restart : RecordStands (restartReport c b s) s := by
    unfold restartReport; dsimp only; repeat' split
    · exact RecordStands.andThen endIfOver_recordStands h ((RecordStands.refl s).setZs rfl)
    all_goals exact .refl s
  unfold leftPending; split
  · exact shutdown
  · exact restart
  all_goals exact .refl s

theorem takeLevelTest_recordStands (c : Channel) (s : State) (h : s.zs.resetDue.isSome = true) :
    RecordStands (takeLevelTest c s) s := by
  unfold takeLevelTest; dsimp only; repeat' split
  · exact RecordStands.andThen (leftPending_recordStands c false) h (.refl s)
  all_goals exact .refl s

theorem endResetChannels_recordStands (s : State) (h : s.zs.resetDue.isSome = true) :
    RecordStands (endResetChannels s) s := by
  have all (l : List Channel) (x : State) (hx : RecordStands x s) :
      RecordStands (l.foldl (fun st c => takeLevelTest c st) x) s := by
    induction l generalizing x with
    | nil => exact hx
    | cons c cs ih => exact ih _ (RecordStands.andThen (takeLevelTest_recordStands c) h hx)
  have a := all allChannels s (.refl s)
  unfold endResetChannels
  exact (followUnconfirmed_recordStands _).trans a

/-- At the end of a warm reset the record and its writes stand, but for the write started again where one was
abandoned (R199). -/
theorem endWarmReset_rcp (s : State) (h : configured s = true) :
    (endWarmReset s).rcp = (endResetRecord s).rcp := by
  have timers (x : State) : (startTimers x).rcp = x.rcp := by
    unfold startTimers; exact (queueStatus_recordStands _).1
  have timers' (x : State) : (startTimers x).nodeTime = x.nodeTime := by
    unfold startTimers queueStatus; rw [place_eq]; rfl
  have detector (x : State) : (startDetector x).rcp = x.rcp ∧ (startDetector x).nodeTime = x.nodeTime := by
    unfold startDetector; split <;> exact ⟨rfl, rfl⟩
  have wire (x : State) : (senseWire x).rcp = x.rcp ∧ (senseWire x).nodeTime = x.nodeTime := by
    unfold senseWire; split <;> exact ⟨rfl, rfl⟩
  have arming (x : State) : (armingEval x).rcp = x.rcp ∧ (armingEval x).nodeTime = x.nodeTime := by
    unfold armingEval; split <;> exact ⟨rfl, rfl⟩
  have causes (x : State) : RecordStands (endResetCauses x) x := by
    unfold endResetCauses; split <;> exact ⟨rfl, rfl⟩
  have waits (x : State) (hx : x.zs.resetDue.isSome = true) : (startWaits x).rcp = x.rcp := by
    unfold startWaits; split
    · rfl
    · exact (recomputeHold_recordStands x hx).1
  have record (x : State) : (endResetRecord x).zs = x.zs := by
    unfold endResetRecord startWrite; split <;> rfl
  have same (x : State) (hr : x.rcp = s.rcp) (ht : x.nodeTime = s.nodeTime) :
      (endResetRecord x).rcp = (endResetRecord s).rcp := by
    unfold endResetRecord startWrite; rw [hr, ht]; split
    · simp
    · exact hr
  unfold endWarmReset; dsimp only
  generalize hy : armingEval (senseWire (ownPresent (startTimers (startDetector (s.setPhase .running))))) = y
  have yr : y.rcp = s.rcp := by
    rw [← hy, (arming _).1, (wire _).1]
    exact (timers _).trans (detector _).1
  have yt : y.nodeTime = s.nodeTime := by
    rw [← hy, (arming _).2, (wire _).2]
    exact (timers' _).trans (detector _).2
  have yc : configured y = true := by unfold configured; rw [yr]; exact h
  have z : (endResetSequencer y).rcp = y.rcp ∧ (endResetSequencer y).nodeTime = y.nodeTime ∧
      (endResetSequencer y).zs.resetDue.isSome = true := by
    unfold endResetSequencer; rw [if_pos yc]; exact ⟨rfl, rfl, rfl⟩
  have d : (endResetRecord (endResetSequencer y)).zs.resetDue.isSome = true := by
    rw [record]; exact z.2.2
  have e := endResetChannels_recordStands _ d
  have c := causes (endResetChannels (endResetRecord (endResetSequencer y)))
  rw [(takeHealth_recordStands _).1, waits _ (by rw [c.2, e.2]; exact d), c.1, e.1]
  exact same _ (z.1.trans yr) (z.2.1.trans yt)

end Sys2Proof.Machine
end

