-- ==== Sys2Proof/Laws/Time.lean ====
section
/-! SUPPORT. What node time running on does: it moves node time, and takes a close that waits when the node
time at which it waits is left (R1, R196). -/

namespace Sys2Proof.Machine

/-- Where no close waits, nothing is taken when node time moves on. -/
theorem leaveNodeTime_calm {s : State} (h : s.rcp.closeWaits = false) (t : Nat) : leaveNodeTime t s = s := by
  unfold leaveNodeTime takeWaitingClose
  simp [h]

/-- Leaving a node time changes what the zone changes and nothing else. -/
@[simp] theorem zoneKept_leaveNodeTime (t : Nat) (s : State) :
    zoneKept (leaveNodeTime t s) = zoneKept s := by
  unfold leaveNodeTime; split <;> simp

/-- A part with power that is given a node time no earlier than its own, within 48 bits, takes it (R1). -/
theorem advance_later {t : Nat} {s : State} (hp : s.phase ≠ .powerUp) (h : s.nodeTime ≤ t)
    (hm : t ≤ maxNodeTime) : advance t s = (leaveNodeTime t s).setNodeTime t := by
  unfold advance
  rw [if_neg hp, Nat.min_eq_left hm, Nat.max_eq_right h]

/-- A running part in which no close waits, or whose node time stands, takes the node time of its command and
nothing else (R1, R187). -/
theorem advance_running {t : Nat} {s : State} (hp : s.phase = .running) (h : s.nodeTime ≤ t)
    (hm : t ≤ maxNodeTime) (hc : s.rcp.closeWaits = false ∨ t = s.nodeTime) :
    advance t s = s.setNodeTime t := by
  rw [advance_later (by rw [hp]; decide) h hm]
  cases hc with
  | inl hc => rw [leaveNodeTime_calm hc]
  | inr ht => simp [leaveNodeTime, ht]

/-- A part in its cold start or in a warm reset takes the node time of its command and nothing else (R1). -/
theorem advance_starting {t : Nat} {s : State} (hp : s.phase ≠ .powerUp) (hr : s.phase ≠ .running)
    (h : s.nodeTime ≤ t) (hm : t ≤ maxNodeTime) : advance t s = s.setNodeTime t := by
  rw [advance_later hp h hm]
  simp [leaveNodeTime, hr]

/-- Node time never runs back (R1). -/
theorem advance_mono (t : Nat) (s : State) : s.nodeTime ≤ (advance t s).nodeTime := by
  unfold advance
  split
  · exact Nat.le_refl _
  · exact Nat.le_max_left _ _

/-- Node time stays within 48 bits (R1). -/
theorem advance_le (t : Nat) (s : State) (h : s.nodeTime ≤ maxNodeTime) :
    (advance t s).nodeTime ≤ maxNodeTime := by
  unfold advance
  split
  · exact h
  · exact Nat.max_le.mpr ⟨h, Nat.min_le_right _ _⟩

/-- Node time running on changes node time and what the zone changes, and nothing else. -/
theorem zoneKept_advance (t : Nat) (s : State) :
    zoneKept (advance t s) = (zoneKept s).setNodeTime (advance t s).nodeTime := by
  unfold advance
  split
  · rfl
  · exact congrArg (fun x : State => x.setNodeTime (max s.nodeTime (min t maxNodeTime)))
      (zoneKept_leaveNodeTime t s)

end Sys2Proof.Machine
end

