-- ==== Sys2Proof/Laws/Vote.lean ====
section
/-! SUPPORT. What the operations of the Vote and Trip Unit, the Peer View and the reports leave alone.
`voteKept` blanks what a trip may change besides the zone, `viewKept` blanks the Peer View too. -/

namespace Sys2Proof.Machine

/-- What no operation of the VTU changes: `zoneKept` with the VTU blanked. -/
def voteKept (s : State) : State := { zoneKept s with vtu := VoteState.reset }

/-- What no report and no arrival of an observation changes: `voteKept` with the Peer View and
CONFIG-MISMATCH blanked. -/
def viewKept (s : State) : State :=
  { voteKept s with
    pv := PeerView.reset
    hm := { (voteKept s).hm with active := putFault .configMismatch false (voteKept s).hm.active
                                 sticky := putFault .configMismatch false (voteKept s).hm.sticky } }

theorem voteKept_of_zoneKept {u s : State} (h : zoneKept u = zoneKept s) : voteKept u = voteKept s := by
  unfold voteKept; rw [h]

theorem viewKept_of_voteKept {u s : State} (h : voteKept u = voteKept s) : viewKept u = viewKept s := by
  unfold viewKept; rw [h]

/-- What `voteKept` fixes, field by field. -/
theorem voteKept_fields {u s : State} (h : voteKept u = voteKept s) :
    u.nodeTime = s.nodeTime ∧ u.mp = s.mp ∧ u.pv = s.pv ∧ u.pins = s.pins ∧ u.phase = s.phase ∧
      u.pending = s.pending ∧ u.rcp.config = s.rcp.config ∧ u.rcp.stationId = s.rcp.stationId ∧
      u.hm.mode = s.hm.mode :=
  ⟨congrArg (fun x => x.nodeTime) h, congrArg (fun x => x.mp) h, congrArg (fun x => x.pv) h,
    congrArg (fun x => x.pins) h, congrArg (fun x => x.phase) h, congrArg (fun x => x.pending) h,
    congrArg (fun x => x.rcp.config) h, congrArg (fun x => x.rcp.stationId) h,
    congrArg (fun x => x.hm.mode) h⟩

/-- What `viewKept` fixes, field by field. -/
theorem viewKept_fields {u s : State} (h : viewKept u = viewKept s) :
    u.nodeTime = s.nodeTime ∧ u.mp = s.mp ∧ u.pins = s.pins ∧ u.phase = s.phase ∧
      u.pending = s.pending ∧ u.rcp.config = s.rcp.config ∧ u.rcp.stationId = s.rcp.stationId ∧
      u.hm.mode = s.hm.mode :=
  ⟨congrArg (fun x => x.nodeTime) h, congrArg (fun x => x.mp) h, congrArg (fun x => x.pins) h,
    congrArg (fun x => x.phase) h, congrArg (fun x => x.pending) h,
    congrArg (fun x => x.rcp.config) h, congrArg (fun x => x.rcp.stationId) h,
    congrArg (fun x => x.hm.mode) h⟩

/-- The fields of the SLC that `viewKept` fixes. -/
theorem viewKept_slc {u s : State} (h : viewKept u = viewKept s) :
    u.slc = { s.slc with queue := u.slc.queue, inFlight := u.slc.inFlight } := by
  have h' := congrArg (fun x => x.slc) h
  cases hu : u.slc; cases hs : s.slc
  simp_all [zoneKept, voteKept, viewKept]

/-- The faults other than CHANNEL-UNCONFIRMED and CONFIG-MISMATCH are fixed by `viewKept`. -/
theorem viewKept_active {u s : State} (h : viewKept u = viewKept s) (f : FaultId)
    (hf : f ≠ .channelUnconfirmed) (hg : f ≠ .configMismatch) : active f u = active f s := by
  have h' := congrArg (fun x => x.hm.active) h
  cases f <;> simp_all [zoneKept, voteKept, viewKept, putFault, active, hasFault]

/-- Exclusion, suppression and the usable line are fixed by `viewKept`. -/
theorem viewKept_line {u s : State} (h : viewKept u = viewKept s) :
    excluded u = excluded s ∧ suppressed u = suppressed s ∧ lineUsable u = lineUsable s := by
  simp [excluded, suppressed, lineUsable, viewKept_active h]

/-- An operation that keeps `zoneKept` keeps `voteKept`. -/
theorem voteKept_op {f : State → State} (h : ∀ s, zoneKept (f s) = zoneKept s) (s : State) :
    voteKept (f s) = voteKept s := voteKept_of_zoneKept (h s)

@[simp] theorem voteKept_setVtu (s : State) (v : VoteState) : voteKept (s.setVtu v) = voteKept s := rfl
@[simp] theorem voteKept_drawn (s : State) : voteKept (drawn s) = voteKept s := rfl
@[simp] theorem viewKept_setPv (s : State) (v : PeerView) : viewKept (s.setPv v) = viewKept s := rfl
@[simp] theorem viewKept_setPeer (i : StationId) (e : PeerEntry) (s : State) :
    viewKept (setPeer i e s) = viewKept s := rfl
@[simp] theorem viewKept_drawn (s : State) : viewKept (drawn s) = viewKept s := rfl

@[simp] theorem voteKept_place (e : TxEntry) (s : State) : voteKept (place e s) = voteKept s :=
  voteKept_op (zoneKept_place e) s
@[simp] theorem voteKept_zsTrip (g : Nat) (s : State) : voteKept (zsTrip g s) = voteKept s :=
  voteKept_op (zoneKept_zsTrip g) s
@[simp] theorem voteKept_rcpTrip (a b : Cause) (v g : Nat) (l : List StationId) (s : State) :
    voteKept (rcpTrip a b v g l s) = voteKept s := voteKept_op (zoneKept_rcpTrip a b v g l) s
@[simp] theorem voteKept_rcpPermit (s : State) : voteKept (rcpPermit s) = voteKept s :=
  voteKept_op zoneKept_rcpPermit s
@[simp] theorem voteKept_activity (t g : Nat) (b : Bool) (s : State) :
    voteKept (activity t g b s) = voteKept s := voteKept_op (zoneKept_activity t g b) s

@[simp] theorem voteKept_armingEval (s : State) : voteKept (armingEval s) = voteKept s := by
  unfold armingEval; split <;> simp

@[simp] theorem voteKept_disarm (s : State) : voteKept (disarm s) = voteKept s := rfl
@[simp] theorem voteKept_startDrive (s : State) : voteKept (startDrive s) = voteKept s := rfl

@[simp] theorem voteKept_settleClose (s : State) : voteKept (settleClose s) = voteKept s := by
  unfold settleClose; split
  · exact voteKept_of_zoneKept (by simp)
  · rfl

@[simp] theorem voteKept_tripArmed (a b : Cause) (v g : Nat) (s : State) :
    voteKept (tripArmed a b v g s) = voteKept s := by
  unfold tripArmed inEitherOrder; dsimp only; repeat' split
  all_goals simp

@[simp] theorem voteKept_tripListen (s : State) : voteKept (tripListen s) = voteKept s := rfl

@[simp] theorem voteKept_tripOccasion (a b : Cause) (v g : Nat) (s : State) :
    voteKept (tripOccasion a b v g s) = voteKept s := by
  unfold tripOccasion; repeat' split
  all_goals simp

@[simp] theorem voteKept_voteTest (s : State) : voteKept (voteTest s) = voteKept s := by
  unfold voteTest; dsimp only; repeat' split
  all_goals simp

@[simp] theorem voteKept_soloTest (s : State) : voteKept (soloTest s) = voteKept s := by
  unfold soloTest; split <;> simp

@[simp] theorem voteKept_permitRequest (b : Bool) (o : Cause) (s : State) :
    voteKept (permitRequest b o s) = voteKept s := by
  unfold permitRequest; split <;> simp

@[simp] theorem voteKept_vtuTripArrival (p : TripPayload) (s : State) :
    voteKept (vtuTripArrival p s) = voteKept s := by
  simp [vtuTripArrival]

@[simp] theorem voteKept_reportToVtu (b : Bool) (s : State) : voteKept (reportToVtu b s) = voteKept s := by
  unfold reportToVtu; split <;> simp

/-- An operation that keeps `voteKept` keeps `viewKept`. -/
theorem viewKept_op {f : State → State} (h : ∀ s, voteKept (f s) = voteKept s) (s : State) :
    viewKept (f s) = viewKept s := viewKept_of_voteKept (h s)

@[simp] theorem viewKept_place (e : TxEntry) (s : State) : viewKept (place e s) = viewKept s :=
  viewKept_op (voteKept_place e) s
@[simp] theorem viewKept_voteTest (s : State) : viewKept (voteTest s) = viewKept s :=
  viewKept_op voteKept_voteTest s
@[simp] theorem viewKept_reportToVtu (b : Bool) (s : State) : viewKept (reportToVtu b s) = viewKept s :=
  viewKept_op (voteKept_reportToVtu b) s
@[simp] theorem viewKept_activity (t g : Nat) (b : Bool) (s : State) :
    viewKept (activity t g b s) = viewKept s := viewKept_op (voteKept_activity t g b) s
@[simp] theorem viewKept_takeHealth (s : State) : viewKept (takeHealth s) = viewKept s :=
  viewKept_op (voteKept_op zoneKept_takeHealth) s

/-- Raising, clearing and following CONFIG-MISMATCH, the one fault the Peer View raises (R62). -/
@[simp] theorem viewKept_followFault (b : Bool) (s : State) :
    viewKept (followFault .configMismatch b s) = viewKept s := by
  unfold followFault; repeat' split
  · rfl
  · unfold raiseFault; rw [viewKept_takeHealth]; rfl
  · unfold clearFault; rw [viewKept_takeHealth]; rfl
  · rfl

@[simp] theorem viewKept_digestCompare (s : State) : viewKept (digestCompare s) = viewKept s := by
  simp [digestCompare]

@[simp] theorem viewKept_presenceUpdate (i : StationId) (t : Nat) (s : State) :
    viewKept (presenceUpdate i t s) = viewKept s := by
  unfold presenceUpdate; dsimp only; split <;> simp

@[simp] theorem viewKept_storeSummary (i : StationId) (q : SeqState) (d : Nat) (s : State) :
    viewKept (storeSummary i q d s) = viewKept s := by
  simp [storeSummary]

@[simp] theorem viewKept_storeObservation (i : StationId) (o : Observation) (s : State) :
    viewKept (storeObservation i o s) = viewKept s := by
  unfold storeObservation; dsimp only; repeat' split
  all_goals simp

@[simp] theorem viewKept_refreshOwnWindow (s : State) : viewKept (refreshOwnWindow s) = viewKept s := by
  simp [refreshOwnWindow]

@[simp] theorem viewKept_followExclusion (b : Bool) (s : State) :
    viewKept (followExclusion b s) = viewKept s := by
  unfold followExclusion; split <;> simp

@[simp] theorem viewKept_handReport (ph : ReportPhase) (a b : Bool) (s : State) :
    viewKept (handReport ph a b s) = viewKept s := by
  unfold handReport inEitherOrder; dsimp only; repeat' split
  all_goals simp

/-- A report changes the own event record's phase and strong-reached flag and nothing else of the MP. -/
theorem issueReport_mp (ph : ReportPhase) (a b : Bool) (s : State) :
    (issueReport ph a b s).mp =
      { s.mp with phase := ownPhaseOf ph, strongReached := s.mp.strongReached || ph == .strong } :=
  (viewKept_fields (viewKept_handReport ph a b _)).2.1

end Sys2Proof.Machine
end

