-- ==== Sys2Proof/Machine/BitTiming.lean ====
section
/-! DEFINITION. Bit timing in quanta of the 16 MHz node clock, the synchronisation of a receiver (R30), and the
count of recessive bits to IDLE (R31). No other behaviour of the part depends on quanta, and no command of
the table falls inside a bit, so these are functions of the timing fields and the line state that the state
holds (notes/assumptions/7.md). A dominant bit is `false` and a recessive bit is `true`. -/

namespace Sys2Proof.Machine

/-- Clocks of the 16 MHz node clock in one quantum (R30). -/
def quantumClocks (b : BitTiming) : Nat := b.prescale + 1

/-- Quanta in one bit: the synchronisation quantum, seg1, seg2 (R30). -/
def bitQuanta (b : BitTiming) : Nat := 1 + b.seg1 + b.seg2

/-- Node clocks in one bit (R30). -/
def bitClocks (b : BitTiming) : Nat := bitQuanta b * quantumClocks b

/-- The quantum at whose end the line is sampled: the end of seg1 (R30). -/
def samplePoint (b : BitTiming) : Nat := 1 + b.seg1

/-- Where an edge within a frame falls against the synchronisation quantum (R30). -/
inductive EdgePhase where
  | onTime
  | late (error : Nat)
  | early (error : Nat)
  deriving DecidableEq, Repr

/-- seg1 of the current bit after a resynchronising edge: a late edge lengthens it by the phase error,
limited to jump quanta (R30). -/
def resyncSeg1 (b : BitTiming) : EdgePhase → Nat
  | .late e => b.seg1 + min e b.jump
  | .onTime => b.seg1
  | .early _ => b.seg1

/-- seg2 of the previous bit after a resynchronising edge: an early edge shortens it by the phase error,
limited to jump quanta (R30). -/
def resyncSeg2 (b : BitTiming) : EdgePhase → Nat
  | .early e => b.seg2 - min e b.jump
  | .onTime => b.seg2
  | .late _ => b.seg2

/-- The bit in progress: the place of the last quantum in it, the synchronisation quantum being 0, its two
segments, and the level of the line in that quantum (R30). -/
structure BitClock where
  quantum : Nat
  seg1    : Nat
  seg2    : Nat
  level   : Bool
  deriving DecidableEq, Repr

/-- The phase error of an edge in quantum `q` of a bit: an edge up to the sample point is late by its distance
from the synchronisation quantum of the bit, and one after it is early by its distance from that of the next
bit (R30; that the sample point divides the two is DEDUCED, notes/assumptions/32.md). -/
def edgePhase (seg1 seg2 q : Nat) : EdgePhase :=
  if q = 0 then .onTime else if q ≤ seg1 then .late q else .early (1 + seg1 + seg2 - q)

/-- A new bit at its synchronisation quantum, with the segments of the configuration (R30). -/
def newBit (b : BitTiming) (level : Bool) : BitClock :=
  { quantum := 0, seg1 := b.seg1, seg2 := b.seg2, level := level }

/-- The quantum after `k`: the next of its bit, or the first of a new one (R30). -/
def nextQuantum (b : BitTiming) (level : Bool) (k : BitClock) : BitClock :=
  if k.quantum < k.seg1 + k.seg2 then { k with quantum := k.quantum + 1, level := level }
  else newBit b level

/-- A resynchronising edge in the quantum `k`. A bit that an early edge has shortened to its end is over, and
the quantum is the synchronisation quantum of the next (R30). -/
def resync (b : BitTiming) (k : BitClock) : BitClock :=
  let t : BitTiming := { b with seg1 := k.seg1, seg2 := k.seg2 }
  let e := edgePhase k.seg1 k.seg2 k.quantum
  let m := { k with seg1 := resyncSeg1 t e, seg2 := resyncSeg2 t e }
  if m.quantum ≤ m.seg1 + m.seg2 then m else newBit b k.level

/-- An edge hard-synchronises while no frame is in progress: in IDLE it is a start of frame, and in SEEKING it
times the recessive bits afresh and starts no frame (R30). That it does so in the count after a delimiter
too is the model's choice (notes/assumptions/32.md). -/
def hardSyncs : LineState → Bool
  | .idle => true | .seeking => true | .counting => true
  | .receiving => false | .sending => false | .inactive => false

/-- One quantum, with the level of the line in it, in a line state. A recessive-to-dominant edge
hard-synchronises, or resynchronises within a frame (R30). -/
def clockQuantum (b : BitTiming) (l : LineState) (level : Bool) (k : BitClock) : BitClock :=
  if k.level && !level then
    if hardSyncs l then newBit b level else resync b (nextQuantum b level k)
  else nextQuantum b level k

/-- The bit that a quantum samples, if it is the last of seg1 (R30). -/
def sampledBit (k : BitClock) : Option Bool := if k.quantum = k.seg1 then some k.level else none

/-- An edge is a start of frame: a recessive-to-dominant edge in IDLE (R30). -/
def isSofEdge (l : LineState) (before level : Bool) : Bool := l == .idle && before && !level

/-- The line state and the recessive bits counted toward IDLE: the six of the delimiter are counted when the
count after it starts (R31). -/
structure IdleCount where
  line : LineState
  bits : Nat
  deriving DecidableEq, Repr

/-- The count as it starts after the last delimiter bit of a frame (R31). -/
def IdleCount.afterDelimiter : IdleCount := { line := .counting, bits := 6 }

/-- The count as it starts in SEEKING (R31). -/
def IdleCount.seeking : IdleCount := { line := .seeking, bits := 0 }

/-- One sampled bit: the tenth recessive bit in a row leads to IDLE, and a dominant bit starts the count again
in SEEKING (R31). -/
def countBit (bit : Bool) (c : IdleCount) : IdleCount :=
  if c.line = .seeking ∨ c.line = .counting then
    if bit then
      (if c.bits + 1 < 10 then { c with bits := c.bits + 1 } else { line := .idle, bits := 0 })
    else IdleCount.seeking
  else c

/-- The command that a change of the count stands for, at node time `t` (R31). -/
def countCommand (t : Nat) (bit : Bool) (c : IdleCount) : Option Instr :=
  if (countBit bit c).line = .idle ∧ c.line ≠ .idle then some (.lineIdle t)
  else if c.line = .counting ∧ bit = false then some (.dominantBitBeforeIdle t)
  else none

end Sys2Proof.Machine
end

