-- ==== Sys2Proof/Machine/LineBits.lean ====
section
/-! DEFINITION. What a sender finds in the bits it reads back (sections 2.4 and 2.5): the wired-AND line,
arbitration by the header, and the place at which a difference is lost arbitration or a BIT error. The
commands ARBITRATION_LOST, BIT_ERROR and FRAME_COMPLETED stand for the outcomes
(notes/assumptions/7.md). A dominant bit is `false` and a recessive bit is `true`. -/

namespace Sys2Proof.Machine

/-- The level of the line when two stations drive it: dominant overrides recessive (Chapter 2). -/
def wiredAnd : List Bool → List Bool → List Bool
  | a :: as, b :: bs => (a && b) :: wiredAnd as bs
  | [], bs => bs
  | as, [] => as

/-- A header that wins against another: the lower value (R35). -/
def headerWins (f g : Frame) : Bool := decide (headerByte f < headerByte g)

/-- The bits on the line from the SOF through the last header bit, stuff bits counted. A stuff bit that falls
due after the last header bit is counted after the header, which is the model's choice
(notes/assumptions/33.md). -/
def headerSpan : List Bool → Nat
  | [] => 0
  | sof :: bits =>
    match unstuff 8 sof 1 bits with
    | .taken _ _ _ rest => bits.length + 1 - rest.length
    | .stuffError => 0
    | .short => 0

/-- The first place at which the bits read back differ from those driven, with the bit driven there. -/
def firstDifference : List Bool → List Bool → Option (Nat × Bool)
  | d :: ds, r :: rs =>
    if d = r then (firstDifference ds rs).map (fun p => (p.1 + 1, p.2)) else some (0, d)
  | [], _ => none
  | _, [] => none

/-- How an attempt stands for its sender (R35, R38, R43). -/
inductive SenderEnd where
  | underway | arbitrationLost | bitError | completed
  deriving DecidableEq, Repr

/-- What a sender that drives `driven` finds in the bits it has read back. In the header a recessive bit read
dominant is lost arbitration. A dominant bit read recessive in the SOF or the header, and any difference
after the header, through the last delimiter bit, is a BIT error (R35, R38). -/
def senderEnd (driven read : List Bool) : SenderEnd :=
  match firstDifference driven read with
  | some (n, bit) =>
    if bit = true ∧ 0 < n ∧ n < headerSpan driven then .arbitrationLost else .bitError
  | none => if driven.length ≤ read.length then .completed else .underway

/-- The command that the end of an attempt stands for, at node time `t` (R35, R38, R43). -/
def senderCommand (t : Nat) : SenderEnd → Option Instr
  | .arbitrationLost => some (.arbitrationLost t)
  | .bitError => some (.bitError t)
  | .completed => some (.frameCompleted t)
  | .underway => none

end Sys2Proof.Machine
end

