-- ==== Sys2Proof/Tests/Slice0.lean ====
section
/-! SUPPORT. Tests of the model against the manual's own figures and worked cases, the smoke test of
WellFormed, and one witness for each statement with hypotheses, clause by clause. Expected values are the
manual's, or counted by hand from its rules. The theorems are checked one after another: many kernel
evaluations at once take more thread stacks than the build allows. -/

namespace Sys2Proof.Machine

set_option Elab.async false

/-! ## The node of the worked cases (sections 3.8, 4.9, 6.6, 9.6) -/

/-- A channel of the table of section 6.6 with its restart stage and weight of section 9.6. -/
def testChannel (kind : OutputKind) (ackUsed : Bool) (shut restart weight timeout : Nat) : ChannelConfig :=
  { enabled := true, kind := kind, ackUsed := ackUsed, inverted := false, shutdownStage := shut,
    restartStage := restart, weight := weight, ackTimeout := timeout }

/-- The channels of node 5: 0, 1 storage, 2 to 4 compute, 8 the valve, 9 the rack strips, 15 kept. -/
def testChannels : List ChannelConfig :=
  [testChannel .request true 1 3 10 100, testChannel .request true 1 3 10 100,
   testChannel .permit false 2 2 20 30, testChannel .permit false 2 2 20 30,
   testChannel .permit true 2 3 30 30, defaultChannel, defaultChannel, defaultChannel,
   testChannel .request true 4 1 5 200, testChannel .permit false 5 4 60 50,
   defaultChannel, defaultChannel, defaultChannel, defaultChannel, defaultChannel,
   testChannel .request false 0 0 0 50]

/-- The configuration of node 5. Station 30 is in the console set. -/
def testConfig : NodeConfig :=
  { defaultConfig with
    consoleSet := 0x40000000#32, startMode := .armed
    ir := Vector.ofFn (fun i : Fin 8 => if i.val = 0 then 20 else if i.val = 3 then 80 else 50)
    channels := Vector.ofFn (fun c : Fin 16 => testChannels.getD c.val defaultChannel) }

/-- A channel of the command and the level given, CONFIRMED. -/
def testRun (cmd : ChanCmd) (readsShut : Bool) : ChanRun :=
  { cmd := cmd, conf := .confirmed, ackDue := none, disagree := false, readsShut := readsShut
    filterDue := none, since := 0 }

/-- Every enabled channel of node 5 with one command, its level matching. -/
def testChans (cmd : ChanCmd) : ChannelState :=
  { runs := Vector.ofFn (fun c : Fin 16 =>
      if (testChannels.getD c.val defaultChannel).enabled then some (testRun cmd (cmd == .shut)) else none) }

/-- Node 5 before the worked cases: configured, running, ARMED, RUNNING, its line idle. -/
def node : State :=
  { State.reset with
    phase := .running, nodeTime := 1000000, cd := testChans .run
    rcp := { RecordState.reset with stationId := 5, range16 := true, config := some testConfig }
    hm := { HealthState.reset with mode := .armed, healthy := true }
    vtu := { VoteState.reset with armed := true }
    zs := { SeqRecord.reset with st := .running }
    slc := { LineCtl.reset with line := .idle, score := 10 }
    mp := { MotionState.reset with det := .quiet, sensorRange16 := true } }

/-- Node 5 in WATCH after the shutdown of section 6.6, its record open. -/
def watchNode : State :=
  { node with
    cd := testChans .shut, vtu := { node.vtu with armed := false }
    zs := { node.zs with st := .watch, ta := 1000000, grade := 2, currentStage := 5, holdDue := some 1000000 }
    rcp := { node.rcp with record := { TripRecord.blank with isOpen := true, grade := 2, count := 1 } } }

/-- A Peer View entry that is PRESENT and holds an observation. -/
def testEntry (event onset grade : Nat) : PeerEntry :=
  { PeerEntry.reset with
    presence := .present, silenceDue := some 1060627, windowDue := some (onset + 20001)
    observation := some { event := event, phase := .onset, onset := some onset, peak := 61, grade := grade } }

/-- The next state of an outcome, or `s` where there is none. -/
def nextOr (s : State) (o : Host.Outcome State Fault Refusal) : State :=
  match o with
  | .next u => u
  | .fault _ => s
  | .refused _ => s

/-! ## WellFormed refuses -/

/-- The ill-formed term of a command at a time beyond 48 bits (R1). -/
def lateCommands : List Instr :=
  let t := 281474976710656
  let c : CommandPayload := { target := 5, argument := 0 }
  [.imageRead t (List.replicate 196 0), .recordRead t (List.replicate 43 0), .memoryReadTimeout t,
   .warmReset t, .endOfWarmReset t, .dataReady t 0 0 0, .missingDeadline t, .selftestDue t, .transmitStart t,
   .arbitrationLost t, .bitError t, .frameCompleted t,
   .tripFrame t 9 { own := .vote, origin := .vote, votes := 3, grade := 2, age := 1 },
   .observeFrame t 9 { event := 3, phase := .onset, age := 1240, peak := 61, grade := 1 },
   .claimFrame t 9 { number := 1, weight := 5, duration := 20 },
   .releaseFrame t 9 { number := 1, reason := .withdrawn },
   .statusFrame t 9 { composeStatus node with nextStage := 1 }, .ignoredFrame t, .receiveError t .crc,
   .idConflictDeadline t, .heardDeadline t, .statusPeriod t, .silenceDeadline t 9, .windowDeadline t 9,
   .wireAssertionEdge t, .wireReleaseEdge t, .confirmDeadline t, .stuckDeadline t, .rearmDeadline t,
   .driveDeadline t, .ackInputChange t 0 true, .filterDeadline t 0, .ackDeadline t 0, .gapDeadline t,
   .holdDeadline t, .startWait t, .resetDeadline t, .settleDeadline t, .backoffDeadline t,
   .claimExpiry t 9, .ownExpiry t, .inrushDeadline t, .restartGapDeadline t, .recordWriteAck t,
   .attemptDeadline t, .permit t 30 c, .hold t 30 c, .resume t 30 c, .shutdown t 30 c, .test t 30 c,
   .mode t 30 c, .ackFaults t 30 c, .report t 30 c, .lineIdle t, .otherStationSof t,
   .dominantBitBeforeIdle t]

/-- Terms with one field outside its range each (R53, R54, R185). -/
def wrongFields : List Instr :=
  let o : ObservePayload := { event := 3, phase := .onset, age := 1240, peak := 61, grade := 1 }
  let p : TripPayload := { own := .vote, origin := .vote, votes := 3, grade := 2, age := 1 }
  let q : StatusPayload := composeStatus node
  [.imageRead 0 (List.replicate 195 0), .recordRead 0 (List.replicate 44 0),
   .tripFrame 0 9 { p with votes := 33 }, .tripFrame 0 9 { p with grade := 5 },
   .tripFrame 0 9 { p with age := 65536 },
   .observeFrame 0 9 { o with event := 256 }, .observeFrame 0 9 { o with age := 65536 },
   .observeFrame 0 9 { o with peak := 32768 }, .observeFrame 0 9 { o with grade := 5 },
   .claimFrame 0 9 { number := 256, weight := 5, duration := 20 },
   .claimFrame 0 9 { number := 1, weight := 0, duration := 20 },
   .claimFrame 0 9 { number := 1, weight := 65536, duration := 20 },
   .claimFrame 0 9 { number := 1, weight := 5, duration := 0 },
   .claimFrame 0 9 { number := 1, weight := 5, duration := 6001 },
   .releaseFrame 0 9 { number := 256, reason := .withdrawn },
   .statusFrame 0 9 { q with currentStage := 9 }, .statusFrame 0 9 { q with nextStage := 0 },
   .statusFrame 0 9 { q with nextStage := 10 }, .statusFrame 0 9 { q with grade := 5 },
   .statusFrame 0 9 { q with digest := 65536 }, .statusFrame 0 9 { q with lastCode := 9 },
   .statusFrame 0 9 { q with wouldTrip := 256 },
   .permit 0 30 { target := 32, argument := 0 }, .hold 0 30 { target := 254, argument := 0 },
   .resume 0 30 { target := 256, argument := 0 }, .shutdown 0 30 { target := 5, argument := 256 },
   .test 0 30 { target := 32, argument := 0 }, .mode 0 30 { target := 5, argument := 2 },
   .ackFaults 0 30 { target := 32, argument := 0 }, .report 0 30 { target := 32, argument := 0 }]

theorem test_wellFormed_refuses_late : lateCommands.all (fun i => !i.wellFormed) = true := by decide +kernel

theorem test_wellFormed_refuses_fields : wrongFields.all (fun i => !i.wellFormed) = true := by
  decide +kernel

theorem test_wellFormed_accepts_edges :
    [Instr.tripFrame maxNodeTime 9 { own := .vote, origin := .vote, votes := 32, grade := 4, age := 65535 },
     .observeFrame 0 9 { event := 255, phase := .ended, age := 65535, peak := 32767, grade := 4 },
     .claimFrame 0 9 { number := 255, weight := 65535, duration := 6000 },
     .statusFrame 0 9 { composeStatus node with currentStage := 8, nextStage := 9 },
     .mode 0 30 { target := 31, argument := 1 }, .report 0 30 { target := 255, argument := 255 }].all
      Instr.wellFormed = true := by decide +kernel

/-! ## Codes and frames (R12, R32, R34) -/

/-- Over the characters "1" to "9" the register ends at 0x29B1 (R34). -/
theorem test_crc :
    crcOfBytes [0x31, 0x32, 0x33, 0x34, 0x35, 0x36, 0x37, 0x38, 0x39] = 0x29B1#16 := by decide +kernel

/-- Header values of section 2.12. -/
theorem test_headers :
    headerByte { sender := 4, body := .observe { event := 17, phase := .onset, age := 310, peak := 0, grade := 0 } } = 36 ∧
    headerByte { sender := 2, body := .claim { number := 1, weight := 1, duration := 1 } } = 66 ∧
    headerByte { sender := 4, body := .status (composeStatus node) } = 164 := by decide +kernel

/-- An OBSERVE has 81 bits from SOF to CRC, and six more of delimiter (section 2.12). -/
theorem test_observe_length :
    (spanBits { sender := 4, body := .observe { event := 17, phase := .onset, age := 310, peak := 0, grade := 0 } }).length = 81 ∧
    delimiter.length = 6 := by decide +kernel

/-- After six equal bits the opposite bit is stuffed, also after the last bit, and starts a run (R33). -/
theorem test_stuffing :
    stuff [false, false, false, false, false, false] = [false, false, false, false, false, false, true] ∧
    stuff [false, false, false, false, false, false, true, true, true, true, true, true] =
      [false, false, false, false, false, false, true, true, true, true, true, true, false, true] := by decide

/-- One frame of each class survives the line (R32 to R34, R53, R54). -/
theorem test_frames_survive :
    [({ sender := 0, body := .trip { own := .vote, origin := .console, votes := 32, grade := 4, age := 0 } } : Frame),
     { sender := 31, body := .observe { event := 255, phase := .ended, age := 65535, peak := 32767, grade := 0 } },
     { sender := 7, body := .claim { number := 0, weight := 65535, duration := 6000 } },
     { sender := 7, body := .release { number := 12, reason := .aborted } },
     { sender := 30, body := .command 6 { target := 255, argument := 1 } },
     { sender := 5, body := .status (composeStatus watchNode) }].all
      (fun f => decide (receive (lineBits f) = .frame f)) = true := by decide +kernel

/-- A header of class 6 is ignored at its last bit: the seventh equal bit after it is no stuff error (R32). -/
theorem test_ignored_at_header :
    receive [false, true, true, false, false, false, false, false, false, false] = .ignored ∧
    receive [false, true, true, false, false, false, false, false] = .unfinished := by decide +kernel

/-- Arbitration and BIT errors by their place (R35, R38): the lower header wins, and the other is told by its
first recessive bit read dominant. A SOF read recessive, and a difference after the header, are BIT errors.
-/
theorem test_sender_ends :
    let a : Frame := { sender := 4, body := .observe { event := 17, phase := .onset, age := 310, peak := 0, grade := 0 } }
    let b : Frame := { sender := 9, body := .trip { own := .vote, origin := .vote, votes := 3, grade := 2, age := 1 } }
    let line := (wiredAnd (lineBits a) (lineBits b)).take 4
    headerWins b a = true ∧ senderEnd (lineBits a) line = .arbitrationLost ∧
    senderEnd (lineBits b) line = .underway ∧ senderEnd (lineBits a) (lineBits a) = .completed ∧
    senderEnd (lineBits a) ((lineBits a).set 0 true) = .bitError ∧
    senderEnd (lineBits a) ((lineBits a).set 80 (!(lineBits a).getD 80 true)) = .bitError := by decide +kernel

/-- Edges by the default timing (R30): in IDLE a new bit starts. Within a frame an edge three quanta late
lengthens seg1 by 3, one eleven late by the jump of 4, and one at quantum 12, four early, ends the bit. -/
theorem test_edges :
    let k (q : Nat) : BitClock := { quantum := q, seg1 := 11, seg2 := 4, level := true }
    clockQuantum defaultTiming .idle false (k 9) = { quantum := 0, seg1 := 11, seg2 := 4, level := false } ∧
    (clockQuantum defaultTiming .receiving false (k 2)).seg1 = 14 ∧
    (clockQuantum defaultTiming .receiving false (k 10)).seg1 = 15 ∧
    (clockQuantum defaultTiming .receiving false (k 11)).quantum = 0 ∧
    sampledBit (k 11) = some true := by decide +kernel

/-- Ten recessive bits lead to IDLE, a dominant bit starts the count again, and the delimiter's six are
counted (R31). -/
theorem test_idle_count :
    let feed (n : Nat) (c : IdleCount) := (List.replicate n true).foldl (fun c b => countBit b c) c
    (feed 10 IdleCount.seeking).line = .idle ∧ (feed 9 (countBit false (feed 9 IdleCount.seeking))).line = .seeking ∧
    (feed 4 IdleCount.afterDelimiter).line = .idle ∧
    countCommand 7 true (feed 3 IdleCount.afterDelimiter) = some (.lineIdle 7) ∧
    countCommand 7 false (feed 3 IdleCount.afterDelimiter) = some (.dominantBitBeforeIdle 7) := by decide +kernel

/-! ## Motion (sections 1.3 and 1.4) -/

/-- With B = 100 and c = 0 the update gives 99 (R10). -/
theorem test_baseline_floor : nextBaseline 0 100 = 99 := by decide

/-- The first sample of section 1.4. -/
theorem test_first_sample :
    let p := sampleOf 120#16 0xFFC4#16 2090#16
    let m := { node.mp with baseZ := 524288 }
    sampleH p m = 150 ∧ sampleU p m = 150 ∧ sampleAz p m = 42 ∧ milliG true 150 = 73 ∧
    (updateBaselines p m).baseX = 120 ∧ (updateBaselines p m).baseY = -60 ∧
    (updateBaselines p m).baseZ = 524330 := by decide +kernel

/-- S and L of section 1.4, and the onset on the eighth sample. -/
theorem test_averages_and_onset :
    average 3 150 320 = 580 ∧ average 10 150 320 = 322 ∧ average 3 150 1581 = 1683 ∧
    onsetTest 40 8 1581 332 = false ∧ onsetTest 40 8 1683 334 = true ∧
    quietTest 12 8 2272 334 = false := by decide

/-- Figures of the two samples that section 1.4 gives to the event. -/
theorem test_event_figures :
    let a := addFigures testConfig true 150 150 (zeroFigures node.mp)
    let b := addFigures testConfig true 400 400 a
    a.pmg = 73 ∧ a.ci = 23 ∧ a.grade = 1 ∧ b.pmg = 195 ∧ b.ci = 168 ∧ b.grade = 2 := by decide +kernel

/-- A sample in QUIET below the onset test moves S and L alone among the averages (section 1.4, sample 1).
-/
theorem test_quiet_sample :
    let s := { node with mp := { node.mp with baseZ := 524288, sta := 320, lta := 320 } }
    let u := nextOr s (exec (.dataReady 1000000 120#16 0xFFC4#16 2090#16) s)
    u.mp.sta = 580 ∧ u.mp.lta = 322 ∧ u.mp.baseX = 120 ∧ u.mp.det = .quiet ∧
    u.mp.missingDue = some 1000100 := by decide +kernel

/-- The missing deadline moves on by 50 ticks from where it stood (R5). -/
theorem test_missing_moves_on :
    let s := { node with mp := { node.mp with missingDue := some 1000090 } }
    let u := nextOr s (exec (.missingDeadline 1000100) s)
    u.mp.missingDue = some 1000140 ∧ u.mp.missingCount = 1 := by decide +kernel

/-! ## The line (section 2.12) -/

/-- Station 4's OBSERVE is filled with the age 310 and completes at 500,316 with the score at 9. -/
theorem test_observe_is_sent :
    let s := { node with
      nodeTime := 500310, rcp := { node.rcp with stationId := 4 }
      slc := { node.slc with queue := [.observe 17 .onset 500000 61 1, .status] } }
    let u := nextOr s (exec (.transmitStart 500310) s)
    let v := nextOr s (exec (.frameCompleted 500316) u)
    u.slc.line = .sending ∧ (u.slc.inFlight.map (fun a => a.copy.body)) =
      some (.observe { event := 17, phase := .onset, age := 310, peak := 61, grade := 1 }) ∧
    u.slc.queue.length = 2 ∧ v.slc.queue = [.status] ∧ v.slc.score = 9 ∧ v.slc.tEnd = 500316 := by
  decide +kernel

/-- A CRC error takes the score from 9 to 17 (section 2.12). -/
theorem test_crc_error :
    let s := { node with slc := { node.slc with line := .receiving, score := 9 } }
    let u := nextOr s (exec (.receiveError 1000000 .crc) s)
    u.slc.score = 17 ∧ u.slc.lastError = .crc ∧ u.slc.line = .seeking := by decide +kernel

/-- A received CLAIM is appended and the score falls to 7 (section 2.12). -/
theorem test_claim_is_appended :
    let s := { node with slc := { node.slc with line := .receiving, score := 8 } }
    let u := nextOr s (exec (.claimFrame 1000000 2 { number := 1, weight := 30, duration := 8 }) s)
    u.icu.list = [{ station := 2, number := 1, weight := 30, completion := 1000000, expiry := 1008000 }] ∧
    u.slc.score = 7 ∧ u.slc.line = .counting := by decide +kernel

/-- A full queue drops a STATUS, and a TRIP displaces one (R51). -/
theorem test_overflow :
    let full : List TxEntry := [.observe 1 .onset 0 0 0, .claim 1 1 1, .release 1 .withdrawn, .status]
    (place (.trip .vote .vote 3 2 0) { node with slc := { node.slc with queue := full } }).slc.queue =
      [.trip .vote .vote 3 2 0, .observe 1 .onset 0 0 0, .claim 1 1 1, .release 1 .withdrawn] ∧
    (place .status { node with slc := { node.slc with
      queue := [.trip .vote .vote 3 2 0, .observe 1 .onset 0 0 0, .claim 1 1 1, .release 1 .withdrawn] } }).slc.queue.length = 4 := by
  decide +kernel

/-- An entry in flight that is replaced marks its attempt, and so does a STATUS that an overflow displaces
(R48, R51). Any other attempt stands. -/
theorem test_place_marks_the_attempt :
    let flying (b : FrameBody) : Attempt := { copy := { sender := 5, body := b }, tSof := 7, fate := .unchanged, releaseTied := false }
    let s (q : List TxEntry) (b : FrameBody) : State :=
      { node with slc := { node.slc with queue := q, line := .sending, inFlight := some (flying b) } }
    let claim := FrameBody.claim { number := 1, weight := 1, duration := 1 }
    let status := FrameBody.status (composeStatus node)
    let full : List TxEntry := [.observe 1 .onset 0 0 0, .claim 1 1 1, .release 1 .withdrawn, .status]
    (place (.claim 2 1 1) (s [.claim 1 1 1] claim)).slc.inFlight = some { flying claim with fate := .replaced } ∧
    (place .status (s [.status] status)).slc.inFlight = some { flying status with fate := .replaced } ∧
    (place (.trip .vote .vote 3 2 0) (s full status)).slc.inFlight = some { flying status with fate := .removed } ∧
    (place .status (s [.claim 1 1 1] claim)).slc.inFlight = some (flying claim) := by decide +kernel

/-! ## Peer View and vote (sections 3.8 and 4.9) -/

/-- The reconstructed onsets of section 3.8. -/
theorem test_onsets :
    reconstructOnset 1000620 1240 2 = some 999378 ∧ reconstructOnset 1003050 310 2 = some 1002738 ∧
    reconstructOnset 1006000 65535 2 = none ∧ reconstructOnset 5 10 2 = some 0 := by decide

/-- An update keeps the onset and the window deadline, a new event takes both afresh (section 3.8). -/
theorem test_store_observation :
    let s := setPeer 9 (testEntry 3 999378 1) { node with nodeTime := 1004207 }
    let a := peer (storeObservation 9 { event := 3, phase := .update, onset := some 999368, peak := 170, grade := 2 } s) 9
    let b := peer (storeObservation 9 { event := 4, phase := .onset, onset := some 1003591, peak := 95, grade := 2 } s) 9
    a.windowDue = some 1019379 ∧ a.observation.map (fun o => (o.onset, o.peak)) = some (some 999378, 170) ∧
    b.windowDue = some 1023592 ∧ b.observation.map (fun o => o.onset) = some (some 1003591) := by decide +kernel

/-- Node 5 at the third onset of section 3.8. -/
def voteNode : State :=
  setPeer 5 (testEntry 42 1000000 2) (setPeer 9 (testEntry 3 999378 1)
    (setPeer 12 (testEntry 200 1002738 2) { node with nodeTime := 1003060 }))

/-- Three onsets make the counted set of section 3.8, and the trip of section 4.9 takes the grade 2. -/
theorem test_vote_trip :
    countedSet voteNode = [5, 9, 12] ∧ tripGrade 0 voteNode = 2 ∧
    (disarm voteNode).vtu.rearmDue = some 1013060 ∧ (startDrive voteNode).vtu.driveDue = some 1013060 := by
  decide +kernel

/-- The hand-offs of the trip, in either order: the zone sheds stage 1 and the record opens (sections 4.9,
6.6). Channels 0 and 1 are PENDING until 1,103,060. -/
theorem test_trip_hand_offs : ∀ first : Bool,
    let u := inEitherOrder first (zsTrip 2) (rcpTrip .vote .vote 3 2 [5, 9, 12]) voteNode
    u.zs.st = .shutting ∧ u.zs.stage = some 1 ∧ u.zs.shutPending = [0, 1] ∧ u.zs.currentStage = 0 ∧
    u.zs.grade = 2 ∧ (chan u 0).map (fun r => r.ackDue) = some (some 1103060) ∧ hasCmd .run u 2 = true ∧
    u.rcp.record = { TripRecord.blank with
      isOpen := true, sequence := 1, own := some .vote, origin := some .vote, votes := 3, grade := 2
      count := 1, stations := [5, 9, 12] } := by decide +kernel

/-- The window of an onset ends at t_on + W, and the entry leaves the counted set one tick later (R71). -/
theorem test_window_edge :
    counted (setPeer 9 (testEntry 3 999378 1) { node with nodeTime := 1019378 }) 9 = true ∧
    counted (setPeer 9 (testEntry 3 999378 1) { node with nodeTime := 1019379 }) 9 = false := by
  decide +kernel

/-- An assertion edge sets the confirm deadline 20 ticks and the stuck deadline 100,000 ticks away (section
4.9). -/
theorem test_wire_edge :
    let u := nextOr node (exec (.wireAssertionEdge 1003060) node)
    u.vtu.wire = .rising ∧ u.vtu.confirmDue = some 1003080 ∧ u.vtu.stuckDue = some 1103060 := by
  decide +kernel

/-! ## Shutdown (section 6.6) -/

/-- The gap begins stage 2, which waits for channel 4, and at its deadline stage 2 is complete. -/
theorem test_gap_and_timeout :
    let s := { node with nodeTime := 1043370
                         zs := { node.zs with st := .shutting, currentStage := 1, acted := true, gapDue := some 1043370 } }
    let u := nextOr s (exec (.gapDeadline 1043370) s)
    let v := nextOr s (exec (.ackDeadline 1073370 4) u)
    u.zs.stage = some 2 ∧ u.zs.shutPending = [4] ∧ hasCmd .shut u 3 = true ∧
    (chan u 4).map (fun r => r.ackDue) = some (some 1073370) ∧ v.zs.stage = none ∧ v.zs.currentStage = 2 ∧
    v.zs.gapDue = some (1073370 + 5 * 1000) ∧ active .channelUnconfirmed v = true := by decide +kernel

/-- A re-trip in WATCH passes every stage at once and is back in WATCH (section 6.6). -/
theorem test_retrip_in_watch :
    let s := { watchNode with nodeTime := 1500000 }
    let u := zsTrip 2 s
    u.zs.st = .watch ∧ u.zs.currentStage = 5 ∧ u.zs.holdDue = some (1500000 + 1800 * 10000) ∧
    u.cd = s.cd ∧ (rcpTrip .vote .vote 3 2 [] s).rcp.record.count = 2 := by decide +kernel

/-! ## Claims and restart (sections 8.5 and 9.6) -/

/-- The second settle of section 8.5: 110 is more than 100, and station 3 backs off to 5,017,134. -/
theorem test_claim_withdrawn :
    let s := { node with
      nodeTime := 5009134, rcp := { node.rcp with stationId := 3 }, zs := { node.zs with st := .claiming }
      icu := { ClaimState.reset with
        own := .settling, lastNumber := 13, weight := 60, duration := 50, settleDue := some 5009134
        list := [{ station := 7, number := 1, weight := 50, completion := 5000120, expiry := 5015120 },
                 { station := 3, number := 13, weight := 60, completion := 5008634, expiry := 5058634 }] } }
    let u := nextOr s (exec (.settleDeadline 5009134) s)
    u.icu.own = .backoff ∧ u.icu.backoffDue = some 5017134 ∧ u.icu.list.length = 1 ∧
    u.slc.queue = [.release 13 .withdrawn] ∧ u.zs.st = .claiming := by decide +kernel

/-- The PERMIT of section 9.6 begins stage 1 with claim 1 of weight 5. -/
theorem test_permit_begins_stage :
    let s := { watchNode with nodeTime := 187500000
                              zs := { watchNode.zs with st := .awaitPermit, holdDue := none }
                              slc := { node.slc with line := .receiving } }
    let u := nextOr s (exec (.permit 187500000 30 { target := 5, argument := 0 }) s)
    u.zs.st = .claiming ∧ u.zs.stageWeight = 5 ∧ u.icu.lastNumber = 1 ∧
    u.slc.queue = [.claim 1 5 20, .status] ∧ u.hm.lastResult = .done := by decide +kernel

/-- The confirmation of section 9.6: RUN to channel 8, inrush deadline 187,520,508. -/
theorem test_confirmation_runs_stage :
    let s := { watchNode with
      nodeTime := 187500508, zs := { watchNode.zs with st := .claiming, stageWeight := 5 }
      icu := { ClaimState.reset with
        own := .settling, lastNumber := 1, weight := 5, duration := 20, settleDue := some 187500508
        list := [{ station := 5, number := 1, weight := 5, completion := 187500008, expiry := 187520008 }] } }
    let u := nextOr s (exec (.settleDeadline 187500508) s)
    u.zs.st = .restarting ∧ u.zs.runPending = [8] ∧ u.zs.inrushDue = some 187520508 ∧
    u.icu.own = .inForce ∧ hasCmd .run u 8 = true ∧ hasCmd .shut u 9 = true := by decide +kernel

/-- Stage 2 of section 9.6 ends with AFTERSHOCK held back: PAUSED, no gap, hold end 259,570,000. -/
theorem test_stage_end_pauses :
    let s := { watchNode with
      nodeTime := 187601508
      zs := { watchNode.zs with
        st := .restarting, restartStage := some 2, nextRestart := 2, ta := 187570000, grade := 4
        held := { noCauses with aftershock := true }, inrushDue := some 187601508 } }
    let u := nextOr s (exec (.inrushDeadline 187601508) s)
    u.zs.st = .paused ∧ u.zs.pause = { noCauses with aftershock := true } ∧ u.zs.nextRestart = 3 ∧
    u.zs.restartGap = none ∧ u.zs.holdDue = some 259570000 := by decide +kernel

/-! ## Configuration and record (Chapter 10) -/

/-- A record survives its own bytes, and one changed bit loses it (R193, R194). -/
theorem test_record_bytes :
    let r := { TripRecord.blank with
      isOpen := true, permit := true, sequence := 407, own := some .frame, origin := some .console
      votes := 0, grade := 4, count := 255, stations := [0, 12, 31] }
    parseRecord (recordBytes r) = some r ∧ (recordBytes r).length = 43 ∧
    parseRecord ((recordBytes r).set 5 1#8) = none := by decide +kernel

/-- A close that waits is void behind a trip of its node time, which counts as a re-trip, and is taken when
node time moves on (R128, R196). -/
theorem test_waiting_close :
    let s := { watchNode with
      cd := testChans .run, vtu := node.vtu, zs := { node.zs with grade := 0 }
      rcp := { watchNode.rcp with closeWaits := true } }
    let u := settleClose (rcpTrip .solo .solo 0 0 [] s)
    let v := nextOr s (exec (.lineIdle 1000001) s)
    u.rcp.record.isOpen = true ∧ u.rcp.record.count = 2 ∧ u.rcp.closeWaits = false ∧ u.zs.grade = 2 ∧
    v.rcp.record.isOpen = false ∧ v.rcp.closeWaits = false := by decide +kernel

/-- With the deadline of the attempt taken first, its acknowledgement at the same node time is ignored
(R198). -/
theorem test_late_ack :
    let s := { watchNode with rcp := { watchNode.rcp with writeInFlight := true, attemptDue := some 1000000 } }
    let u := nextOr s (exec (.attemptDeadline 1000000) s)
    let v := nextOr u (exec (.recordWriteAck 1000000) u)
    u.rcp.retry = true ∧ v.rcp.writeInFlight = true ∧
    (nextOr u (exec (.recordWriteAck 1000001) u)).rcp.writeInFlight = false := by decide +kernel

/-- The site block of node 5, bytes 1..61 of its image, written out by the table of R189. -/
def siteBytes : List Byte :=
  [3, 78, 32, 0, 2, 3, 4, 0, 25, 0, 80, 0, 250, 3, 32, 0, 0, 7, 208, 0, 0, 78, 32, 0, 3, 13, 64, 0, 30,
    132, 128, 0, 50, 0, 30, 2, 88, 7, 8, 28, 32, 28, 32, 0, 100, 1, 244, 7, 208, 0, 39, 16, 2, 64, 0, 0,
    0, 7, 11, 4, 4]

/-- The local block of node 5 before its channel records, bytes 62..97 (R189). -/
def localBytes : List Byte :=
  [0, 3, 10, 40, 12, 1, 144, 0, 8, 0, 120, 24, 0, 120, 1, 224, 0, 5, 0, 20, 0, 20, 0, 50, 0, 50, 0, 80,
    0, 50, 0, 50, 0, 50, 0, 50]

/-- A channel record that is disabled, at the defaults (R189). -/
def disabledBytes : List Byte := [0, 0, 0, 0, 0, 50]

/-- The channel records of channels 0..7 of node 5, bytes 98..145 (R189). -/
def lowChannelBytes : List Byte :=
  [224, 1, 3, 10, 0, 100] ++ [224, 1, 3, 10, 0, 100] ++ [128, 2, 2, 20, 0, 30] ++ [128, 2, 2, 20, 0, 30] ++
  [160, 2, 3, 30, 0, 30] ++ disabledBytes ++ disabledBytes ++ disabledBytes

/-- The channel records of channels 8..15 of node 5, bytes 146..193 (R189). -/
def highChannelBytes : List Byte :=
  [224, 4, 1, 5, 0, 200] ++ [128, 5, 4, 60, 0, 50] ++ disabledBytes ++ disabledBytes ++ disabledBytes ++
  disabledBytes ++ disabledBytes ++ [192, 0, 0, 0, 0, 50]

/-- The image of node 5 before its CRC. -/
def testFields : List Byte :=
  (0x31#8 :: siteBytes) ++ (localBytes ++ (lowChannelBytes ++ highChannelBytes))

/-- The image of node 5. Its CRC 0xB487 is computed outside the model, by R34. -/
def testImage : List Byte := testFields ++ [180, 135]

/-- The bits of two runs of bytes are those of the first, then those of the second. -/
theorem bytesBits_append (a b : List Byte) : bytesBits (a ++ b) = bytesBits a ++ bytesBits b := by
  induction a with
  | nil => rfl
  | cons x xs ih => simp [bytesBits, ih]

/-- The CRC of the image of node 5, part by part; the first value is the check over bytes 0..61. -/
theorem test_image_crc : crcOfBytes testFields = 0xB487#16 := by
  have site : (bytesBits (0x31#8 :: siteBytes)).foldl crcStep 0xFFFF#16 = 0x5FC8#16 := by decide +kernel
  have loc : (bytesBits localBytes).foldl crcStep 0x5FC8#16 = 0x23ED#16 := by decide +kernel
  have low : (bytesBits lowChannelBytes).foldl crcStep 0x23ED#16 = 0x5DF9#16 := by decide +kernel
  have high : (bytesBits highChannelBytes).foldl crcStep 0x5DF9#16 = 0xB487#16 := by decide +kernel
  rw [crcOfBytes, crc16, testFields, bytesBits_append, bytesBits_append, bytesBits_append,
    List.foldl_append, List.foldl_append, List.foldl_append, site, loc, low, high]

/-- The fields of the image of node 5 stand at their bytes and lie in their ranges (R189). -/
theorem test_image_fields :
    testImage.length = 196 ∧ testImage.take 194 = testFields ∧ u8 testImage 0 = 0x31 ∧
    u16 testImage 194 = 0xB487 ∧ u8 testImage 62 = 0 ∧ imageFields testImage = testConfig ∧
    configValid testConfig = true := by decide +kernel

/-- The image of node 5 is valid and gives its configuration (R189). -/
theorem test_image : parseImage testImage = some testConfig := by
  obtain ⟨length, fields, format, crc, mode, config, valid⟩ := test_image_fields
  simp [parseImage, imageValid, imageLength, length, fields, format, crc, mode, config, valid, test_image_crc]

/-- The CRC alone decides: the same fields before another CRC are no valid image (R189, check 3). -/
theorem test_image_wrong_crc : parseImage (testFields ++ [180, 134]) = none := by
  have take : (testFields ++ [180#8, 134#8]).take 194 = testFields := by decide +kernel
  have crc : u16 (testFields ++ [180#8, 134#8]) 194 = 0xB486 := by decide +kernel
  simp [parseImage, imageValid, take, crc, test_image_crc]

/-- A region that lacks its last byte is no valid image (R189). -/
theorem test_image_short : parseImage (testImage.take 195) = none := by
  have length : (testImage.take 195).length = 195 := by decide +kernel
  simp only [parseImage, imageValid, length, imageLength]
  rfl

/-- The checks 4 to 8 on the fields of an image with one byte changed, from below a bound to above it (R189).
-/
theorem test_image_bounds :
    let ok (i : Nat) (v : Byte) := configValid (imageFields (testImage.set i v))
    (ok 1 2 = true ∧ ok 1 1 = false ∧ ok 1 8 = true ∧ ok 1 9 = false) ∧
    (ok 53 60 = true ∧ ok 53 61 = false ∧ ok 53 0 = false) ∧ (ok 61 5 = false ∧ ok 60 1 = false) ∧
    (ok 66 39 = true ∧ ok 66 40 = false) ∧ (ok 73 168 = true ∧ ok 73 169 = false) ∧
    (ok 9 79 = true ∧ ok 9 80 = false) ∧ (ok 83 0 = false) ∧
    (ok 100 0 = false ∧ ok 100 9 = false ∧ ok 190 0 = true) := by decide +kernel

/-- The cold reset samples the straps, and a wrong identity byte raises SENSOR-LOST (R3, R186). -/
theorem test_cold_reset :
    let u := nextOr node (exec (.coldReset 31 true 0x5B#8) node)
    u.rcp.stationId = 31 ∧ u.rcp.range16 = true ∧ active .sensorLost u = true ∧ u.phase = .readImage ∧
    u.rcp.readDue = some 200 ∧ u.nodeTime = 0 := by decide +kernel

/-- The default bit timing: 16 quanta of 8 clocks, 128 clocks a bit, sampled at the end of quantum 12 (R30).
-/
theorem test_bit_timing :
    quantumClocks defaultTiming = 8 ∧ bitQuanta defaultTiming = 16 ∧ bitClocks defaultTiming = 128 ∧
    samplePoint defaultTiming = 12 := by decide

/-- From the state after reset the queue's command is taken, and an empty queue without power idles. -/
theorem test_step_from_reset :
    nextOr node (step State.reset) = State.reset ∧
    (nextOr node (step { State.reset with pending := [.coldReset 5 true 0x5C#8] })).phase = .readImage := by
  decide +kernel

/-! ## Witnesses: the hypotheses of each statement are met, clause by clause -/

/-- The node time of the witnesses. -/
def now : Nat := 1000000

/-- Node 5 while it receives a frame. -/
def rx : State := { node with slc := { node.slc with line := .receiving, tSof := 999993 } }

/-- Node 5 with another Motion Processor. -/
def withMp (m : MotionState) : State := { node with mp := m }

/-- Node 5 in CLAIMING for restart stage 1, whose weight is `w`. -/
def claimingNode (w : Nat) (own : OwnClaim) : State :=
  { watchNode with
    zs := { watchNode.zs with st := .claiming, holdDue := none, stageWeight := w }
    icu := { ClaimState.reset with own := own, lastNumber := 1, weight := w, duration := 20 } }

/-- Node 5 in restart stage 2. -/
def restartNode : State :=
  { watchNode with
    zs := { watchNode.zs with
      st := .restarting, restartStage := some 2, nextRestart := 2, holdDue := none, inrushDue := some now } }

/-- Node 5 PAUSED with some causes. -/
def pausedNode (c : Causes) : State :=
  { watchNode with zs := { watchNode.zs with st := .paused, pause := c, holdDue := some now } }

/-- Node 5 with the fields of channel 4 changed. -/
def withChan (r : ChanRun) (s : State) : State := setChan 4 (some r) s

/-- A channel that waits for its acknowledgement until now. -/
def waiting (cmd : ChanCmd) : ChanRun :=
  { testRun cmd (cmd == .run) with conf := .pending, ackDue := some now, filterDue := some now }

/-- A raw level that reads "load shut" at channel 4. -/
def shutLevel (s : State) : State :=
  { s with pins := { s.pins with ackHigh := s.pins.ackHigh.set 4 true } }

theorem witness_StepTakesTheFrontCommand :
    ({ node with pending := [.lineIdle now] } : State).pending = .lineIdle now :: [] := by decide +kernel

theorem witness_IdleStepTicksOrTakesADueDeadline :
    (State.reset.pending = [] ∧ State.reset.phase = .powerUp) ∧
    (node.pending = [] ∧ node.phase ≠ .powerUp ∧ node.nodeTime ≤ maxNodeTime ∧ dueCommands node = []) ∧
    (dueCommands { node with nodeTime := maxNodeTime } = []) ∧
    (dueCommands watchNode ≠ []) ∧
    (let w := { node with rcp := { watchNode.rcp with closeWaits := true } }
     w.phase = .running ∧ w.pending = [] ∧ dueCommands w = [] ∧ w.rcp.closeWaits = true) ∧
    (let q := { node with slc := { node.slc with queue := [.status] } }
     q.pending = [] ∧ .transmitStart q.nodeTime ∈ dueCommands q) := by decide +kernel

theorem witness_SampleArithmeticStaysInRange :
    ((-32767 : Int) ≤ -32767 - 0 / 256 ∧ (32767 : Int) - 0 / 256 ≤ 32767) ∧
    ((-32767 : Int).natAbs ≤ 32767 ∧ (32767 : Int).natAbs ≤ 32767) ∧
    ((256 * 0 : Int) < 1) ∧ ((1 : Int) ≤ 256 * 1 ∧ (256 * 1 : Int) < 1 + 256) := by decide

theorem witness_MilliGConversion : testConfig.uci < milliG true 150 ∧ ¬testConfig.uci < milliG true 100 := by
  decide +kernel

theorem witness_EventGradeNeverDecreases :
    let m := zeroFigures node.mp
    m.pmg = milliG true m.peak ∧ m.grade = eventGrade testConfig m.pmg m.ci ∧ m.ci ≤ 4294967295 ∧
    configValid testConfig = true := by decide +kernel

theorem witness_SampleOutsideAnEvent :
    let ok (s : State) : Bool := decide (RunsAt now s) && !active .sensorLost s
    (ok (withMp { node.mp with det := .idle }) = true) ∧
    (ok (withMp { node.mp with det := .warmup }) = true) ∧
    (ok (withMp { node.mp with det := .warmup, warmupCount := 1023 }) = true ∧ 2 ^ testConfig.kl = 1023 + 1) ∧
    (ok node = true ∧ node.mp.det = .quiet ∧
      8 * average testConfig.ks (sampleU (sampleOf 0 0 0) node.mp) node.mp.sta <
        (testConfig.onsetRatio : Int) * max node.mp.lta (16 * (testConfig.lmin : Int))) ∧
    (let r (p : Phase) := raiseFault .sensorLost { withMp { node.mp with det := .idle, recovery := 399 } with phase := p }
     (r .readImage).phase = .readImage ∧ (r .readImage).nodeTime ≤ now ∧ now ≤ maxNodeTime ∧
     (r .readRecord).mp.det = .idle ∧ active .sensorLost (r .readRecord) = true ∧
     (r .readRecord).mp.recovery = 399) := by decide +kernel

theorem witness_OnsetOpensAnEvent :
    let s := withMp { node.mp with sta := 1581, lta := 334 }
    RunsAt now s ∧ s.mp.det = .quiet ∧ active .sensorLost s = false ∧ active .selftestFail s = false ∧
    (testConfig.onsetRatio : Int) * max s.mp.lta (16 * (testConfig.lmin : Int)) ≤
      8 * average testConfig.ks (sampleU (sampleOf 150 0 0) s.mp) s.mp.sta ∧
    queueOk s = true ∧ s.hm.mode = .armed ∧ configured s = true ∧ s.zs.st ≠ .unconfigured ∧
    (peer s (ownId s)).observation = none := by decide +kernel

theorem witness_EventSampleMovesOrEndsTheEvent :
    let s := withMp { node.mp with det := .event, inProgress := true, onsetTime := 0, endHold := 399, lta := 334 }
    RunsAt now s ∧ s.mp.det = .event ∧ active .sensorLost s = false ∧
    testConfig.endHold ≤ s.mp.endHold + 1 ∧ ¬testConfig.emax * 10000 ≤ now - s.mp.onsetTime ∧
    s.mp.grade < (addFigures testConfig true 150 150 s.mp).grade ∧ s.zs.st ≠ .unconfigured ∧
    queueOk s = true ∧ s.hm.mode = .armed ∧ active .selftestFail s = false ∧ configured s = true := by decide +kernel

theorem witness_SelfTestSamplesAndVerdict :
    let s (p : TestPart) (n k : Nat) (idle : Bool) : State :=
      withMp { node.mp with det := .masked, testPart := p, testCount := n, settleCount := k, testFromIdle := idle }
    let ok (s : State) : Bool := decide (RunsAt now s) && s.mp.det == .masked && !active .sensorLost s
    (ok (s .measuring 38 0 false) = true) ∧ (ok (s .passed 40 398 false) = true) ∧
    (ok (s .passed 40 399 false) = true) ∧ (ok (s .passed 40 399 true) = true) ∧
    (ok (s .failed 40 399 false) = true) ∧ (ok (s .aborted 20 399 true) = true) ∧
    (ok (s .measuring 39 0 false) = true ∧ active .selftestFail (s .measuring 39 0 false) = false) := by
  decide +kernel

theorem witness_SensorLossAndRecovery :
    let s (n : Nat) (d : DetState) : State :=
      withMp { node.mp with missingCount := n, missingDue := some now, det := d, inProgress := d == .event }
    (RunsAt now (s 38 .quiet)) ∧ (s 40 .idle).mp.missingCount ≤ 40 ∧ (s 40 .idle).mp.missingDue = some now ∧
    (RunsAt now (s 39 .event)) ∧ (measuring (s 39 .masked) = true) ∧
    (let r := raiseFault .sensorLost (withMp { node.mp with det := .idle, recovery := 399 })
     RunsAt now r ∧ active .sensorLost r = true ∧ r.mp.det = .idle) := by decide +kernel

theorem witness_SelfTestFallsDue :
    let s (d : DetState) : State := withMp { node.mp with det := d, testDue := some now }
    RunsAt now (s .quiet) ∧ (s .event).mp.det ≠ .quiet ∧
    (let f := raiseFault .selftestFail (s .idle)
     active .selftestFail f = true ∧ active .sensorLost f = false ∧ configured f = true) := by decide +kernel

theorem witness_LineStatesFollowTheLine :
    (node.phase = .running ∧ node.nodeTime ≤ now ∧ now ≤ maxNodeTime) ∧
    ({ node with phase := .readRecord } : State).phase = .readRecord := by decide +kernel

theorem witness_TransmitStartSendsTheFirstEntry :
    (let s := { node with slc := { node.slc with queue := [.status] } }
     RunsAt now s ∧ s.slc.queue = .status :: [] ∧ s.slc.line = .idle ∧ active .lineSuppressed s = false) ∧
    (RunsAt now rx ∧ rx.slc.line ≠ .idle) ∧ active .lineSuppressed (raiseFault .lineSuppressed node) = true ∧
    node.slc.queue = [] := by decide +kernel

/-- An attempt of node 5 with the fate and the tie given. -/
def attempt (tied : Bool) : Attempt :=
  { copy := { sender := 5, body := .claim { number := 1, weight := 5, duration := 20 } }, tSof := 999990
    fate := if tied then .removed else .unchanged, releaseTied := tied }

/-- A node that sends its CLAIM. -/
def sendingNode (tied : Bool) (score : Nat) (own : OwnClaim) : State :=
  { claimingNode 5 own with
    slc := { node.slc with
      line := .sending, score := score, inFlight := some (attempt tied)
      queue := if tied then [.release 1 .withdrawn] else [.claim 1 5 20] } }

theorem witness_AttemptThatFails :
    let s (tied : Bool) := sendingNode tied 119 .queued
    RunsAt now (s false) ∧ (s false).slc.line = .sending ∧ (s false).slc.inFlight = some (attempt false) ∧
    (s false).slc.score < 120 ∧ (s true).slc.inFlight = some (attempt true) ∧
    (attempt true).releaseTied = true := by decide +kernel

theorem witness_ErrorsRaiseTheScore :
    (RunsAt now rx ∧ rx.slc.line = .receiving ∧ rx.slc.score < 120) ∧
    (let s := { rx with slc := { rx.slc with score := 120 } }
     RunsAt now s ∧ s.slc.line = .receiving ∧ 120 ≤ s.slc.score) ∧
    (let s := sendingNode false 120 .queued
     RunsAt now s ∧ s.slc.line = .sending ∧ 120 ≤ s.slc.score) := by decide +kernel

theorem witness_FrameThatCompletes :
    let s := sendingNode false 10
    RunsAt now (s .queued) ∧ (s .queued).slc.line = .sending ∧ (s .queued).slc.inFlight = some (attempt false) ∧
    active .lineSuppressed (s .queued) = false ∧ (s .queued).icu.own = .queued ∧
    (s .queued).icu.lastNumber = 1 ∧ (s .none).icu.own ≠ .queued := by decide +kernel

theorem witness_PlaceKeepsTheQueue :
    queueOk node = true ∧
    queueOk { node with slc := { node.slc with
      queue := [.observe 1 .onset 0 0 0, .claim 1 1 1, .release 1 .withdrawn, .status] } } = true ∧
    (queueOk (sendingNode false 0 .queued) = true ∧
      (sendingNode false 0 .queued).slc.inFlight = some (attempt false) ∧ (attempt false).fate ≠ .removed ∧
      bodyClass (attempt false).copy.body = entryClass (.claim 2 5 20)) := by decide +kernel

theorem witness_LineDeadlinesAndConflict :
    (RunsAt now { node with slc := { node.slc with conflictDue := some now } }) ∧
    (RunsAt now { node with slc := { node.slc with statusDue := some now } }) ∧
    (frameArrival (.releaseFrame now 5 { number := 1, reason := .withdrawn }) = some (now, ownId rx) ∧
      (Instr.releaseFrame now 5 { number := 1, reason := .withdrawn }).wellFormed = true ∧
      RunsAt now rx ∧ rx.slc.line = .receiving ∧ active .lineSuppressed rx = false ∧
      active .lineIsolated rx = false) ∧
    (let i := raiseFault .lineIsolated rx
     let q (c : Causes) := raiseFault .lineIsolated { pausedNode c with slc := rx.slc }
     (RunsAt now i ∧ i.slc.line = .receiving ∧ active .lineIsolated i = true ∧ ownId i = 5) ∧
     (RunsAt now (q { noCauses with line := true }) ∧ lineUsable (q { noCauses with line := true }) = false ∧
      active .lineSuppressed (q { noCauses with line := true }) = false ∧
      (q { noCauses with line := true }).zs.st = .paused) ∧
     ({ (q { noCauses with line := true, console := true }).zs.pause with line := false } : Causes) ≠ noCauses ∧
     (9 : StationId) ≠ ownId i) ∧
    (let s (w : Nat) := { claimingNode w .queued with slc := { node.slc with heardDue := some now } }
     RunsAt now (s 5) ∧ (s 5).zs.st = .claiming ∧ lineUsable (s 5) = true ∧ (cfg (s 5)).a < (s 5).zs.stageWeight ∧
     (s 0).zs.stageWeight ≤ (cfg (s 0)).a ∧ (s 5).icu.own ≠ .inForce ∧ node.zs.st ≠ .claiming) := by decide +kernel

theorem witness_ValidFrameIsHeard :
    let c : Instr := .report now 9 { target := 5, argument := 0 }
    frameArrival c = some (now, 9) ∧ c.wellFormed = true ∧ RunsAt now rx ∧ rx.slc.line = .receiving ∧
    9 ≠ ownId rx ∧
    (let s := { rx with rcp := RecordState.reset, zs := SeqRecord.reset }
     configured s = false ∧ s.zs.st = .unconfigured ∧ RunsAt now s ∧ 9 ≠ ownId s) := by decide +kernel

theorem witness_FieldOutOfRangeIsAFormError :
    let c : Instr := .claimFrame now 9 { number := 1, weight := 0, duration := 20 }
    frameArrival c = some (now, 9) ∧ now ≤ maxNodeTime ∧ c.wellFormed = false := by decide +kernel

theorem witness_FrameSurvivesTheLine :
    frameInRange { sender := 5, body := .status (composeStatus node) } = true := by decide +kernel

/-- A frame of station 9 or of station 30 can reach node 5. -/
def mayReceive (i : StationId) (s : State) : Bool :=
  decide (RunsAt now s) && s.slc.line == .receiving && i != ownId s && configured s

theorem witness_OnsetReconstruction :
    (65535 : Nat) = 65535 ∧ (65534 : Nat) ≠ 65535 ∧ mayReceive 9 rx = true ∧ rx.slc.tSof ≤ now ∧ (peer rx 9).observation = none ∧
    observeInRange { event := 255, phase := .ended, age := 65535, peak := 32767, grade := 4 } = true := by
  decide +kernel

theorem witness_ObserveIsStored :
    let s := setPeer 9 (testEntry 3 999378 1) rx
    let m := { rx with mp := { rx.mp with det := .masked, testPart := .measuring } }
    mayReceive 9 s = true ∧ (peer s 9).observation = (testEntry 3 999378 1).observation ∧
    mayReceive 9 rx = true ∧ (peer rx 9).observation = none ∧ rx.zs.st ≠ .unconfigured ∧
    (mayReceive 9 m = true ∧ m.mp.det = .masked ∧ m.mp.testPart = .measuring) ∧ rx.mp.det ≠ .masked := by
  decide +kernel

theorem witness_SummariesAreCompared :
    (mayReceive 9 rx = true ∧ statusInRange (composeStatus node) = true) ∧
    (let s := setPeer 9 { testEntry 3 999378 1 with
       presence := .silent, silenceDue := none, summary := some { sequencer := .running, digest := 7 } } rx
     RunsAt now s ∧ s.slc.line = .receiving ∧ 9 ≠ ownId s ∧ (peer s 9).presence = .silent ∧
     (peer s 9).summary = some { sequencer := .running, digest := 7 }) ∧
    (let s := setPeer 9 { testEntry 3 999378 1 with silenceDue := some now } node
     RunsAt now s ∧ (peer s 9).presence = .present ∧ (peer s 9).silenceDue = some now) := by decide +kernel

theorem witness_CountedSetAndItsWindow :
    let s := setPeer 9 { testEntry 3 979999 1 with windowDue := some now } node
    RunsAt now s ∧ configured s = true ∧ (peer s 9).windowDue = some now ∧
    (countedSet (s.setNodeTime now)).length < (cfg s).k := by decide +kernel

theorem witness_VoteAndSoloTests :
    (node.phase = .running ∧ configured node = true ∧ (countedSet node).length < (cfg node).k) ∧
    ((cfg voteNode).k ≤ (countedSet voteNode).length ∧ voteNode.vtu.armed = true) ∧
    (let d := { voteNode with vtu := { voteNode.vtu with armed := false } }
     (cfg d).k ≤ (countedSet d).length ∧ d.vtu.armed = false) ∧
    (let e := withMp { node.mp with det := .event, inProgress := true, grade := 3 }
     e.mp.inProgress = true ∧ (cfg e).gsolo ≤ e.mp.grade) ∧ node.mp.inProgress = false := by decide +kernel

theorem witness_TripByModeAndFlag :
    (let ok (s : State) : Bool := s.phase == .running && configured s && s.vtu.armed && s.hm.mode == .armed &&
       queueOk s && s.zs.st != .unconfigured && holdsAboveZero (cfg s)
     ok voteNode = true ∧ (∃ i ∈ countedSet voteNode, (peer voteNode i).observation.isSome = true) ∧
     ok { watchNode with vtu := { watchNode.vtu with armed := true } } = true ∧
     ok { claimingNode 5 .queued with vtu := node.vtu } = true ∧
     (let s := { node with zs := { node.zs with st := .shutting, stage := some 1 } }
      ok s = true)) ∧
    (let s := { voteNode with hm := { voteNode.hm with mode := .listen } }
     s.phase = .running ∧ configured s = true ∧ s.vtu.armed = true ∧ s.hm.mode = .listen) ∧
    watchNode.vtu.armed = false := by decide +kernel

theorem witness_TripFrameIsFollowed :
    let p : TripPayload := { own := .vote, origin := .console, votes := 32, grade := 4, age := 65535 }
    let ok (s : State) : Bool := mayReceive 9 s && tripInRange p && queueOk s && timesOk s &&
      s.zs.st != .unconfigured && holdsAboveZero (cfg s)
    (ok rx = true ∧ rx.vtu.armed = true ∧ rx.hm.mode = .armed) ∧
    (ok { rx with hm := { rx.hm with mode := .listen } } = true) ∧
    (ok { rx with vtu := { rx.vtu with armed := false }, rcp := { rx.rcp with record := watchNode.rcp.record } } = true) ∧
    (ok { pausedNode { noCauses with line := true } with slc := rx.slc } = true ∧
      lineUsable (pausedNode { noCauses with line := true }) = true) ∧
    (ok { rx with mp := { rx.mp with det := .masked, testPart := .measuring } } = true) := by decide +kernel

theorem witness_TripWireEdges :
    let s (w : WireState) (d : DetState) : State :=
      { withMp { node.mp with det := d, testPart := .measuring } with vtu := { node.vtu with wire := w } }
    RunsAt now (s .released .quiet) ∧ measuring (s .released .quiet) = false ∧
    measuring (s .released .masked) = true ∧ (s .stuck .quiet).vtu.wire ≠ .released ∧
    (s .rising .quiet).vtu.wire ≠ .stuck := by decide +kernel

theorem witness_VoteUnitDeadlines :
    let s (w : WireState) (armed : Bool) (m : Mode) : State :=
      { node with
        hm := { node.hm with mode := m }
        vtu := { node.vtu with
          wire := w, armed := armed, confirmDue := some now, stuckDue := some now, rearmDue := some now
          driving := true, driveDue := some now } }
    let ok (s : State) : Bool := decide (RunsAt now s) && queueOk s && timesOk s && s.zs.st != .unconfigured &&
      configured s && holdsAboveZero (cfg s)
    ok (s .rising true .armed) = true ∧ ok (s .rising true .listen) = true ∧ ok (s .rising false .armed) = true ∧
    ok (s .asserted false .armed) = true ∧ (s .asserted false .armed).vtu.driving = true := by decide +kernel

theorem witness_AcknowledgeInputIsFiltered :
    RunsAt now node ∧ (chanCfg node 0).ackUsed = true ∧ chan node 0 = some (testRun .run false) ∧
    rawAck node 0 = false ∧
    (let s := setChan 0 (some { testRun .run false with filterDue := some now }) (shutLevel node)
     let q := { s with pins := { s.pins with ackHigh := s.pins.ackHigh.set 0 true } }
     rawAck q 0 ≠ false ∧ (chan q 0).map (fun r => r.readsShut) = some false) ∧
    (let q := setChan 0 (some { testRun .run false with filterDue := some now }) node
     RunsAt now q ∧ rawAck q 0 ≠ true ∧ (true != (chanCfg q 0).inverted) ≠ (testRun .run false).readsShut ∧
     chan q 0 = some { testRun .run false with filterDue := some now }) ∧
    (chanCfg node 2).ackUsed = false ∧ chan node 5 = none := by decide +kernel

theorem witness_StageCommandChangesNamedChannels :
    (0 : Channel) ∉ [(4 : Channel)] ∧ chan node 5 = none ∧ chan node 4 = some (testRun .run false) ∧
    (testRun .run false).cmd ≠ .shut ∧ (testRun .run false).cmd = .run := by decide +kernel

theorem witness_FilteredInputChange :
    let calm := withChan (waiting .shut) (shutLevel node)
    let busy := { calm with zs := { calm.zs with st := .shutting, stage := some 2, shutPending := [0, 4] } }
    let same := withChan (waiting .shut) node
    RunsAt now calm ∧ chan calm 4 = some (waiting .shut) ∧ (waiting .shut).filterDue = some now ∧
    (rawAck calm 4 != (chanCfg calm 4).inverted) ≠ (waiting .shut).readsShut ∧
    (rawAck same 4 != (chanCfg same 4).inverted) = (waiting .shut).readsShut ∧
    calm.zs.st = .running ∧ RunsAt now busy ∧ (waiting .shut).conf = .pending ∧
    (rawAck busy 4 != (chanCfg busy 4).inverted) = decide ((waiting .shut).cmd = .shut) := by decide +kernel

/-- The last confirmation of a shutdown stage before another stage, and of the last one. That of a restart
stage, with and without a cause held back. The change in PAUSED that makes a pre-check pass, and one that
does not. -/
theorem witness_FilteredInputChange_ends :
    let last (k : Nat) := { withChan (waiting .shut) (shutLevel node) with
      zs := { node.zs with st := .shutting, stage := some k, acted := true, shutPending := [4], ta := now } }
    let run (p : List Channel) (h : Causes) := { withChan (waiting .run) restartNode with
      zs := { restartNode.zs with runPending := p, held := h, inrushDue := none } }
    let paused (c : Causes) := withChan (waiting .shut) (shutLevel { pausedNode c with
      zs := { (pausedNode c).zs with checkedStage := some 3 } })
    let p := paused { noCauses with precheck := true }
    RunsAt now (last 1) ∧ (last 1).zs.shutPending = [4] ∧ (chan (last 1) 8).isSome = true ∧
    (chanCfg (last 1) 8).shutdownStage = 4 ∧ (last 5).zs.stage = some 5 ∧
    allStages.all (fun j => decide (j ≤ 5) || !stageHasChannels (last 5) j) = true ∧
    now < (last 5).zs.ta + holdSeconds (cfg (last 5)) (last 5).zs.grade * 10000 ∧
    RunsAt now (run [4] noCauses) ∧ (waiting .run).conf = .pending ∧ (waiting .run).filterDue = some now ∧
    (rawAck (run [4] noCauses) 4 != (chanCfg (run [4] noCauses) 4).inverted) = decide ((waiting .run).cmd = .shut) ∧
    (waiting .run).readsShut = true ∧ (run [0, 4] noCauses).zs.runPending ≠ [4] ∧
    (run [4] { noCauses with console := true }).zs.held ≠ noCauses ∧
    RunsAt now p ∧ p.zs.st = .paused ∧ precheck 3 p = false ∧
    precheck 3 (setChan 4 (some { waiting .shut with readsShut := true }) p) = true ∧
    (paused { noCauses with precheck := true, console := true }).zs.pause ≠ p.zs.pause ∧
    (paused { noCauses with console := true }).zs.pause.precheck = false := by decide +kernel

theorem witness_AcknowledgeTimesOut :
    let calm := withChan (waiting .shut) node
    let shutting := { calm with zs := { calm.zs with st := .shutting, stage := some 2, acted := true, shutPending := [4] } }
    let restart := withChan (waiting .run) { restartNode with zs := { restartNode.zs with runPending := [0, 4] } }
    RunsAt now calm ∧ chan calm 4 = some (waiting .shut) ∧ calm.zs.st = .running ∧
    RunsAt now shutting ∧ (chan shutting 8).isSome = true ∧ (chanCfg shutting 8).shutdownStage = 4 ∧
    RunsAt now restart ∧ chan restart 4 = some (waiting .run) ∧ restart.zs.restartStage.isSome = true ∧
    (let last := { shutting with zs := { shutting.zs with stage := some 5, ta := now } }
     RunsAt now last ∧ chan last 4 = some (waiting .shut) ∧
     allStages.all (fun j => decide (j ≤ 5) || !stageHasChannels last j) = true ∧
     now < last.zs.ta + holdSeconds (cfg last) last.zs.grade * 10000) := by decide +kernel

theorem witness_GapBeginsTheNextStage :
    let s (k : Nat) : State :=
      { node with zs := { node.zs with st := .shutting, currentStage := k, gapDue := some now, ta := now } }
    RunsAt now (s 1) ∧ now < (s 1).zs.ta + holdSeconds (cfg (s 1)) (s 1).zs.grade * 10000 ∧
    (chanCfg (s 1) 2).shutdownStage = 2 ∧ (chan (s 1) 2).isSome = true ∧
    pendingFor .shut (nextOr (s 1) (exec (.gapDeadline now) (s 1))) 4 = true ∧
    (stageHasChannels (s 2) 3 = false ∧ stageHasChannels (s 2) 4 = true) ∧
    (allStages.all (fun k => decide (k ≤ 5) || !stageHasChannels (s 5) k) = true) ∧
    (stageHasChannels (s 4) 5 = true ∧
      pendingSet [9] .shut (nextOr (s 4) (exec (.gapDeadline now) (s 4))) = []) ∧
    (let n := { s 1 with cd := { runs := (testChans .run).runs.set 4 none } }
     pendingSet [2, 3] .shut (nextOr n (exec (.gapDeadline now) n)) = []) := by decide +kernel

theorem witness_ActivityReport :
    let ok (s : State) : Bool := s.zs.st != .unconfigured && decide (s.zs.ta ≤ s.nodeTime) && holdsAboveZero (cfg s)
    let early (s : State) : State := { s with zs := { s.zs with ta := 0 } }
    (ok (early watchNode) = true ∧ (early watchNode).zs.ta < (early watchNode).nodeTime ∧ watchNode.rcp.record.isOpen = true) ∧
    ok { watchNode with zs := { watchNode.zs with st := .awaitPermit } } = true ∧
    ok { node with zs := { node.zs with st := .starting } } = true ∧ ok (claimingNode 5 .queued) = true ∧
    ok restartNode = true ∧
    ok { restartNode with zs := { restartNode.zs with restartStage := none, restartGap := some now } } = true ∧
    ok (pausedNode { noCauses with console := true }) = true ∧ ok node = true := by decide +kernel

theorem witness_HoldDeadline :
    let ok (s : State) : Bool := decide (RunsAt now s) && s.zs.holdDue == some now
    (let g := { watchNode with zs := { watchNode.zs with grade := 4 } }
     ok g = true ∧ (cfg g).gpermit ≤ g.zs.grade) ∧
    (ok watchNode = true ∧ watchNode.zs.grade < (cfg watchNode).gpermit ∧ watchNode.rcp.record.permit = false) ∧
    ok (pausedNode { noCauses with aftershock := true, console := true }) = true ∧
    ok (pausedNode { noCauses with aftershock := true }) = true := by decide +kernel

theorem witness_WaitsBeginAStage :
    RunsAt now { node with zs := { node.zs with st := .starting, startDue := some now } } ∧
    RunsAt now { restartNode with zs := { restartNode.zs with restartStage := none, restartGap := some now } } ∧
    (let p (c : Causes) := { pausedNode c with zs := { (pausedNode c).zs with resetDue := some now } }
     RunsAt now (p { noCauses with reset := true }) ∧
     (p { noCauses with reset := true }).zs.pause = { noCauses with reset := true } ∧
     RunsAt now (p { noCauses with reset := true, line := true })) := by decide +kernel

theorem witness_InrushListAndDeadlines :
    mayReceive 9 rx = true ∧ claimInRange { number := 255, weight := 65535, duration := 6000 } = true ∧
    releaseInRange { number := 255, reason := .aborted } = true ∧
    (let e : InrushEntry := { station := 9, number := 1, weight := 30, completion := 0, expiry := now }
     let s := { node with icu := { node.icu with list := [e] } }
     RunsAt now s ∧ 9 ≠ ownId s ∧ e ∈ s.icu.list ∧ e.expiry ≤ now) ∧
    RunsAt now { node with icu := { node.icu with own := .inForce, ownExpiry := some now } } ∧
    RunsAt now { node with icu := { node.icu with own := .backoff, backoffDue := some now } } := by decide +kernel

theorem witness_ClaimVerdict :
    let mine : InrushEntry := { station := 5, number := 1, weight := 60, completion := 999500, expiry := 1019500 }
    let s (w : Nat) (err : Bool) : State :=
      let c := claimingNode 60 .settling
      { c with icu := { c.icu with
          settleDue := some now, settleError := err
          list := [{ station := 7, number := 1, weight := w, completion := 0, expiry := 2000000 }, mine] } }
    RunsAt now (s 40 false) ∧ (s 40 false).zs.st = .claiming ∧ 40 + 60 ≤ (cfg (s 40 false)).b ∧
    (cfg (s 41 false)).b < 41 + 60 ∧ (s 40 true).icu.settleError = true ∧
    RunsAt now { s 40 false with zs := node.zs } := by decide +kernel

theorem witness_ClaimEndedEarly :
    let s (own : OwnClaim) (q : List TxEntry) (a : Option Attempt) : State :=
      { claimingNode 5 own with slc := { node.slc with queue := q, inFlight := a } }
    queueOk (s .queued [.claim 1 5 20] none) = true ∧
    holdsClaim 1 (s .queued [.claim 1 5 20] none).slc.queue = true ∧
    classInFlight 2 (s .queued [.claim 1 5 20] none).slc.inFlight = false ∧
    classInFlight 2 (some (attempt false)) = true ∧ holdsClaim 1 (s .settling [] none).slc.queue = false ∧
    (s .backoff [] none).icu.own = .backoff ∧ (s .inForce [] none).icu.own = .inForce ∧
    node.icu.own = .none := by decide +kernel

theorem witness_RestartStageBegins :
    let held := { watchNode with zs := { watchNode.zs with consoleHold := true } }
    let resetting := { watchNode with zs := { watchNode.zs with resetDue := some now } }
    let cut := raiseFault .lineIsolated watchNode
    let free (s : State) : Bool := !s.zs.consoleHold && s.zs.resetDue.isNone
    held.zs.consoleHold = true ∧ (resetting.zs.consoleHold = false ∧ resetting.zs.resetDue.isSome = true) ∧
    (free watchNode = true ∧ shutInRestart 1 watchNode = [8] ∧ precheck 1 watchNode = true ∧
      weightOfStage 1 watchNode = 5 ∧ lineUsable watchNode = true) ∧
    (free cut = true ∧ lineUsable cut = false ∧ (cfg cut).a < weightOfStage 1 cut) ∧
    (let w := setChan 8 none (setChan 9 (some (testRun .shut true)) { watchNode with
       rcp := { watchNode.rcp with config := some { testConfig with b := 0 } } })
     free w = true ∧ weightOfStage 4 w = 0) ∧
    (let f := setChan 8 (some (testRun .shut false)) watchNode
     free f = true ∧ precheck 1 f = false ∧ f.zs.waiver ≠ some 1) ∧
    (let d := { watchNode with cd := testChans .run }
     free d = true ∧ allStages.all (fun r => (shutInRestart r d).isEmpty) = true ∧
     d.rcp.lastTripReq ≠ some d.nodeTime ∧
     d.rcp.record.isOpen = true ∧
     ({ d with rcp := { d.rcp with lastTripReq := some now } } : State).rcp.lastTripReq = some now) := by
  decide +kernel

theorem witness_RestartStageEnds :
    let s (p : List Channel) (h : Causes) : State :=
      { restartNode with zs := { restartNode.zs with runPending := p, held := h } }
    let last := withChan (waiting .run) { s [4] noCauses with zs := { (s [4] noCauses).zs with inrushDue := none } }
    RunsAt now (s [4] noCauses) ∧ (s [4] noCauses).zs.restartStage = some 2 ∧
    (s [] noCauses).zs.unconfMark = false ∧ (s [] noCauses).zs.inrushDue = some now ∧
    (s [] { noCauses with console := true }).zs.held ≠ noCauses ∧
    RunsAt now last ∧ chan last 4 = some (waiting .run) ∧ last.zs.runPending = [4] ∧ last.zs.inrushDue = none := by
  decide +kernel

theorem witness_RecordTakesRequests :
    TripRecord.blank ≠ watchNode.rcp.record ∧ watchNode.rcp.lastTripReq ≠ some watchNode.nodeTime ∧
    ({ watchNode with rcp := { watchNode.rcp with lastTripReq := some now } } : State).rcp.lastTripReq =
      some watchNode.nodeTime ∧
    (let w := { watchNode with rcp := { watchNode.rcp with closeWaits := true } }
     w.phase = .running ∧ w.rcp.closeWaits = true ∧ w.rcp.record.isOpen = true ∧
     commandTime (.lineIdle (now + 1)) = some (now + 1) ∧ w.nodeTime < now + 1 ∧ now + 1 ≤ maxNodeTime) := by
  decide +kernel

theorem witness_RecordIsWritten :
    let s (retry : Bool) : State :=
      { watchNode with rcp := { watchNode.rcp with writeInFlight := true, attemptDue := some now, retry := retry } }
    RunsAt now (s false) ∧ (s false).rcp.writeInFlight = true ∧ (s false).rcp.attemptDue = some now ∧
    (s true).rcp.retry = true ∧ (s false).rcp.failedAt ≠ some now ∧
    ({ s true with rcp := { (s true).rcp with failedAt := some now } } : State).rcp.failedAt = some now := by
  decide +kernel

theorem witness_RecordSurvivesTheMemory :
    let r := { TripRecord.blank with sequence := 65535, votes := 32, grade := 4, count := 255, stations := [0, 31] }
    r.sequence ≤ 65535 ∧ r.votes ≤ 32 ∧ r.grade ≤ 4 ∧ r.count ≤ 255 ∧
    ascending (r.stations.map (fun i => i.val)) = true := by decide +kernel

/-- A part that reads its image or its record, and can still complete the read now. -/
def readingNode (p : Phase) (retry : Bool) : State :=
  { State.reset with
    phase := p, nodeTime := 100
    rcp := { RecordState.reset with
      stationId := 5, readDue := some 100, readRetry := retry
      config := if p = .readRecord then some testConfig else none } }

theorem witness_ColdResetAndImage :
    (let s := readingNode .readImage false
     s.phase = .readImage ∧ s.nodeTime ≤ 100 ∧ 100 ≤ maxNodeTime ∧ s.rcp.readDue = some 100) ∧
    parseImage testImage = some testConfig ∧ parseImage [] = none ∧
    (readingNode .readRecord false).rcp.readRetry = false ∧
    (readingNode .readImage true).rcp.readRetry = true ∧ (readingNode .readRecord true).rcp.readRetry = true :=
  ⟨by decide +kernel, test_image, by decide +kernel, by decide +kernel, by decide +kernel, by decide +kernel⟩

theorem witness_ColdStartEnds :
    let s (c : Option NodeConfig) (asserted : Bool) : State :=
      let b := readingNode .readRecord false
      { b with rcp := { b.rcp with config := c }, pins := { b.pins with resetAsserted := asserted } }
    let ok (s : State) : Bool := s.phase == .readRecord && decide (s.nodeTime ≤ 100) && s.rcp.readDue == some 100 &&
      decide (s.vtu = VoteState.reset) && decide (s.zs = SeqRecord.reset) && !s.mp.inProgress &&
      decide (s.cd = ChannelState.reset)
    ok (s (some testConfig) true) = true ∧ ok (s (some testConfig) false) = true ∧ ok (s none false) = true ∧
    ok (s (some { testConfig with startMode := .listen }) false) = true ∧
    holdsAboveZero testConfig = true ∧ 0 < testConfig.k ∧ parseRecord [] = none ∧
    (parseRecord (recordBytes TripRecord.blank) = some TripRecord.blank) ∧
    (testChannel .permit false 2 2 20 30).kind = .permit ∧
    ok (s (some { testConfig with channels := Vector.replicate 16 defaultChannel }) false) = true := by
  decide +kernel

theorem witness_WarmResetBegins :
    (node.nodeTime ≤ now ∧ now ≤ maxNodeTime ∧ node.phase = .running ∧ node.rcp.closeWaits = false) ∧
    (let w := { node with rcp := { watchNode.rcp with closeWaits := true } }
     w.phase = .running ∧ w.rcp.closeWaits = true ∧ now = w.nodeTime) ∧
    (readingNode .readImage false).phase = .readImage := by decide +kernel

/-- Node 5 in a warm reset, in a state of the sequencer. -/
def resetNode (s : State) : State := { s with phase := .warmReset }

theorem witness_WarmResetEnds :
    (node.phase = .running ∧ node.nodeTime ≤ now ∧ now ≤ maxNodeTime) ∧
    (resetNode watchNode).phase = .warmReset ∧ configured (resetNode watchNode) = true ∧
    now < watchNode.zs.ta + holdSeconds (cfg watchNode) watchNode.zs.grade * 10000 ∧
    (chan (resetNode watchNode) 4 = some (testRun .shut true) ∧ (chanCfg watchNode 4).ackUsed = true ∧
      (chanCfg watchNode 2).ackUsed = false) ∧
    (resetNode { node with rcp := { node.rcp with writeInFlight := true } }).rcp.writeInFlight = true ∧
    node.rcp.writeInFlight = false ∧
    (resetNode { node with zs := { node.zs with st := .starting } }).zs.st = .starting ∧
    (let g := resetNode { node with zs := { node.zs with st := .shutting, gapDue := some 0, currentStage := 1 } }
     g.phase = .warmReset ∧ g.zs.stage = none ∧ configured g = true) ∧
    (resetNode (pausedNode { noCauses with reset := true, line := true })).zs.pause.reset = true := by decide +kernel

theorem witness_CommandIsRefused :
    let c (target : Nat) : Instr := .report now 9 { target := target, argument := 0 }
    commandFrame (c 255) = some (8, now, 9, { target := 255, argument := 0 }) ∧ (c 255).wellFormed = true ∧
    mayReceive 9 rx = true ∧ inConsoleSet rx 9 = false ∧ (5 : Nat) = (ownId rx).val ∧ (6 : Nat) ≠ (ownId rx).val := by
  decide +kernel

/-- Node 5 while it receives a frame, from another state. -/
def rxOf (s : State) : State := { s with slc := rx.slc }

theorem witness_CommandIsTaken :
    let h (s : State) : State := heardFrame now 30 (rxOf s)
    let ok (s : State) : Bool := mayReceive 30 (rxOf s) && inConsoleSet s 30
    modeCommandInRange { target := 5, argument := 1 } = true ∧ (5 : Nat) = (ownId node).val ∧
    (let a := { watchNode with zs := { watchNode.zs with st := .awaitPermit } }
     ok a = true ∧ (h a).zs.st = .awaitPermit) ∧
    (ok node = true ∧ (h node).zs.st ≠ .awaitPermit ∧ (h node).hm.mode = .armed ∧ (h node).vtu.armed = true ∧
      (h node).mp.det = .quiet ∧ (h node).zs.st = .running ∧ (h node).mp.det ≠ .event) ∧
    (ok watchNode = true ∧ (h watchNode).vtu.armed = false ∧ (h watchNode).zs.st ≠ .running) ∧
    (let e := withMp { node.mp with det := .event }
     ok e = true ∧ (h e).mp.det = .event) ∧
    (let l := { node with hm := { node.hm with mode := .listen } }
     ok l = true ∧ (h l).hm.mode = .listen ∧ (h l).vtu.driving = false ∧ (h l).slc.queue = []) := by decide +kernel

theorem witness_HoldAndResume :
    let h (s : State) : State := heardFrame now 30 (rxOf s)
    let ok (s : State) : Bool := mayReceive 30 (rxOf s) && inConsoleSet s 30
    (ok (claimingNode 5 .queued) = true ∧ (h (claimingNode 5 .queued)).zs.st = .claiming ∧
      (h (claimingNode 5 .queued)).icu.own ≠ .inForce) ∧
    (ok restartNode = true ∧ (h restartNode).zs.restartStage.isSome = true ∧ (h restartNode).zs.st = .restarting) ∧
    (let g := { restartNode with zs := { restartNode.zs with restartStage := none, restartGap := some 1020000 } }
     ok g = true ∧ (h g).zs.restartStage = none) ∧
    (let p := pausedNode { noCauses with console := true }
     ok p = true ∧ (h p).zs.st = .paused ∧ (h p).zs.pause = { noCauses with console := true }) ∧
    (ok (pausedNode { noCauses with aftershock := true }) = true ∧ ok node = true ∧ (h node).zs.st = .running) := by
  decide +kernel

theorem witness_AckFaults :
    mayReceive 30 rx = true ∧ inConsoleSet rx 30 = true ∧ mayReceive 9 rx = true ∧ inConsoleSet rx 9 = false ∧
    commandInRange { target := 255, argument := 0 } = true ∧ active .selftestAborted rx = false := by
  decide +kernel

theorem witness_LinePromisesAreKept :
    let s := { sendingNode false 120 .queued with pending := [.bitError now] }
    (∃ u, step s = .next u) ∧ queueOk s = true ∧ scoreOk s = true ∧ sendingOk s = true :=
  ⟨⟨_, rfl⟩, by decide +kernel⟩

theorem witness_FaultsClaimsAndTimesAreKept :
    let s := { claimingNode 5 .queued with pending := [.warmReset now] }
    (∃ u, step s = .next u) ∧ faultsOk s = true ∧ claimsOk s = true ∧ timesOk s = true ∧
    healthOk s = true ∧ startOk s = true ∧ closeOk { s with rcp := { s.rcp with closeWaits := true } } = true ∧
    s.hm.healthy = true ∧ resetNode { s with hm := { s.hm with healthy := false } } ≠ s :=
  ⟨⟨_, rfl⟩, by decide +kernel⟩

theorem witness_MotionPromisesAreKept :
    let s := { node with pending := [.dataReady now 300 0 0] }
    (∃ u, step s = .next u) ∧ averagesOk s = true ∧ detectorOk s = true :=
  ⟨⟨_, rfl⟩, by decide +kernel⟩

theorem witness_ZonePromisesAreKept :
    let s := { watchNode with pending := [.holdDeadline now] }
    (∃ u, step s = .next u) ∧ startOk s = true ∧ causesOk s = true ∧ shedOk s = true :=
  ⟨⟨_, rfl⟩, by decide +kernel⟩

/-- The states of the tests meet every promise. -/
theorem test_states_are_safe :
    safe node = true ∧ safe watchNode = true ∧ safe (claimingNode 5 .queued) = true ∧ safe restartNode = true := by
  decide +kernel

theorem witness_ListenStaysQuiet :
    let s := { node with hm := { node.hm with mode := .listen }, pending := [.statusPeriod now] }
    s.hm.mode = .listen ∧ (nextOr node (step s)).hm.mode = .listen ∧ startOk s = true ∧ listenQuiet s = true ∧
    s.phase = .running ∧ s.pending = .statusPeriod now :: [] ∧
    (let h := heardFrame now 30 rx
     mayReceive 30 rx = true ∧ inConsoleSet rx 30 = true ∧ h.zs.st = .running ∧ h.mp.det ≠ .event ∧
     h.vtu.driving = false ∧ h.hm.mode = .armed ∧ h.slc.queue = [] ∧ h.icu.own = .none) := by decide +kernel

end Sys2Proof.Machine
end

/-! The conversion to milli-g (R12): one equation per strap, and the two figures of step 8 that it feeds. -/

namespace Sys2Proof.Machine

theorem milliG_true (n : Nat) : milliG true n = n * 125 / 256 := rfl

theorem milliG_false (n : Nat) : milliG false n = n * 125 / 1024 := rfl

@[simp] theorem addFigures_pmg (c : NodeConfig) (strap : Bool) (h u : Nat) (m : MotionState) :
    (addFigures c strap h u m).pmg = milliG strap (max m.peak h) := rfl

@[simp] theorem addFigures_ci (c : NodeConfig) (strap : Bool) (h u : Nat) (m : MotionState) :
    (addFigures c strap h u m).ci = nextCi c.uci (milliG strap u) m.ci := rfl

/-- CI takes what the sample has above Uci, up to the saturation, and nothing otherwise (R17). -/
theorem nextCi_eq (uci uMg ci : Nat) :
    nextCi uci uMg ci = if uci < uMg then min 4294967295 (ci + (uMg - uci)) else ci := rfl

/-- Settles O4: the equations of the two straps, their values at the largest amplitude, and the figures of
step 8. -/
theorem milliGConversion : Obligations.MilliGConversion := by
  unfold Obligations.MilliGConversion
  refine ⟨fun n => ⟨milliG_true n, milliG_false n⟩, ?largest16, ?largest4, fun c strap h u m => ⟨?peak, ?ci⟩⟩
  case largest16 => exact milliG_true 49150
  case largest4 => exact milliG_false 49150
  case peak => exact addFigures_pmg c strap h u m
  case ci => rw [addFigures_ci, nextCi_eq]

end Sys2Proof.Machine

/-! The counted set and a vote that stays below K (R71, R73, R75, R84). -/

namespace Sys2Proof.Machine

theorem allStations_ascending : allStations.Pairwise (fun i j => i < j) := by decide

theorem mem_allStations (i : StationId) : i ∈ allStations := by
  revert i
  decide

theorem countedSet_ascending (s : State) : (countedSet s).Pairwise (fun i j => i < j) :=
  allStations_ascending.filter _

theorem countedSet_length_le (s : State) : (countedSet s).length ≤ 32 :=
  List.length_filter_le _ _

theorem mem_countedSet (s : State) (i : StationId) : i ∈ countedSet s ↔ counted s i = true := by
  simp [countedSet, mem_allStations]

theorem excluded_eq_false (s : State) :
    excluded s = false ↔ active .sensorLost s = false ∧ active .selftestFail s = false := by
  simp [excluded]

/-- An entry is counted if its onset is known and within the window, and it is not the own entry while own
observations are excluded (R70, R71). -/
theorem counted_iff (s : State) (i : StationId) : counted s i = true ↔
    (∃ o on, (peer s i).observation = some o ∧ o.onset = some on ∧ s.nodeTime ≤ on + (cfg s).w) ∧
      (i = ownId s → excluded s = false) := by
  unfold counted
  cases hobs : (peer s i).observation with
  | none => simp
  | some o =>
    cases hon : o.onset with
    | none => simp [hon]
    | some on => by_cases hown : i = ownId s <;> simp [hon, hown]

/-- `s` without the window deadline of a station, as its falling due leaves the Peer View (R72). -/
def dropWindow (i : StationId) (s : State) : State := setPeer i { peer s i with windowDue := none } s

theorem observation_dropWindow (i j : StationId) (s : State) :
    (peer (dropWindow i s) j).observation = (peer s j).observation := by
  unfold dropWindow
  by_cases h : i = j
  · subst h; rw [peer_setPeer_same]
  · rw [peer_setPeer_other h]

/-- Membership does not read a window deadline. -/
theorem countedSet_dropWindow (i : StationId) (s : State) :
    countedSet (dropWindow i s) = countedSet s := by
  refine List.filter_congr fun j _ => ?_
  unfold counted
  rw [observation_dropWindow]
  rfl

/-- An arming evaluation of a working node sets the flag if the conditions hold and else leaves it (R84). -/
theorem armingEval_working {s : State} (h : working s = true) :
    armingEval s = s.setVtu { s.vtu with armed := s.vtu.armed || mayArm s } := by
  have hkeep : s = s.setVtu { s.vtu with armed := s.vtu.armed } := rfl
  unfold armingEval
  cases ha : s.vtu.armed with
  | true => simpa [ha] using hkeep
  | false =>
    cases mayArm s with
    | true => simp [h]
    | false => simpa [ha] using hkeep

/-- A vote test below K takes V and is an arming evaluation (R75, R84). -/
theorem voteTest_below {s : State} (hw : working s = true) (hk : (countedSet s).length < (cfg s).k) :
    voteTest s = s.setVtu { s.vtu with
      votes := (countedSet s).length
      armed := s.vtu.armed || (!ownAtSolo s && wireQuiet s && rearmReached s) } := by
  have harm : mayArm (s.setVtu { s.vtu with votes := (countedSet s).length }) =
      (!ownAtSolo s && wireQuiet s && rearmReached s) := by
    have hv : decide ((countedSet s).length < (cfg s).k) = true := decide_eq_true hk
    show (decide ((countedSet s).length < (cfg s).k) && !ownAtSolo s && wireQuiet s && rearmReached s) = _
    rw [hv, Bool.true_and]
  unfold voteTest
  rw [if_pos hw, if_neg (Nat.not_le.mpr hk), armingEval_working (by exact hw), harm]
  rfl

/-- A running part that takes a window deadline which has fallen due drops it and takes a vote test (R72). -/
theorem exec_windowDeadline {t d : Nat} {i : StationId} {s : State} (h : RunsAt t s)
    (hd : (peer s i).windowDue = some d) (hle : d ≤ t) :
    exec (.windowDeadline t i) s = .next (voteTest (dropWindow i (s.setNodeTime t))) := by
  obtain ⟨hrun, hlate, hmax, hclose⟩ := h
  have hfalls : windowFalls i (s.setNodeTime t) = true := by
    have hdue : (peer (s.setNodeTime t) i).windowDue = some d := hd
    simp [windowFalls, running, due, hdue, hrun, hle]
  have hexec : exec (.windowDeadline t i) s = .next (windowDeadline i (advance t s)) := rfl
  rw [hexec, advance_running hrun hlate hmax hclose, windowDeadline, if_pos hfalls]
  rfl

/-- Settles O25: the members of the counted set, and the deadline as a vote test below K. -/
theorem countedSetAndItsWindow : Obligations.CountedSetAndItsWindow := by
  unfold Obligations.CountedSetAndItsWindow
  refine ⟨fun s => ⟨countedSet_ascending s, countedSet_length_le s, fun i => ?members⟩, ?expiry⟩
  case members => rw [mem_countedSet, counted_iff, excluded_eq_false]
  case expiry =>
    intro t d i s hruns hconf hdue hle v hv
    have hset := countedSet_dropWindow i (s.setNodeTime t)
    have hwork : working (dropWindow i (s.setNodeTime t)) = true := by
      obtain ⟨hrun, -⟩ := hruns
      show (s.phase == .running && configured s) = true
      rw [hrun, hconf]; rfl
    rw [exec_windowDeadline hruns hdue hle, voteTest_below hwork (by rw [hset]; exact hv), hset]
    rfl

end Sys2Proof.Machine

/-! The onset that a frame's stamps give, and its way into the sender's entry (R41, R65, R66). -/

namespace Sys2Proof.Machine

theorem reconstructOnset_unknown (tSof lc : Nat) : reconstructOnset tSof 65535 lc = none := rfl

theorem reconstructOnset_known {age : Nat} (h : age ≠ 65535) (tSof lc : Nat) :
    reconstructOnset tSof age lc = some (tSof - age - lc) := if_neg h

/-- A reconstructed onset is never after the SOF of its frame (R65). -/
theorem reconstructOnset_le {tSof age lc on : Nat} (h : reconstructOnset tSof age lc = some on) :
    on ≤ tSof := by
  by_cases hage : age = 65535
  · rw [hage, reconstructOnset_unknown] at h
    cases h
  · rw [reconstructOnset_known hage] at h
    injection h with h
    omega

/-! What an arriving frame leaves alone -/

/-- What the arrival of an OBSERVE leaves alone but for the sender's entry: `voteKept` with the MP, the HM and
the score and heard mark of the SLC blanked. Of its operations only the presence update and the storing write
the Peer View, which is kept whole here. -/
def arrivalKept (s : State) : State :=
  { voteKept s with
    mp := MotionState.reset
    hm := HealthState.reset
    slc := { (voteKept s).slc with score := 0, lastHeard := 0, heardDue := none } }

theorem arrivalKept_of_voteKept {u s : State} (h : voteKept u = voteKept s) :
    arrivalKept u = arrivalKept s := by
  unfold arrivalKept; rw [h]

/-- What `arrivalKept` fixes, as the Peer View reads it. -/
theorem arrivalKept_fields {u s : State} (h : arrivalKept u = arrivalKept s) :
    u.nodeTime = s.nodeTime ∧ u.slc.tSof = s.slc.tSof ∧ cfg u = cfg s ∧
      configured u = configured s ∧ ownId u = ownId s ∧ ∀ i, peer u i = peer s i :=
  ⟨congrArg (fun x => x.nodeTime) h, congrArg (fun x => x.slc.tSof) h,
    congrArg (fun x => x.rcp.config.getD defaultConfig) h, congrArg (fun x => x.rcp.config.isSome) h,
    congrArg (fun x => x.rcp.stationId) h, fun i => congrArg (fun x => x.pv.entries[i.val]) h⟩

@[simp] theorem arrivalKept_drawn (s : State) : arrivalKept (drawn s) = arrivalKept s := rfl

@[simp] theorem arrivalKept_voteTest (s : State) : arrivalKept (voteTest s) = arrivalKept s :=
  arrivalKept_of_voteKept (voteKept_voteTest s)
@[simp] theorem arrivalKept_activity (t g : Nat) (b : Bool) (s : State) :
    arrivalKept (activity t g b s) = arrivalKept s := arrivalKept_of_voteKept (voteKept_activity t g b s)
@[simp] theorem arrivalKept_abortTest (s : State) : arrivalKept (abortTest s) = arrivalKept s := by
  unfold abortTest; split <;> rfl

theorem arrivalKept_followFault (f : FaultId) (b : Bool) (s : State) :
    arrivalKept (followFault f b s) = arrivalKept s := by
  unfold followFault; repeat' split
  · rfl
  · rw [raiseFault_eq]; rfl
  · rw [clearFault_eq]; rfl
  · rfl

theorem arrivalKept_clearLineFault (f : FaultId) (s : State) :
    arrivalKept (clearLineFault f s) = arrivalKept s := by
  unfold clearLineFault
  rw [arrivalKept_of_voteKept (voteKept_of_zoneKept (zoneKept_lineChange _ _)), clearFault_eq]
  rfl

theorem arrivalKept_scoreDown (s : State) : arrivalKept (scoreDown s) = arrivalKept s := by
  unfold scoreDown; dsimp only; split
  · rw [arrivalKept_clearLineFault]; rfl
  · rfl

theorem arrivalKept_hearLine (s : State) : arrivalKept (hearLine s) = arrivalKept s := by
  unfold hearLine; dsimp only; split
  · rw [arrivalKept_clearLineFault]; rfl
  · rfl

theorem arrivalKept_hearLine_scoreDown (s : State) :
    arrivalKept (hearLine (scoreDown s)) = arrivalKept s := by
  rw [arrivalKept_hearLine, arrivalKept_scoreDown]

/-- A presence update writes the sender's presence, last-heard time and silence deadline (R58). -/
theorem arrivalKept_presenceUpdate (i : StationId) (t : Nat) (s : State) :
    arrivalKept (presenceUpdate i t s) =
      arrivalKept (setPeer i { peer s i with
        presence := .present, lastHeard := t, silenceDue := some (t + threePs s) } s) := by
  unfold presenceUpdate digestCompare; dsimp only; split
  · rw [arrivalKept_followFault]
  · rfl

/-! The way of an OBSERVE -/

/-- `s` once a frame of another station has been heard: the score, the heard mark and the sender's presence
(R39, R45, R58). -/
def hear (i : StationId) (s : State) : State :=
  presenceUpdate i (hearLine (scoreDown s)).slc.tEnd (hearLine (scoreDown s))

/-- What hearing a frame leaves alone, as the reconstruction and the storing of an observation read it. -/
theorem hear_fields (i : StationId) (s : State) :
    (hear i s).nodeTime = s.nodeTime ∧ (hear i s).slc.tSof = s.slc.tSof ∧ cfg (hear i s) = cfg s ∧
      configured (hear i s) = configured s ∧ (peer (hear i s) i).observation = (peer s i).observation := by
  obtain ⟨hwTime, hwSof, hwCfg, hwConf, -, hwPeer⟩ := arrivalKept_fields (arrivalKept_hearLine_scoreDown s)
  obtain ⟨hTime, hSof, hCfg, hConf, -, hPeer⟩ :=
    arrivalKept_fields (arrivalKept_presenceUpdate i (hearLine (scoreDown s)).slc.tEnd (hearLine (scoreDown s)))
  refine ⟨hTime.trans hwTime, hSof.trans hwSof, hCfg.trans hwCfg, hConf.trans hwConf, ?entry⟩
  case entry => rw [hear, hPeer i, peer_setPeer_same, hwPeer i]

/-- A valid frame of another station goes to its block in the state in which it has been heard, unless the
node is UNCONFIGURED (R41, R58). -/
theorem takeFrame_other {i : StationId} {s : State} (hi : i ≠ ownId s) (deliver : State → State) :
    takeFrame i deliver s = if configured s then deliver (hear i s) else hear i s := by
  obtain ⟨-, -, -, -, hown, -⟩ := arrivalKept_fields (arrivalKept_hearLine_scoreDown s)
  obtain ⟨-, -, -, hconf, -⟩ := hear_fields i s
  unfold takeFrame
  dsimp only
  rw [hown, if_neg hi, ← hconf]
  rfl

/-- `s` at the end of a frame at `t`, with the SLC counting to idle and the frame not yet taken (R31, R41). -/
def frameEnded (t : Nat) (s : State) : State :=
  (s.setNodeTime t).setSlc { s.slc with line := .counting, tEnd := t }

/-- `heardFrame` is the hearing of a frame that has ended, configured or not. -/
theorem heardFrame_other {i : StationId} {s : State} (hi : i ≠ ownId s) (t : Nat) :
    heardFrame t i s = hear i (frameEnded t s) := by
  have htake := takeFrame_other (s := frameEnded t s) hi (fun x => x)
  rw [ite_self] at htake
  exact htake

/-- What hearing a frame at `t` leaves alone, as the delivery of an OBSERVE reads it. -/
theorem heardFrame_fields {i : StationId} {s : State} (hi : i ≠ ownId s) (t : Nat) :
    (heardFrame t i s).nodeTime = t ∧ (heardFrame t i s).slc.tSof = s.slc.tSof ∧
      cfg (heardFrame t i s) = cfg s ∧
      (peer (heardFrame t i s) i).observation = (peer s i).observation := by
  obtain ⟨hTime, hSof, hCfg, -, hEntry⟩ := hear_fields i (frameEnded t s)
  rw [heardFrame_other hi]
  exact ⟨hTime, hSof, hCfg, hEntry⟩

/-- A running part takes a frame that it receives, with its fields in range, where it ends (R37, R41). -/
theorem arrive_running {t : Nat} {s : State} (h : RunsAt t s) (hl : s.slc.line = .receiving)
    (i : StationId) (deliver : State → State) :
    arrive true i deliver (advance t s) = takeFrame i deliver (frameEnded t s) := by
  obtain ⟨hrun, hlate, hmax, hclose⟩ := h
  rw [advance_running hrun hlate hmax hclose]
  simp [arrive, lineUp, running, hrun, hl, frameEnded]

/-- An OBSERVE of another station is delivered in the state in which it has been heard (R41, R64). -/
theorem exec_observeFrame {t : Nat} {i : StationId} {p : ObservePayload} {s : State} (h : RunsAt t s)
    (hl : s.slc.line = .receiving) (hi : i ≠ ownId s) (hc : configured s = true)
    (hp : observeInRange p = true) :
    exec (.observeFrame t i p) s = .next (deliverObserve i p (heardFrame t i s)) := by
  have hexec : exec (.observeFrame t i p) s =
      .next (arrive (observeInRange p) i (deliverObserve i p) (advance t s)) := rfl
  have hother : i ≠ ownId (frameEnded t s) := hi
  have hconf : configured (frameEnded t s) = true := hc
  rw [hexec, hp, arrive_running h hl, takeFrame_other hother, if_pos hconf,
    heardFrame_other hi]

/-- The observation that an OBSERVE gives, with the onset that its stamps give (R65, R66). -/
def observationOf (p : ObservePayload) (s : State) : Observation :=
  { event := p.event, phase := p.phase, onset := reconstructOnset s.slc.tSof p.age (cfg s).lc
    peak := p.peak, grade := p.grade }

/-- Once an OBSERVE is stored, nothing that it is handed on to changes the Peer View (R68). -/
theorem arrivalKept_deliverObserve (i : StationId) (p : ObservePayload) (s : State) :
    arrivalKept (deliverObserve i p s) = arrivalKept (storeObservation i (observationOf p s) s) := by
  unfold deliverObserve inEitherOrder observationOf
  dsimp only
  repeat' split
  all_goals simp

/-- Where the entry holds no observation of the same event, an observation is written as it comes (R66). -/
theorem observation_storeObservation_new {i : StationId} {o : Observation} {s : State}
    (h : ∀ held, (peer s i).observation = some held → held.event ≠ o.event) :
    (peer (storeObservation i o s) i).observation = some o := by
  unfold storeObservation
  dsimp only
  split
  next held hobs => rw [if_neg (h held hobs), peer_setPeer_same]
  next => rw [peer_setPeer_same]

/-- Storing an observation leaves node time alone. -/
theorem nodeTime_storeObservation (i : StationId) (o : Observation) (s : State) :
    (storeObservation i o s).nodeTime = s.nodeTime := by
  obtain ⟨htime, -⟩ := viewKept_fields (viewKept_storeObservation i o s)
  exact htime

/-- An OBSERVE of a new event, once delivered: its observation as it comes, and node time as it was. -/
theorem deliverObserve_new {i : StationId} {p : ObservePayload} {s : State}
    (h : ∀ held, (peer s i).observation = some held → held.event ≠ p.event) :
    (peer (deliverObserve i p s) i).observation = some (observationOf p s) ∧
      (deliverObserve i p s).nodeTime = s.nodeTime := by
  obtain ⟨hTime, -, -, -, -, hPeer⟩ := arrivalKept_fields (arrivalKept_deliverObserve i p s)
  exact ⟨by rw [hPeer i, observation_storeObservation_new h], hTime.trans (nodeTime_storeObservation _ _ _)⟩

/-- Settles O22: the reconstruction by its two cases, and the way of an OBSERVE of a new event. -/
theorem onsetReconstruction : Obligations.OnsetReconstruction := by
  unfold Obligations.OnsetReconstruction
  refine ⟨fun tSof age lc => ⟨?unknown, ?known⟩, ?stored⟩
  case unknown =>
    rintro rfl
    exact reconstructOnset_unknown tSof lc
  case known =>
    intro hage
    exact ⟨tSof - age - lc, reconstructOnset_known hage tSof lc, by omega, by omega⟩
  case stored =>
    intro t i p s hruns hline hi hconf hp hnew
    obtain ⟨hTime, hSof, hCfg, hEntry⟩ := heardFrame_fields hi t
    have hnew' : ∀ held, (peer (heardFrame t i s) i).observation = some held →
        held.event ≠ p.event := by
      rw [hEntry]; exact hnew
    obtain ⟨hobs, hnow⟩ := deliverObserve_new hnew'
    rw [observationOf, hSof, hCfg] at hobs
    refine ⟨_, exec_observeFrame hruns hline hi hconf hp, hobs, fun hle o on ho hon => ?_⟩
    rw [hobs] at ho
    injection ho with ho
    subst ho
    calc on ≤ s.slc.tSof := reconstructOnset_le hon
      _ ≤ t := hle
      _ = (deliverObserve i p (heardFrame t i s)).nodeTime := (hnow.trans hTime).symm

end Sys2Proof.Machine

/-! The inrush list as frames and deadlines change it, and the own claim's expiry and backoff (R152 to R154,
R164, R165). -/

namespace Sys2Proof.Machine

/-! The way of a CLAIM and of a RELEASE -/

/-- A valid frame of another station, received by a running and configured node, goes to its block in the
state in which it has been heard (R41). -/
theorem arrive_other {t : Nat} {i : StationId} {s : State} (h : RunsAt t s) (hl : s.slc.line = .receiving)
    (hi : i ≠ ownId s) (hc : configured s = true) (deliver : State → State) :
    arrive true i deliver (advance t s) = deliver (heardFrame t i s) := by
  have hother : i ≠ ownId (frameEnded t s) := hi
  have hconf : configured (frameEnded t s) = true := hc
  rw [arrive_running h hl, takeFrame_other hother, if_pos hconf, heardFrame_other hi]

/-- Hearing a frame keeps the stamp of its end: `arrivalKept` blanks none of the SLC's stamps. -/
theorem hear_tEnd (i : StationId) (s : State) : (hear i s).slc.tEnd = s.slc.tEnd := by
  have hpresence : (hear i s).slc.tEnd = (hearLine (scoreDown s)).slc.tEnd :=
    congrArg (fun x => x.slc.tEnd)
      (arrivalKept_presenceUpdate i (hearLine (scoreDown s)).slc.tEnd (hearLine (scoreDown s)))
  have hline : (hearLine (scoreDown s)).slc.tEnd = s.slc.tEnd :=
    congrArg (fun x => x.slc.tEnd) (arrivalKept_hearLine_scoreDown s)
  exact hpresence.trans hline

/-- A frame heard at `t` is stamped with `t` as its end (R41). -/
theorem heardFrame_tEnd {i : StationId} {s : State} (hi : i ≠ ownId s) (t : Nat) :
    (heardFrame t i s).slc.tEnd = t := by
  rw [heardFrame_other hi, hear_tEnd]
  rfl

/-- A CLAIM of another station is delivered in the state in which it has been heard (R41, R152). -/
theorem exec_claimFrame {t : Nat} {i : StationId} {p : ClaimPayload} {s : State} (h : RunsAt t s)
    (hl : s.slc.line = .receiving) (hi : i ≠ ownId s) (hc : configured s = true)
    (hp : claimInRange p = true) :
    exec (.claimFrame t i p) s = .next (deliverClaim i p (heardFrame t i s)) := by
  have hexec : exec (.claimFrame t i p) s =
      .next (arrive (claimInRange p) i (deliverClaim i p) (advance t s)) := rfl
  rw [hexec, hp, arrive_other h hl hi hc]

/-- A RELEASE of another station is delivered in the state in which it has been heard (R41, R153). -/
theorem exec_releaseFrame {t : Nat} {i : StationId} {p : ReleasePayload} {s : State} (h : RunsAt t s)
    (hl : s.slc.line = .receiving) (hi : i ≠ ownId s) (hc : configured s = true)
    (hp : releaseInRange p = true) :
    exec (.releaseFrame t i p) s = .next (deliverRelease i p (heardFrame t i s)) := by
  have hexec : exec (.releaseFrame t i p) s =
      .next (arrive (releaseInRange p) i (deliverRelease i p) (advance t s)) := rfl
  rw [hexec, hp, arrive_other h hl hi hc]

/-- A delivered CLAIM goes to the end of the list in place of any entry of its station, its times counted
from the end of its frame (R152). -/
theorem deliverClaim_eq (i : StationId) (p : ClaimPayload) (s : State) :
    deliverClaim i p s = s.setIcu { s.icu with
      list := s.icu.list.filter (fun e => e.station != i) ++
        [{ station := i, number := p.number, weight := p.weight, completion := s.slc.tEnd,
           expiry := s.slc.tEnd + p.duration * 1000 }] } := rfl

/-- A delivered RELEASE keeps the entries that differ from it in station or in number (R153). -/
theorem deliverRelease_eq (i : StationId) (p : ReleasePayload) (s : State) :
    deliverRelease i p s = s.setIcu { s.icu with
      list := s.icu.list.filter (fun e => e.station != i || e.number != p.number) } := by
  simp only [deliverRelease, Bool.not_and, bne]

/-! The deadlines of the list and of the own claim -/

theorem due_setNodeTime {o : Option Nat} {d t : Nat} (ho : o = some d) (hle : d ≤ t) (s : State) :
    due o (s.setNodeTime t) = true := by
  rw [ho]
  exact decide_eq_true hle

theorem running_setNodeTime {s : State} (h : s.phase = .running) (t : Nat) :
    running (s.setNodeTime t) = true := by
  simp [running, h]

/-- The expiry of another station falls due with an entry of it whose expiry has come (R154). -/
theorem claimFalls_setNodeTime {t : Nat} {e : InrushEntry} {s : State} (hrun : s.phase = .running)
    (hi : e.station ≠ ownId s) (he : e ∈ s.icu.list) (hle : e.expiry ≤ t) :
    claimFalls e.station (s.setNodeTime t) = true := by
  have hother : e.station ≠ ownId (s.setNodeTime t) := hi
  rw [claimFalls, running_setNodeTime hrun, bne_iff_ne.mpr hother, Bool.true_and, Bool.true_and,
    List.any_eq_true]
  exact ⟨e, he, by simp [hle]⟩

theorem ownExpiryFalls_setNodeTime {t d : Nat} {s : State} (hrun : s.phase = .running)
    (hown : s.icu.own = .inForce) (hd : s.icu.ownExpiry = some d) (hle : d ≤ t) :
    ownExpiryFalls (s.setNodeTime t) = true := by
  simp [ownExpiryFalls, running_setNodeTime hrun, hown, due_setNodeTime hd hle]

theorem backoffFalls_setNodeTime {t d : Nat} {s : State} (hrun : s.phase = .running)
    (hown : s.icu.own = .backoff) (hd : s.icu.backoffDue = some d) (hle : d ≤ t) :
    backoffFalls (s.setNodeTime t) = true := by
  simp [backoffFalls, running_setNodeTime hrun, hown, due_setNodeTime hd hle]

/-- An expiry that has come removes the entry of its station (R154). -/
theorem exec_claimExpiry {t : Nat} {e : InrushEntry} {s : State} (h : RunsAt t s)
    (hi : e.station ≠ ownId s) (he : e ∈ s.icu.list) (hle : e.expiry ≤ t) :
    exec (.claimExpiry t e.station) s = .next (removeClaimOf e.station (s.setNodeTime t)) := by
  obtain ⟨hrun, hlate, hmax, hclose⟩ := h
  have hexec : exec (.claimExpiry t e.station) s = .next (claimExpiry e.station (advance t s)) := rfl
  rw [hexec, advance_running hrun hlate hmax hclose, claimExpiry,
    if_pos (claimFalls_setNodeTime hrun hi he hle)]

/-- The own expiry of a claim in force removes the own entry and ends the claim (R165). -/
theorem exec_ownExpiry {t d : Nat} {s : State} (h : RunsAt t s) (hown : s.icu.own = .inForce)
    (hd : s.icu.ownExpiry = some d) (hle : d ≤ t) :
    exec (.ownExpiry t) s = .next (claimNone (removeClaimOf (ownId s) (s.setNodeTime t))) := by
  obtain ⟨hrun, hlate, hmax, hclose⟩ := h
  have hexec : exec (.ownExpiry t) s = .next (ownExpiry (advance t s)) := rfl
  rw [hexec, advance_running hrun hlate hmax hclose, ownExpiry,
    if_pos (ownExpiryFalls_setNodeTime hrun hown hd hle)]
  rfl

/-- The end of a backoff makes the claim again (R164). -/
theorem exec_backoffDeadline {t d : Nat} {s : State} (h : RunsAt t s) (hown : s.icu.own = .backoff)
    (hd : s.icu.backoffDue = some d) (hle : d ≤ t) :
    exec (.backoffDeadline t) s = .next (makeClaim (s.setNodeTime t)) := by
  obtain ⟨hrun, hlate, hmax, hclose⟩ := h
  have hexec : exec (.backoffDeadline t) s = .next (backoffDeadline (advance t s)) := rfl
  rw [hexec, advance_running hrun hlate hmax hclose, backoffDeadline,
    if_pos (backoffFalls_setNodeTime hrun hown hd hle)]

/-- Settles O39: a frame by its delivery in the state in which it has been heard, a deadline by the
operation of the ICU that it takes. -/
theorem inrushListAndDeadlines : Obligations.InrushListAndDeadlines := by
  unfold Obligations.InrushListAndDeadlines
  refine ⟨?claim, ?release, ?expiry, ?ownExpiry, ?backoff⟩
  case claim =>
    intro t i p s hruns hline hi hconf hp
    rw [exec_claimFrame hruns hline hi hconf hp, deliverClaim_eq, heardFrame_tEnd hi]
    rfl
  case release =>
    intro t i p s hruns hline hi hconf hp
    rw [exec_releaseFrame hruns hline hi hconf hp, deliverRelease_eq]
    rfl
  case expiry =>
    rintro t _ e s hruns hi he rfl hle
    exact exec_claimExpiry hruns hi he hle
  case ownExpiry =>
    intro t d s hruns hown hd hle
    exact exec_ownExpiry hruns hown hd hle
  case backoff =>
    intro t d s hruns hown hd hle
    exact exec_backoffDeadline hruns hown hd hle

end Sys2Proof.Machine

/-! What the operations of the Zone Sequencer are made of: elementary changes of the sequencer, the channels, the own
claim, the queue and the record. One lemma for each operation says that it is made of them, and a fact about all of
them is then proved of the elementary changes alone. -/

namespace Sys2Proof.Machine

/-- `u` is reached from `s` by what the zone does of itself: it moves neither Ta nor the console hold, it never goes back
to UNCONFIGURED, and it queues STATUS, CLAIM and RELEASE alone. -/
inductive ZoneMoves (s : State) : State → Prop
  | refl : ZoneMoves s s
  | byZs {u} {z : SeqRecord} : ZoneMoves s u → z.ta = u.zs.ta → z.consoleHold = u.zs.consoleHold →
      z.st = u.zs.st ∨ z.st ≠ .unconfigured → ZoneMoves s (u.setZs z)
  | byCd {u} (v : ChannelState) : ZoneMoves s u → ZoneMoves s (u.setCd v)
  | byUnconfirmed {u} (v : Bool) : ZoneMoves s u → ZoneMoves s (followFault .channelUnconfirmed v u)
  | byIcu {u} {i : ClaimState} : ZoneMoves s u → i.list.Sublist u.icu.list → ZoneMoves s (u.setIcu i)
  | byStatus {u} : ZoneMoves s u → ZoneMoves s (queueStatus u)
  | byClaim {u} (n w d : Nat) : ZoneMoves s u → ZoneMoves s (place (.claim n w d) u)
  | byRelease {u} (n : Nat) (r : ReleaseReason) : ZoneMoves s u → ZoneMoves s (queueRelease n r u)
  | byClose {u} : ZoneMoves s u → ZoneMoves s (rcpClose u)

namespace ZoneMoves

variable {s u v : State}

theorem setsZs {z : SeqRecord} (h : ZoneMoves s u) (ht : z.ta = u.zs.ta := by rfl)
    (hc : z.consoleHold = u.zs.consoleHold := by rfl)
    (hs : z.st = u.zs.st ∨ z.st ≠ .unconfigured := by left; rfl) : ZoneMoves s (u.setZs z) := h.byZs ht hc hs

theorem setsIcu {i : ClaimState} (h : ZoneMoves s u) (hi : i.list = u.icu.list := by rfl) :
    ZoneMoves s (u.setIcu i) := h.byIcu (hi ▸ List.Sublist.refl _)

/-! ## Channels and claims -/

theorem followsUnconfirmed (h : ZoneMoves s u) : ZoneMoves s (followUnconfirmed u) := h.byUnconfirmed _

theorem commands (h : ZoneMoves s u) (l : List Channel) (c : ChanCmd) : ZoneMoves s (stageCommand l c u) :=
  (h.byCd _).followsUnconfirmed

theorem removesClaim (h : ZoneMoves s u) (i : StationId) : ZoneMoves s (removeClaimOf i u) :=
  h.byIcu List.filter_sublist

theorem makesClaim (h : ZoneMoves s u) : ZoneMoves s (makeClaim u) := h.setsIcu.byClaim _ _ _

theorem requestsClaim (h : ZoneMoves s u) (w d : Nat) : ZoneMoves s (requestClaim w d u) :=
  h.setsIcu.makesClaim

theorem endsClaim (h : ZoneMoves s u) : ZoneMoves s (claimNone u) := h.setsIcu

theorem releasesClaim (h : ZoneMoves s u) (r : ReleaseReason) : ZoneMoves s (releaseClaim r u) :=
  (h.removesClaim _).endsClaim.byRelease _ r

theorem withdrawsAtSettle (h : ZoneMoves s u) : ZoneMoves s (withdrawAtSettle u) :=
  (h.removesClaim _).setsIcu.byRelease _ _

theorem withdrawsClaim (h : ZoneMoves s u) : ZoneMoves s (withdrawClaim u) := by
  unfold withdrawClaim; split
  · exact h.endsClaim.byRelease _ _
  · exact h.releasesClaim _
  · exact h.endsClaim
  · exact h
  · exact h

theorem abortsClaim (h : ZoneMoves s u) : ZoneMoves s (abortClaim u) := by
  unfold abortClaim; split
  · exact h.endsClaim.byRelease _ _
  · exact h.releasesClaim _
  · exact h.releasesClaim _
  · exact h.endsClaim
  · exact h

/-! ## The sequencer -/

theorem enters (h : ZoneMoves s u) (q : SeqState) (hq : q ≠ .unconfigured := by decide) :
    ZoneMoves s (enterState q u) := by
  unfold enterState; split
  · exact h
  · exact (h.setsZs (hs := .inr hq)).byStatus

theorem pauses (h : ZoneMoves s u) (c : Causes) : ZoneMoves s (pauseWith c u) := h.setsZs.enters _

theorem runsStage (h : ZoneMoves s u) (r : Nat) : ZoneMoves s (runStage r u) :=
  ((h.enters .restarting).setsZs.commands _ _).setsZs

theorem completesRestart (h : ZoneMoves s u) : ZoneMoves s (completeRestart u) :=
  (h.setsZs.enters _).byClose

theorem beginsClaim (h : ZoneMoves s u) (r : Nat) : ZoneMoves s (beginClaim r u) := by
  unfold beginClaim; dsimp only; repeat' split
  · exact h.setsZs.runsStage r
  · exact (h.setsZs.enters _).requestsClaim _ _
  · exact h.setsZs.runsStage r
  · exact h.setsZs.pauses _

theorem beginsPrecheck (h : ZoneMoves s u) (r : Nat) : ZoneMoves s (beginPrecheck r u) := by
  unfold beginPrecheck; repeat' split
  · exact h.beginsClaim r
  · exact h.setsZs.beginsClaim r
  · exact h.setsZs.pauses _

theorem beginsStage (h : ZoneMoves s u) : ZoneMoves s (beginStage u) := by
  unfold beginStage; dsimp only; repeat' split
  · exact h.setsZs.pauses _
  · exact h.setsZs.pauses _
  · exact h.setsZs.setsZs.beginsPrecheck _
  · exact h.setsZs.completesRestart

theorem leavesPause (h : ZoneMoves s u) : ZoneMoves s (leavePause u) := by
  unfold leavePause; split
  · exact h.beginsStage
  · exact h

theorem holdFallsDue (h : ZoneMoves s u) : ZoneMoves s (holdFalls u) := by
  have h1 : ZoneMoves s (u.setZs { u.zs with holdDue := none }) := h.setsZs
  unfold holdFalls; dsimp only; repeat' split
  · exact h1.enters _
  · exact h1.beginsStage
  · exact h1.setsZs.leavesPause
  all_goals exact h1

theorem recomputesHold (h : ZoneMoves s u) : ZoneMoves s (recomputeHold u) := by
  unfold recomputeHold; repeat' split
  · exact h.holdFallsDue
  · exact h.setsZs
  · exact h

theorem entersWatch (h : ZoneMoves s u) : ZoneMoves s (enterWatch u) := (h.enters _).recomputesHold

theorem entersPaused (h : ZoneMoves s u) (c : Causes) : ZoneMoves s (enterPaused c u) :=
  (h.pauses c).recomputesHold

theorem beginsShutdownStage (h : ZoneMoves s u) (k : Nat) : ZoneMoves s (beginShutdownStage k u) :=
  (h.setsZs.commands _ _).setsZs

theorem runsShutdown (l : List Nat) : ∀ {u : State}, ZoneMoves s u → ZoneMoves s (runShutdown l u) := by
  induction l with
  | nil => exact fun h => h.entersWatch
  | cons k ks ih =>
    intro u h
    have begun := h.beginsShutdownStage k
    unfold runShutdown
    generalize beginShutdownStage k u = v at begun ⊢
    dsimp only; repeat' split
    · exact begun.setsZs.setsZs
    · exact ih begun.setsZs
    · exact begun
    · exact ih h

theorem completesShutdownStage (h : ZoneMoves s u) (k : Nat) :
    ZoneMoves s (completeShutdownStage k u) := by
  unfold completeShutdownStage; dsimp only; split
  · exact h.setsZs.setsZs
  · exact h.setsZs.runsShutdown _

theorem startsShutdown (h : ZoneMoves s u) : ZoneMoves s (shutdownStart u) :=
  (h.enters .shutting).setsZs.runsShutdown allStages

theorem abortsRestart (h : ZoneMoves s u) : ZoneMoves s (abortRestart u) := h.setsZs.abortsClaim

theorem hasTripEffect (h : ZoneMoves s u) : ZoneMoves s (tripEffect u) := by
  unfold tripEffect; split
  case h_2 | h_3 | h_5 | h_6 => exact h.startsShutdown
  case h_7 | h_8 | h_9 => exact h.abortsRestart.startsShutdown
  case h_1 | h_4 => exact h

theorem recomputesStart (h : ZoneMoves s u) : ZoneMoves s (recomputeStart u) := h.setsZs

theorem hasActivityEffect (h : ZoneMoves s u) (aftershock : Bool) :
    ZoneMoves s (activityEffect aftershock u) := by
  unfold activityEffect; repeat' split
  · exact h.recomputesStart
  · exact h.entersWatch
  · exact h.withdrawsClaim.entersPaused _
  · exact h
  · exact h.setsZs
  · exact h.setsZs.entersPaused _
  · exact h
  · exact h.entersPaused _
  all_goals exact h

theorem endsRestartStage (h : ZoneMoves s u) (r : Nat) : ZoneMoves s (endRestartStage r u) := by
  unfold endRestartStage; dsimp only; split
  · exact h.setsZs.setsZs
  · exact h.setsZs.entersPaused _

theorem endsIfOver (h : ZoneMoves s u) : ZoneMoves s (endIfOver u) := by
  unfold endIfOver; repeat' split
  · exact h.endsRestartStage _
  · exact h
  · exact h

theorem leavesPending (h : ZoneMoves s u) (c : Channel) (v : Bool) : ZoneMoves s (leftPending c v u) := by
  have shutdown : ZoneMoves s (shutdownReport c u) := by
    unfold shutdownReport; dsimp only; repeat' split
    · exact h.setsZs.completesShutdownStage _
    · exact h.setsZs
    all_goals exact h
  have restart : ZoneMoves s (restartReport c v u) := by
    unfold restartReport; repeat' split
    · exact h.setsZs.endsIfOver
    all_goals exact h
  unfold leftPending; split
  · exact shutdown
  · exact restart
  all_goals exact h

theorem reportsPrecheck (h : ZoneMoves s u) (before : Bool) : ZoneMoves s (precheckReport before u) := by
  unfold precheckReport; repeat' split
  · exact h.setsZs.leavesPause
  all_goals exact h

theorem changesLine (h : ZoneMoves s u) (before : Bool) : ZoneMoves s (lineChange before u) := by
  unfold lineChange redecideStage; dsimp only; repeat' split
  · exact h
  · exact h.withdrawsClaim.runsStage _
  · exact h.withdrawsClaim.pauses _
  · exact h
  · exact h.setsZs.leavesPause
  · exact h

theorem confirmsZone (h : ZoneMoves s u) : ZoneMoves s (zsConfirm u) := by
  unfold zsConfirm; split
  · exact h.runsStage _
  · exact h

end ZoneMoves

end Sys2Proof.Machine

/-! What the events of a running part are made of: elementary changes, each of which keeps the promises that are
made of the queue, the faults, the claims, the times and the record. One lemma for each operation says that
it is made of them, and each promise is then proved of the elementary changes alone. -/

namespace Sys2Proof.Machine

/-- What the promises made of the MP read of it: detector, own event, baselines and averages. -/
def MotionStands (m n : MotionState) : Prop :=
  n.det = m.det ∧ n.inProgress = m.inProgress ∧ n.baseX = m.baseX ∧ n.baseY = m.baseY ∧
    n.baseZ = m.baseZ ∧ n.sta = m.sta ∧ n.lta = m.lta

/-- `u` is reached from `s` by elementary changes. `motion` says that the MP may move freely and SENSOR-LOST
with it, `line` the same of the line state, the score and LINE-SUPPRESSED, and the index that a trip request has been taken behind which a close may still wait (R196). -/
inductive Moves (motion line : Bool) (s : State) : Bool → State → Prop
  | refl : Moves motion line s false s
  | byMp {b u m} : Moves motion line s b u → (motion = false → MotionStands u.mp m) → Moves motion line s b (u.setMp m)
  | byTest {b u} : Moves motion line s b u → u.phase = .running → canTest u = true →
      Moves motion line s b (startTest u)
  | bySlc {b u} {l : LineCtl} : Moves motion line s b u → l.queue.Sublist u.slc.queue →
      (line = false → l.inFlight = u.slc.inFlight ∧ l.line = u.slc.line ∧ l.score = u.slc.score) →
      Moves motion line s b (u.setSlc l)
  | byPv {b u} (v : PeerView) : Moves motion line s b u → Moves motion line s b (u.setPv v)
  | byVtu {b u} (v : VoteState) : Moves motion line s b u → Moves motion line s b (u.setVtu v)
  | byCd {b u} (v : ChannelState) : Moves motion line s b u → Moves motion line s b (u.setCd v)
  | byPins {b u} (v : Pins) : Moves motion line s b u → Moves motion line s b (u.setPins v)
  | byDrawn {b u} : Moves motion line s b u → Moves motion line s b (drawn u)
  | byZs {b u} {z : SeqRecord} : Moves motion line s b u → z.ta ≤ max u.zs.ta u.nodeTime →
      Moves motion line s b (u.setZs z)
  | byIcu {b u} {i : ClaimState} : Moves motion line s b u → i.list.Sublist u.icu.list →
      Moves motion line s b (u.setIcu i)
  | byAppend {b u} (e : InrushEntry) : Moves motion line s b u → Moves motion line s b (appendClaim e u)
  | byPlace {b u} (e : TxEntry) : Moves motion line s b u → Moves motion line s b (place e u)
  | byRelease {b u} (n : Nat) (r : ReleaseReason) : Moves motion line s b u → Moves motion line s b (queueRelease n r u)
  | byRemove {b u} (c : Nat) : Moves motion line s b u → Moves motion line s b (removeEntry c u)
  | byRcp {b u} {r : RecordState} : Moves motion line s b u → r.record.isOpen = u.rcp.record.isOpen →
      r.closeWaits = u.rcp.closeWaits → r.lastTripReq = u.rcp.lastTripReq → Moves motion line s b (u.setRcp r)
  | byRequest {b u} (own origin : Cause) (votes grade : Nat) (l : List StationId) : Moves motion line s b u →
      Moves motion line s true (rcpTrip own origin votes grade l u)
  | byClose {b u} : Moves motion line s b u → Moves motion line s b (rcpClose u)
  | bySettle {b u} : Moves motion line s b u → Moves motion line s false (takeWaitingClose u)
  | byRaise {b u} (f : FaultId) : Moves motion line s b u → f ≠ .selftestAborted →
      (line = false → f ≠ .lineSuppressed) →
      (motion = false → f ≠ .sensorLost) → Moves motion line s b (raiseFault f u)
  | byClear {b u} (f : FaultId) : Moves motion line s b u → (line = false → f ≠ .lineSuppressed) →
      (motion = false → f ≠ .sensorLost) → Moves motion line s b (clearFault f u)
  | byNotice {b u} : Moves motion line s b u → Moves motion line s b (noticeAborted u)
  | byAck {b u} : Moves motion line s b u → Moves motion line s b (u.setHm { u.hm with sticky := u.hm.active })
  | byResult {b u} (code : Nat) (r : CmdResult) : Moves motion line s b u → Moves motion line s b (recordResult code r u)
  | byMode {b u} (m : Mode) : Moves motion line s b u → Moves motion line s b (takeHealth (u.setHm { u.hm with mode := m }))

namespace Moves

variable {motion line b : Bool} {s u : State}

/-! ## The record -/

theorem setsZs {z : SeqRecord} (h : Moves motion line s b u) (hz : z.ta = u.zs.ta := by rfl) :
    Moves motion line s b (u.setZs z) := h.byZs (hz ▸ Nat.le_max_left _ _)

theorem setsIcu {i : ClaimState} (h : Moves motion line s b u) (hi : i.list = u.icu.list := by rfl) :
    Moves motion line s b (u.setIcu i) := h.byIcu (hi ▸ List.Sublist.refl _)

theorem setsRcp {r : RecordState} (h : Moves motion line s b u) (ho : r.record.isOpen = u.rcp.record.isOpen := by rfl)
    (hc : r.closeWaits = u.rcp.closeWaits := by rfl) (hl : r.lastTripReq = u.rcp.lastTripReq := by rfl) :
    Moves motion line s b (u.setRcp r) := h.byRcp ho hc hl

theorem setsSlc {l : LineCtl} (h : Moves motion line s b u) (hq : l.queue = u.slc.queue := by rfl)
    (hf : l.inFlight = u.slc.inFlight := by rfl) (hl : l.line = u.slc.line := by rfl)
    (hs : l.score = u.slc.score := by rfl) : Moves motion line s b (u.setSlc l) :=
  h.bySlc (hq ▸ List.Sublist.refl _) fun _ => ⟨hf, hl, hs⟩

theorem startWrites (h : Moves motion line s b u) (again : Bool) : Moves motion line s b (startWrite again u) :=
  h.setsRcp

theorem setsRecord (h : Moves motion line s b u) {r : TripRecord} (hr : r.isOpen = u.rcp.record.isOpen := by rfl) :
    Moves motion line s b (setRecord r u) := by
  have changed : Moves motion line s b (u.setRcp { u.rcp with record := r }) := h.setsRcp hr
  unfold setRecord writeChange
  split
  · exact h
  · split
    · exact changed.setsRcp
    · exact changed.startWrites false

theorem raisesRecord (h : Moves motion line s b u) (g : Nat) : Moves motion line s b (rcpRaise g u) := by
  unfold rcpRaise; split
  · exact h.setsRecord
  · exact h

theorem permitsRecord (h : Moves motion line s b u) : Moves motion line s b (rcpPermit u) := by
  unfold rcpPermit; split
  · exact h.setsRecord
  · exact h

/-! ## Faults -/

theorem follows (h : Moves motion line s b u) (f : FaultId) (v : Bool) (hf : f ≠ .selftestAborted)
    (hl : line = false → f ≠ .lineSuppressed) (hm : motion = false → f ≠ .sensorLost) :
    Moves motion line s b (followFault f v u) := by
  unfold followFault; repeat' split
  · exact h
  · exact h.byRaise f hf hl hm
  · exact h.byClear f hl hm
  · exact h

theorem followsUnconfirmed (h : Moves motion line s b u) : Moves motion line s b (followUnconfirmed u) :=
  h.follows _ _ (by decide) (fun _ => by decide) fun _ => by decide

theorem comparesDigests (h : Moves motion line s b u) : Moves motion line s b (digestCompare u) :=
  h.follows _ _ (by decide) (fun _ => by decide) fun _ => by decide

/-! ## Channels and claims -/

theorem setsPeer (h : Moves motion line s b u) (i : StationId) (e : PeerEntry) : Moves motion line s b (setPeer i e u) :=
  h.byPv _

theorem setsChan (h : Moves motion line s b u) (c : Channel) (r : Option ChanRun) :
    Moves motion line s b (setChan c r u) := h.byCd _

theorem removesClaim (h : Moves motion line s b u) (i : StationId) : Moves motion line s b (removeClaimOf i u) :=
  h.byIcu List.filter_sublist

theorem endsClaim (h : Moves motion line s b u) : Moves motion line s b (claimNone u) := h.setsIcu

theorem completesClaim (h : Moves motion line s b u) (n t : Nat) : Moves motion line s b (claimCompleted n t u) := by
  unfold claimCompleted; split
  · exact (h.byAppend _).setsIcu
  · exact h

theorem notesReceiveError (h : Moves motion line s b u) : Moves motion line s b (claimReceiveError u) := by
  unfold claimReceiveError; split
  · exact h.setsIcu
  · exact h

/-! ## The sequencer -/

/-- What the zone does of itself is made of elementary changes. -/
theorem zone {v : State} (h : Moves motion line s b v) (g : ZoneMoves v u) : Moves motion line s b u := by
  induction g with
  | refl => exact h
  | byZs _ ht _ _ ih => exact ih.setsZs ht
  | byCd w _ ih => exact ih.byCd w
  | byUnconfirmed w _ ih => exact ih.follows _ w (by decide) (fun _ => by decide) fun _ => by decide
  | byIcu _ hl ih => exact ih.byIcu hl
  | byStatus _ ih => exact ih.byPlace _
  | byClaim n w d _ ih => exact ih.byPlace _
  | byRelease n r _ ih => exact ih.byRelease n r
  | byClose _ ih => exact ih.byClose

theorem makesClaim (h : Moves motion line s b u) : Moves motion line s b (makeClaim u) := h.zone ZoneMoves.refl.makesClaim

theorem withdrawsAtSettle (h : Moves motion line s b u) : Moves motion line s b (withdrawAtSettle u) :=
  h.zone ZoneMoves.refl.withdrawsAtSettle

theorem beginsStage (h : Moves motion line s b u) : Moves motion line s b (beginStage u) :=
  h.zone ZoneMoves.refl.beginsStage

theorem leavesPause (h : Moves motion line s b u) : Moves motion line s b (leavePause u) :=
  h.zone ZoneMoves.refl.leavesPause

theorem holdFallsDue (h : Moves motion line s b u) : Moves motion line s b (holdFalls u) :=
  h.zone ZoneMoves.refl.holdFallsDue

theorem recomputesHold (h : Moves motion line s b u) : Moves motion line s b (recomputeHold u) :=
  h.zone ZoneMoves.refl.recomputesHold

theorem runsShutdown (l : List Nat) (h : Moves motion line s b u) : Moves motion line s b (runShutdown l u) :=
  h.zone (ZoneMoves.runsShutdown l .refl)

theorem tripsZone (h : Moves motion line s b u) (g : Nat) : Moves motion line s b (zsTrip g u) := by
  have h1 : Moves motion line s b
      (u.setZs { u.zs with ta := max u.zs.ta u.nodeTime, grade := max u.zs.grade g }) := h.byZs (Nat.le_refl _)
  unfold zsTrip; split
  · exact h
  · exact h1.zone ZoneMoves.refl.hasTripEffect

theorem recomputesStart (h : Moves motion line s b u) : Moves motion line s b (recomputeStart u) := h.setsZs

theorem takesActivity (h : Moves motion line s b u) {t : Nat} (ht : t ≤ u.nodeTime) (g : Nat) :
    Moves motion line s b (takeActivity t g u) := by
  have h1 : Moves motion line s b (u.setZs { u.zs with ta := max u.zs.ta t }) :=
    h.byZs (by change max u.zs.ta t ≤ max u.zs.ta u.nodeTime; omega)
  unfold takeActivity; dsimp only; split
  · exact h1.setsZs.raisesRecord _
  · exact h1

theorem reportsActivity (h : Moves motion line s b u) {t : Nat} (ht : t ≤ u.nodeTime) (g : Nat) (aftershock : Bool) :
    Moves motion line s b (activity t g aftershock u) := by
  have h1 := h.takesActivity ht g
  unfold activity; dsimp only; repeat' split
  · exact h
  · exact h1.zone (ZoneMoves.refl.hasActivityEffect _)
  · exact h1.recomputesHold.zone (ZoneMoves.refl.hasActivityEffect _)

theorem endsIfOver (h : Moves motion line s b u) : Moves motion line s b (endIfOver u) := h.zone ZoneMoves.refl.endsIfOver

theorem leavesPending (h : Moves motion line s b u) (c : Channel) (v : Bool) : Moves motion line s b (leftPending c v u) :=
  h.zone (ZoneMoves.refl.leavesPending c v)

theorem reportsPrecheck (h : Moves motion line s b u) (before : Bool) : Moves motion line s b (precheckReport before u) :=
  h.zone (ZoneMoves.refl.reportsPrecheck before)

theorem changesLine (h : Moves motion line s b u) (before : Bool) : Moves motion line s b (lineChange before u) :=
  h.zone (ZoneMoves.refl.changesLine before)

theorem holdsZone (h : Moves motion line s b u) : Moves motion line s b (zsHold u) := by
  have h1 : Moves motion line s b (u.setZs { u.zs with consoleHold := true }) := h.setsZs
  unfold zsHold; dsimp only; repeat' split
  · exact h1.zone (ZoneMoves.refl.withdrawsClaim.entersPaused _)
  · exact h1.setsZs
  · exact h1.setsZs.zone (ZoneMoves.refl.entersPaused _)
  · exact h1.setsZs
  all_goals exact h1

theorem resumesZone (h : Moves motion line s b u) : Moves motion line s b (zsResume u) := h.setsZs.leavesPause

theorem confirmsZone (h : Moves motion line s b u) : Moves motion line s b (zsConfirm u) :=
  h.zone ZoneMoves.refl.confirmsZone

end Moves

end Sys2Proof.Machine

/-! The events of a running part outside the zone, as elementary changes. -/

namespace Sys2Proof.Machine

namespace Moves

variable {motion line b : Bool} {s u : State}

/-- No elementary change moves node time or the phase. -/
theorem nodeTime_phase (h : Moves motion line s b u) : u.nodeTime = s.nodeTime ∧ u.phase = s.phase := by
  have zone {v w : State} (hz : zoneKept v = zoneKept w) : v.nodeTime = w.nodeTime ∧ v.phase = w.phase := by
    obtain ⟨ht, -, -, -, -, hp, -⟩ := zoneKept_fields hz
    exact ⟨ht, hp⟩
  induction h with
  | refl => exact ⟨rfl, rfl⟩
  | byPlace e _ ih => exact (zone (zoneKept_place e _)).imp (·.trans ih.1) (·.trans ih.2)
  | byRelease n r _ ih => exact (zone (zoneKept_queueRelease n r _)).imp (·.trans ih.1) (·.trans ih.2)
  | byRequest a o v g l _ ih => exact (zone (zoneKept_rcpTrip a o v g l _)).imp (·.trans ih.1) (·.trans ih.2)
  | byClose _ ih => exact (zone (zoneKept_rcpClose _)).imp (·.trans ih.1) (·.trans ih.2)
  | bySettle _ ih => exact (zone (zoneKept_takeWaitingClose _)).imp (·.trans ih.1) (·.trans ih.2)
  | byRaise f _ _ _ _ ih => rw [raiseFault_eq]; exact ih
  | byClear f _ _ _ ih => rw [clearFault_eq]; exact ih
  | byMode m _ ih => rw [takeHealth_eq]; exact ih
  | byMp _ _ ih | byTest _ _ _ ih | bySlc _ _ _ ih | byPv _ _ ih | byVtu _ _ ih | byCd _ _ ih | byPins _ _ ih
  | byDrawn _ ih | byZs _ _ ih | byIcu _ _ ih | byAppend _ _ ih | byRemove _ _ ih | byRcp _ _ _ _ ih | byNotice _ ih
  | byAck _ ih | byResult _ _ _ ih => exact ih

theorem activityAt (h : Moves motion line s b u) {t : Nat} (ht : t ≤ s.nodeTime) (g : Nat) (aftershock : Bool) :
    Moves motion line s b (activity t g aftershock u) :=
  h.reportsActivity (h.nodeTime_phase.1 ▸ ht) g aftershock

/-- Two operations that elementary changes make up, in either order. -/
theorem eitherOrder {f g : State → State} {b' : Bool} (first : Bool) (h : Moves motion line s b u)
    (hf : ∀ {c v}, Moves motion line s c v → Moves motion line s c (f v))
    (hg : ∀ {c v}, Moves motion line s c v → Moves motion line s (c || b') (g v)) :
    Moves motion line s (b || b') (inEitherOrder first f g u) := by
  unfold inEitherOrder; split
  · exact hg (hf h)
  · exact hf (hg h)

/-- A choice between two states, each of which elementary changes reach. -/
theorem either {v : State} {p : Prop} [Decidable p] (hu : Moves motion line s b u) (hv : Moves motion line s b v) :
    Moves motion line s b (if p then u else v) := by
  split
  · exact hu
  · exact hv

/-! ## The VTU -/

theorem evaluatesArming (h : Moves motion line s b u) : Moves motion line s b (armingEval u) := by
  unfold armingEval; split
  · exact h.byVtu _
  · exact h

theorem settlesClose (h : Moves motion line s b u) : Moves motion line s false (settleClose u) := by
  have settled := h.bySettle
  unfold settleClose; split
  · exact settled.recomputesHold
  · rwa [takeWaitingClose, if_neg ‹_›] at settled

theorem tripsArmed (h : Moves motion line s b u) (own origin : Cause) (votes grade : Nat) :
    Moves motion line s false (tripArmed own origin votes grade u) := by
  have placed := (h.byVtu { u.vtu with armed := false, lastTrip := some u.nodeTime,
                                       rearmDue := some (u.nodeTime + (cfg u).hw) }).byPlace
    (.trip own origin votes (tripGrade grade u) u.nodeTime)
  have driven : Moves motion line s b (if own = .wire then
      place (.trip own origin votes (tripGrade grade u) u.nodeTime) (disarm u)
      else startDrive (place (.trip own origin votes (tripGrade grade u) u.nodeTime) (disarm u))) := by
    split
    · exact placed
    · exact placed.byVtu _
  refine settlesClose (b := b || true) (driven.byDrawn.eitherOrder _ (fun h => h.tripsZone _) fun {c} v h => ?_)
  rw [Bool.or_true]
  exact h.byRequest ..

theorem tripsIfArmed (h : Moves motion line s false u) (own origin : Cause) (votes grade : Nat) :
    Moves motion line s false (tripOccasion own origin votes grade u) := by
  unfold tripOccasion; repeat' split
  · exact h.tripsArmed ..
  · exact h.byVtu { (disarm u).vtu with wouldTrip := min 255 ((disarm u).vtu.wouldTrip + 1) }
  · exact h

theorem votes (h : Moves motion line s false u) : Moves motion line s false (voteTest u) := by
  unfold voteTest; dsimp only; repeat' split
  · exact (h.byVtu _).tripsIfArmed ..
  · exact (h.byVtu _).evaluatesArming
  · exact h

theorem votesSolo (h : Moves motion line s false u) : Moves motion line s false (soloTest u) := by
  unfold soloTest; split
  · exact h.tripsIfArmed ..
  · exact h

theorem followsExclusion (h : Moves motion line s false u) (before : Bool) :
    Moves motion line s false (followExclusion before u) := by
  unfold followExclusion refreshOwnWindow; split
  · exact h
  · exact (h.setsPeer _ _).votes

theorem tripArrives (h : Moves motion line s false u) (p : TripPayload) :
    Moves motion line s false (vtuTripArrival p u) := by
  unfold vtuTripArrival permitRequest; split
  · exact (h.tripsIfArmed ..).permitsRecord
  · exact h.tripsIfArmed ..

theorem releasesWire (h : Moves motion line s b u) : Moves motion line s b (wireReleases u) := by
  unfold wireReleases; dsimp only; split
  · exact ((h.byVtu _).byClear _ (fun _ => by decide) fun _ => by decide).evaluatesArming
  · exact (h.byVtu _).evaluatesArming

/-! ## Peer View -/

theorem updatesPresence (h : Moves motion line s b u) (i : StationId) (t : Nat) :
    Moves motion line s b (presenceUpdate i t u) := by
  unfold presenceUpdate; dsimp only; split
  · exact (h.setsPeer _ _).comparesDigests
  · exact h.setsPeer _ _

theorem storesObservation (h : Moves motion line s b u) (i : StationId) (o : Observation) :
    Moves motion line s b (storeObservation i o u) := by
  unfold storeObservation; dsimp only; repeat' split
  all_goals exact h.setsPeer _ _

/-! ## Motion -/

theorem setsMp (h : Moves motion line s b u) {m : MotionState} (hm : MotionStands u.mp m) :
    Moves motion line s b (u.setMp m) := h.byMp fun _ => hm

theorem movesMp (h : Moves true line s b u) (m : MotionState) : Moves true line s b (u.setMp m) := h.byMp nofun

theorem abortsTest (h : Moves motion line s b u) : Moves motion line s b (abortTest u) := by
  refine either (byNotice (h.setsMp ?_)) h
  exact ⟨rfl, rfl, rfl, rfl, rfl, rfl, rfl⟩

theorem reportsToVtu (h : Moves motion line s false u) (raised : Bool) :
    Moves motion line s false (reportToVtu raised u) := by
  unfold reportToVtu; split
  · exact h.votes.votesSolo
  · exact h.votes

theorem handsReport (h : Moves motion line s false u) (ph : ReportPhase) (raised aftershock : Bool) :
    Moves motion line s false (handReport ph raised aftershock u) := by
  have order {v : State} (hv : Moves motion line s false v) (g : Nat) (first : Bool) :
      Moves motion line s false (inEitherOrder first (reportToVtu raised)
        (activity v.nodeTime g aftershock) (drawn v)) := by
    have ht : v.nodeTime ≤ s.nodeTime := Nat.le_of_eq hv.nodeTime_phase.1
    unfold inEitherOrder; split
    · exact (hv.byDrawn.reportsToVtu _).activityAt ht g aftershock
    · exact (hv.byDrawn.activityAt ht g aftershock).reportsToVtu _
  have stored := h.storesObservation (ownId u)
    { event := u.mp.event, phase := ph, onset := some u.mp.onsetTime, peak := u.mp.pmg, grade := u.mp.grade }
  unfold handReport; dsimp only
  refine order ?_ _ _
  split
  · exact stored.byPlace _
  · exact stored

theorem issues (h : Moves motion line s false u) (ph : ReportPhase) (raised aftershock : Bool) :
    Moves motion line s false (issueReport ph raised aftershock u) :=
  (h.setsMp (by exact ⟨rfl, rfl, rfl, rfl, rfl, rfl, rfl⟩)).handsReport ph raised aftershock

theorem endsEvent (h : Moves true line s false u) (next : DetState) (raised : Bool) :
    Moves true line s false (endEvent next raised u) := (h.movesMp _).issues _ _ _

theorem takesVerdict (h : Moves true line s false u) : Moves true line s false (takeVerdict u) :=
  ((h.movesMp _).follows _ _ (by decide) (fun _ => by decide) nofun).followsExclusion _

theorem takesQuietSample (h : Moves true line s false u) (p : Sample) : Moves true line s false (quietSample p u) :=
  either ((h.movesMp _).issues _ _ _) (h.movesMp _)

theorem reportsWithin (h : Moves motion line s false u) (raised : Bool) :
    Moves motion line s false (reportWithin raised u) :=
  either (h.issues _ _ _) (h.activityAt (Nat.le_of_eq h.nodeTime_phase.1) _ _)

theorem takesEventSample (h : Moves true line s false u) (p : Sample) : Moves true line s false (eventSample p u) :=
  either ((h.movesMp _).endsEvent _ _) ((h.movesMp _).reportsWithin _)

theorem takesMaskedSample (h : Moves true line s false u) (p : Sample) : Moves true line s false (maskedSample p u) :=
  either (either (h.movesMp _).takesVerdict (h.movesMp _)) (either ((h.movesMp _).movesMp _) (h.movesMp _))

theorem takesSample (h : Moves true line s false u) (p : Sample) : Moves true line s false (pipeline p u) := by
  unfold pipeline; split
  · exact h.movesMp _
  · exact h.movesMp _
  · exact h.takesQuietSample p
  · exact h.takesEventSample p
  · exact h.takesMaskedSample p

theorem countsRecovery (h : Moves true line s false u) : Moves true line s false (countRecovery u) := by
  have cleared (before : Bool) : Moves true line s false (followExclusion before
      (clearFault .sensorLost (u.setMp { u.mp with recovery := 0 }))) :=
    ((h.movesMp _).byClear _ (fun _ => by decide) nofun).followsExclusion _
  unfold countRecovery afterRecovery; repeat' split
  · exact (cleared _).movesMp _
  · exact cleared _
  · exact h.movesMp _
  · exact h

theorem processesSample (h : Moves true line s false u) (x y z : RawCount) :
    Moves true line s false (processSample x y z u) := ((h.movesMp _).takesSample _).countsRecovery

theorem losesSensor (h : Moves true line s false u) : Moves true line s false (loseSensor u) := by
  have ended : Moves true line s false (if u.mp.det = .event then endEvent .event false u else u) := by
    split
    · exact h.endsEvent _ _
    · exact h
  unfold loseSensor; dsimp only
  generalize (if u.mp.det = .event then endEvent .event false u else u) = v at ended ⊢
  have tested : Moves true line s false (if v.mp.det = .masked then endTestByLoss v else v) := by
    unfold endTestByLoss; split
    · exact ended.abortsTest.movesMp _
    · exact ended
  exact ((tested.movesMp _).byRaise _ (by decide) (fun _ => by decide) nofun).followsExclusion _

theorem countsMissing (h : Moves true line s false u) : Moves true line s false (countMissing u) := by
  unfold countMissing; dsimp only; split
  · exact (h.movesMp _).losesSensor
  · exact h.movesMp _

/-! ## The line and its frames -/

theorem hearsLine (h : Moves motion line s b u) : Moves motion line s b (hearLine u) := by
  unfold hearLine clearLineFault; dsimp only; split
  · exact (h.setsSlc.byClear _ (fun _ => by decide) fun _ => by decide).changesLine _
  · exact h.setsSlc

theorem takesConflict (h : Moves motion line s b u) : Moves motion line s b (takeConflict u) :=
  h.setsSlc.byRaise _ (by decide) (fun _ => by decide) fun _ => by decide

theorem queuesStatus (h : Moves motion line s b u) : Moves motion line s b (queueStatus u) := h.byPlace _

end Moves

/-- The effect of a console command (R202 to R208, R212). -/
inductive Command : (State → CmdResult × State) → Prop
  | permit : Command permitEffect
  | hold : Command holdEffect
  | resume : Command resumeEffect
  | shutdown : Command shutdownEffect
  | test : Command testEffect
  | mode (m : Mode) : Command (modeEffect m)
  | ackFaults : Command ackFaultsEffect
  | report : Command reportEffect

/-- How a frame is delivered to its block, by class (R41). -/
inductive Delivery : (State → State) → Prop
  | trip (p : TripPayload) : Delivery (deliverTrip p)
  | observe (i : StationId) (p : ObservePayload) : Delivery (deliverObserve i p)
  | claim (i : StationId) (p : ClaimPayload) : Delivery (deliverClaim i p)
  | release (i : StationId) (p : ReleasePayload) : Delivery (deliverRelease i p)
  | status (i : StationId) (p : StatusPayload) : Delivery (deliverStatus i p)
  | command (code : Nat) (i : StationId) (p : CommandPayload) {effect : State → CmdResult × State} :
      Command effect → Delivery (deliverCommand code i p effect)

section
variable (s u : State) (hrun : s.phase = .running) (h : Moves false false s false u)
include h

theorem permitEffect_moves : Moves false false s false (permitEffect u).2 := by
  unfold permitEffect; split
  · exact h.beginsStage
  · exact h

theorem shutdownEffect_moves : Moves false false s false (shutdownEffect u).2 := by
  unfold shutdownEffect; split
  · exact h.tripsIfArmed ..
  · exact h

include hrun in
theorem testEffect_moves : Moves false false s false (testEffect u).2 := by
  unfold testEffect; split
  · exact h.byTest (h.nodeTime_phase.2.trans hrun) ‹_›
  · exact h

theorem modeEffect_moves (m : Mode) : Moves false false s false (modeEffect m u).2 := by
  have change : Moves false false s false (changeMode m u) := by
    unfold changeMode setMode; split
    · exact ((h.byVtu _).byMode _).queuesStatus.votes
    · exact (((h.byRemove 1).byRemove 3).byMode _).queuesStatus
  unfold modeEffect; split
  · dsimp only; split
    · exact h
    · exact change
  · exact h

end

/-- Each command's effect is made of elementary changes. -/
theorem Command.moves {effect : State → CmdResult × State} (hc : Command effect) {s u : State}
    (hrun : s.phase = .running) (h : Moves false false s false u) : Moves false false s false (effect u).2 := by
  cases hc with
  | permit => exact permitEffect_moves s u h
  | hold => exact h.holdsZone
  | resume => exact h.resumesZone
  | shutdown => exact shutdownEffect_moves s u h
  | test => exact testEffect_moves s u hrun h
  | mode m => exact modeEffect_moves s u h m
  | ackFaults => exact h.byAck
  | report => exact h.queuesStatus

/-- What a frame delivered to its block, or a command's effect, does: elementary changes in a running part whose
frame has ended at now or before (R41). -/
def Delivers (deliver : State → State) : Prop :=
  ∀ s u, s.phase = .running → s.slc.tEnd ≤ s.nodeTime → u.slc.tEnd = s.slc.tEnd →
    Moves false false s false u → Moves false false s false (deliver u)

theorem delivers_trip (p : TripPayload) : Delivers (deliverTrip p) := by
  intro s u _ ht hu h
  have tested := h.abortsTest
  have hend : (abortTest u).slc.tEnd ≤ s.nodeTime := by
    have same : (abortTest u).slc = u.slc := by unfold abortTest; split <;> rfl
    rw [same, hu]; exact ht
  unfold deliverTrip inEitherOrder; dsimp only; split
  · exact (tested.byDrawn.tripArrives p).activityAt hend _ _
  · exact (tested.byDrawn.activityAt hend _ _).tripArrives p

theorem delivers_observe (i : StationId) (p : ObservePayload) : Delivers (deliverObserve i p) := by
  intro s u _ ht hu h
  have stored := h.storesObservation i (observationOf p u)
  have hend' := congrArg LineCtl.tEnd (viewKept_slc (viewKept_storeObservation i (observationOf p u) u))
  unfold deliverObserve; dsimp only
  rw [← observationOf]
  generalize storeObservation _ _ u = v at *
  have tested : Moves false false s false (if freshPhase p.phase then abortTest v else v) ∧
      (if freshPhase p.phase then abortTest v else v).slc.tEnd ≤ s.nodeTime := by
    have same : (abortTest v).slc = v.slc := by unfold abortTest; split <;> rfl
    split
    · exact ⟨stored.abortsTest, by rw [same, hend']; exact hu ▸ ht⟩
    · exact ⟨stored, by rw [hend']; exact hu ▸ ht⟩
  generalize (if freshPhase p.phase then abortTest v else v) = w at *
  obtain ⟨hw, hwt⟩ := tested
  unfold inEitherOrder; split
  · exact hw.byDrawn.votes.activityAt hwt _ _
  · exact (hw.byDrawn.activityAt hwt _ _).votes

theorem delivers_claim (i : StationId) (p : ClaimPayload) : Delivers (deliverClaim i p) :=
  fun _ _ _ _ _ h => h.byAppend _

theorem delivers_release (i : StationId) (p : ReleasePayload) : Delivers (deliverRelease i p) :=
  fun _ _ _ _ _ h => h.byIcu List.filter_sublist

theorem delivers_status (i : StationId) (p : StatusPayload) : Delivers (deliverStatus i p) :=
  fun _ _ _ _ _ h => (h.setsPeer _ _).comparesDigests

/-- A command is delivered by its effect, which is made of elementary changes (R200, R201). -/
theorem delivers_command (code : Nat) (i : StationId) (p : CommandPayload) {effect : State → CmdResult × State}
    (he : Command effect) : Delivers (deliverCommand code i p effect) := by
  intro s u hrun _ _ h
  unfold deliverCommand; repeat' split
  · exact (he.moves hrun h).byResult _ _
  · exact h.byResult _ _
  · exact h

theorem Delivery.delivers {deliver : State → State} (h : Delivery deliver) : Delivers deliver := by
  cases h with
  | trip p => exact delivers_trip p
  | observe i p => exact delivers_observe i p
  | claim i p => exact delivers_claim i p
  | release i p => exact delivers_release i p
  | status i p => exact delivers_status i p
  | command code i p he => exact delivers_command code i p he

end Sys2Proof.Machine

/-! What a command comes to, once node time has run on to it: a deadline or an edge of a running part, or one of the
events of the line, the sensor, the cold start and the reset input that are told apart here. -/

namespace Sys2Proof.Machine

theorem phase_of_running {s : State} (h : running s = true) : s.phase = .running := by
  simpa [running] using h

/-- A deadline that may fall due in a running part, an edge at one of its inputs, or an acknowledgement of the
memory. -/
inductive Deadline : (State → State) → Prop
  | selftest : Deadline selftestDue
  | idConflict : Deadline idConflictDeadline
  | heard : Deadline heardDeadline
  | statusPeriod : Deadline statusPeriod
  | silence (i : StationId) : Deadline (silenceDeadline i)
  | window (i : StationId) : Deadline (windowDeadline i)
  | assertion : Deadline assertionEdge
  | release : Deadline releaseEdge
  | confirm : Deadline confirmDeadline
  | stuck : Deadline stuckDeadline
  | rearm : Deadline rearmDeadline
  | drive : Deadline driveDeadline
  | ackInput (c : Channel) (high : Bool) : Deadline (ackInputChange c high)
  | filter (c : Channel) : Deadline (filterDeadline c)
  | ack (c : Channel) : Deadline (ackDeadline c)
  | gap : Deadline gapDeadline
  | hold : Deadline holdDeadline
  | startWait : Deadline startWait
  | reset : Deadline resetDeadline
  | settle : Deadline settleDeadline
  | backoff : Deadline backoffDeadline
  | claimExpiry (i : StationId) : Deadline (claimExpiry i)
  | ownExpiry : Deadline ownExpiry
  | inrush : Deadline inrushDeadline
  | restartGap : Deadline restartGapDeadline
  | writeAck : Deadline recordWriteAck
  | attempt : Deadline attemptDeadline

/-- A part that is not running is left as it is but for the pins, and a running one by elementary changes. -/
def Falls (f : State → State) : Prop :=
  ∀ s, (s.phase = .running ∧ Moves false false s false (f s)) ∨ ∃ p, f s = s.setPins p

namespace Deadline

variable {s u : State}

theorem stands (s : State) : ∃ p, s = s.setPins p := ⟨s.pins, rfl⟩

theorem guarded {q : Prop} {p : Prop} [Decidable p] (h : p → q ∧ Moves false false s false u) :
    (q ∧ Moves false false s false (if p then u else s)) ∨ ∃ x, (if p then u else s) = s.setPins x := by
  split
  · exact .inl (h ‹_›)
  · exact .inr (stands s)

/-- A deadline of a running part: nothing where it has not fallen due, elementary changes where it has. -/
theorem whenDue {p : Bool} (hp : p = true → running s = true) (h : Moves false false s false u) :
    (s.phase = .running ∧ Moves false false s false (if p then u else s)) ∨
      ∃ x, (if p then u else s) = s.setPins x := guarded fun hd => ⟨phase_of_running (hp hd), h⟩

theorem due_running {a b : Bool} (h : (running s && a && b) = true) : running s = true := by
  rw [Bool.and_assoc, Bool.and_eq_true] at h
  exact h.1

theorem due_running' {a : Bool} (h : (running s && a) = true) : running s = true := by
  rw [Bool.and_eq_true] at h
  exact h.1

theorem selftestDue_falls : Falls selftestDue := by
  intro s
  refine guarded fun hd => ?_
  have hrun := phase_of_running (due_running' hd)
  refine ⟨hrun, ?_⟩
  split
  next ht => exact .byTest (Moves.refl.setsMp ⟨rfl, rfl, rfl, rfl, rfl, rfl, rfl⟩) hrun ht
  next => exact Moves.refl.setsMp ⟨rfl, rfl, rfl, rfl, rfl, rfl, rfl⟩

theorem settleDeadline_falls : Falls settleDeadline := by
  intro s
  refine guarded fun h => ⟨phase_of_running (due_running h), ?_⟩
  exact .either (Moves.refl.setsIcu).confirmsZone Moves.refl.withdrawsAtSettle

/-! ## Channels and wire -/

theorem ackInputChange_falls (c : Channel) (high : Bool) : Falls (ackInputChange c high) := by
  intro s
  unfold ackInputChange; dsimp only; split
  next h =>
    have hrun := phase_of_running (due_running h)
    split
    · exact .inl ⟨hrun, (Moves.refl.byPins _).setsChan _ _⟩
    · exact .inr ⟨_, rfl⟩
  next => exact .inr ⟨_, rfl⟩

theorem takesFiltered {motion line b : Bool} (h : Moves motion line s b u) (c : Channel) (level : Bool) (r : ChanRun) :
    Moves motion line s b (takeFiltered c level r u) := by
  unfold takeFiltered; dsimp only; split
  · exact ((h.setsChan _ _).followsUnconfirmed.leavesPending _ _).reportsPrecheck _
  · exact (h.setsChan _ _).followsUnconfirmed.reportsPrecheck _

theorem filterDeadline_falls (c : Channel) : Falls (filterDeadline c) := by
  intro s
  refine guarded fun h => ⟨phase_of_running (due_running' h), ?_⟩
  split
  · dsimp only; split
    · exact Moves.refl.setsChan _ _
    · exact takesFiltered .refl _ _ _
  · exact .refl

theorem ackDeadline_falls (c : Channel) : Falls (ackDeadline c) := by
  intro s
  refine guarded fun h => ⟨phase_of_running (due_running' h), ?_⟩
  split
  · exact (Moves.refl.setsChan _ _).followsUnconfirmed.leavesPending _ _
  · exact .refl

theorem assertionEdge_falls : Falls assertionEdge := by
  intro s
  unfold assertionEdge; dsimp only; split
  next h => exact .inl ⟨phase_of_running (due_running' h), ((Moves.refl.byPins _).byVtu _).abortsTest⟩
  next => exact .inr ⟨_, rfl⟩

theorem releaseEdge_falls : Falls releaseEdge := by
  intro s
  unfold releaseEdge; dsimp only; split
  next h => exact .inl ⟨phase_of_running (due_running' h), (Moves.refl.byPins _).releasesWire⟩
  next => exact .inr ⟨_, rfl⟩

/-! ## Records -/

theorem rewrites {motion line b : Bool} (h : Moves motion line s b u) : Moves motion line s b (startRewrite u) :=
  .either (h.startWrites false) h

theorem recordWriteAck_falls : Falls recordWriteAck := by
  intro s
  refine guarded fun h => ⟨?_, rewrites ?_⟩
  · unfold writeOpen at h
    rw [Bool.and_assoc] at h
    exact phase_of_running (due_running h)
  · exact (Moves.refl.setsRcp.follows _ _ (by decide) (fun _ => by decide) fun _ => by decide).follows _ _ (by decide)
      (fun _ => by decide) fun _ => by decide

theorem attemptDeadline_falls : Falls attemptDeadline := by
  intro s
  refine guarded fun h => ⟨phase_of_running (due_running h), .either (rewrites ?_) ?_⟩
  · exact (Moves.refl.setsRcp.setsRcp).byRaise _ (by decide) (fun _ => by decide) fun _ => by decide
  · exact Moves.refl.setsRcp.startWrites true

/-- Each deadline and each edge is made of elementary changes. -/
theorem falls {f : State → State} (h : Deadline f) : Falls f := by
  cases h with
  | selftest => exact selftestDue_falls
  | idConflict =>
    exact fun _ => whenDue due_running' (Moves.refl.setsSlc.byClear _ (fun _ => by decide) fun _ => by decide)
  | heard =>
    exact fun _ => whenDue due_running'
      ((Moves.refl.setsSlc.byRaise .lineIsolated (by decide) (fun _ => by decide) fun _ => by decide).changesLine _)
  | statusPeriod => exact fun _ => whenDue due_running' Moves.refl.setsSlc.queuesStatus
  | silence i => exact fun _ => whenDue due_running (((Moves.refl.removesClaim i).setsPeer _ _).comparesDigests)
  | window i => exact fun _ => whenDue due_running' (Moves.refl.setsPeer _ _).votes
  | assertion => exact assertionEdge_falls
  | release => exact releaseEdge_falls
  | confirm =>
    exact fun s => whenDue due_running
      (((Moves.refl.byVtu _).activityAt (t := s.nodeTime) (Nat.le_refl _) _ _).tripsIfArmed ..)
  | stuck =>
    exact fun _ => whenDue due_running
      ((Moves.refl.byVtu _).byRaise .wireStuck (by decide) (fun _ => by decide) fun _ => by decide).evaluatesArming
  | rearm => exact fun _ => whenDue due_running' (Moves.refl.byVtu _).evaluatesArming
  | drive => exact fun _ => whenDue due_running (Moves.refl.byVtu _)
  | ackInput c high => exact ackInputChange_falls c high
  | filter c => exact filterDeadline_falls c
  | ack c => exact ackDeadline_falls c
  | gap => exact fun _ => whenDue due_running (Moves.refl.setsZs.runsShutdown _)
  | hold => exact fun _ => whenDue due_running Moves.refl.holdFallsDue
  | startWait => exact fun _ => whenDue due_running Moves.refl.beginsStage
  | reset => exact fun _ => whenDue due_running' Moves.refl.setsZs.leavesPause
  | settle => exact settleDeadline_falls
  | backoff => exact fun _ => whenDue due_running Moves.refl.makesClaim
  | claimExpiry i => exact fun _ => whenDue due_running (Moves.refl.removesClaim _)
  | ownExpiry => exact fun _ => whenDue due_running (Moves.refl.removesClaim _).endsClaim
  | inrush =>
    intro s
    refine guarded fun h => ⟨?_, Moves.refl.setsZs.endsIfOver⟩
    unfold inrushFalls at h
    rw [Bool.and_assoc] at h
    exact phase_of_running (due_running h)
  | restartGap => exact fun _ => whenDue due_running Moves.refl.beginsStage
  | writeAck => exact recordWriteAck_falls
  | attempt => exact attemptDeadline_falls

theorem moves {f : State → State} (h : Deadline f) (s : State) : Moves false false s false (f s) := by
  rcases h.falls s with ⟨-, hm⟩ | ⟨p, hp⟩
  · exact hm
  · rw [hp]; exact Moves.refl.byPins p

end Deadline

/-- What a command comes to from `s`. -/
inductive Effect (s : State) : State → Prop
  | nothing : Effect s s
  | falls {f : State → State} : Deadline f → Effect s (f s)
  | pins (p : Pins) : Effect s (s.setPins p)
  | sample (x y z : RawCount) : sampling s = true → Effect s (processSample x y z s)
  | missing : sampling s = true → Effect s (countMissing s)
  | follows {l : LineCtl} : lineUp s = true → s.slc.line ≠ .sending → l.line ≠ .sending →
      l.queue = s.slc.queue → l.inFlight = s.slc.inFlight → l.score = s.slc.score → Effect s (s.setSlc l)
  | sends {e : TxEntry} {rest : List TxEntry} : maySend s = true → s.slc.queue = e :: rest →
      Effect s (sendEntry e s)
  | loses : s.slc.line = .sending → Effect s (setLine .receiving (failAttempt s))
  | bitError : s.slc.line = .sending → Effect s (scoreUp .bit (setLine .seeking (failAttempt s)))
  | completes : s.slc.line = .sending → Effect s (frameCompleted s)
  | receiveError (kind : ErrKind) : s.phase = .running → s.slc.line = .receiving →
      Effect s (claimReceiveError (scoreUp kind (setLine .seeking s)))
  | arrives (i : StationId) {deliver : State → State} : s.phase = .running → s.slc.line = .receiving →
      Delivery deliver →
      Effect s (takeFrame i deliver (s.setSlc { s.slc with line := .counting, tEnd := s.nodeTime }))
  | image (c : Option NodeConfig) (digest : Nat) : s.phase = .readImage → Effect s (takeImage c digest s)
  | retries : s.phase = .readImage ∨ s.phase = .readRecord →
      Effect s (s.setRcp { s.rcp with readRetry := true, readDue := some (s.nodeTime + 200) })
  | record (r : Option TripRecord) : s.phase = .readRecord → Effect s (finishColdStart r s)
  | resets : s.phase = .running → Effect s (beginWarmReset (setResetPin true s))
  | endOfReset : s.phase = .warmReset → Effect s (endWarmReset (setResetPin false s))

namespace Effect

variable {s u : State}

theorem guarded {p : Prop} [Decidable p] (h : p → Effect s u) : Effect s (if p then u else s) := by
  split
  · exact h ‹_›
  · exact .nothing

/-! ## Cold start and reset input -/

theorem ofImageRead (image : List Byte) : Effect s (imageRead image s) := by
  refine guarded fun ⟨hp, _⟩ => ?_
  split
  · exact .image _ _ hp
  · exact .image _ _ hp

theorem ofRecordRead (bytes : List Byte) : Effect s (recordRead bytes s) :=
  guarded fun ⟨hp, _⟩ => .record _ hp

theorem ofReadFails : Effect s (readFails s) := by
  refine guarded fun hp => ?_
  split
  · split
    next hi => exact .image _ _ hi
    next hi => exact .record _ (hp.resolve_left hi)
  · exact .retries hp

theorem ofWarmReset : Effect s (warmReset s) := by
  unfold warmReset; dsimp only; split
  next h => exact .resets (phase_of_running h)
  next => exact .pins _

theorem ofReleaseReset : Effect s (releaseReset s) := by
  unfold releaseReset; dsimp only; split
  next h => exact .endOfReset h
  next => exact .pins _

/-! ## Sensor -/

theorem ofDataReady (x y z : RawCount) : Effect s (dataReady x y z s) := guarded (.sample x y z)

theorem ofMissingDeadline : Effect s (missingDeadline s) :=
  guarded fun h => .missing ((Bool.and_eq_true _ _).mp h).1

/-! ## The line -/

theorem ofTransmitStart : Effect s (transmitStart s) := by
  refine guarded fun hm => ?_
  split
  next hq => exact .sends hm hq
  next => exact .nothing

theorem ofLine {l : LineState} {p : Prop} [Decidable p] (hp : p → lineUp s = true ∧ s.slc.line ≠ .sending)
    (hl : l ≠ .sending) : Effect s (if p then setLine l s else s) :=
  guarded fun h => .follows (hp h).1 (hp h).2 hl rfl rfl rfl

theorem ofLineIdle : Effect s (lineIdle s) := by
  refine ofLine (fun h => ?_) nofun
  simp only [Bool.and_eq_true, Bool.or_eq_true, beq_iff_eq] at h
  obtain ⟨hup, hline⟩ := h
  exact ⟨hup, by rcases hline with hline | hline <;> rw [hline] <;> decide⟩

theorem lineUp_and {l : LineState} (hl : l ≠ .sending) (h : (lineUp s && s.slc.line == l) = true) :
    lineUp s = true ∧ s.slc.line ≠ .sending := by
  rw [Bool.and_eq_true, beq_iff_eq] at h
  exact ⟨h.1, h.2 ▸ hl⟩

theorem ofDominantBit : Effect s (dominantBitBeforeIdle s) := ofLine (lineUp_and (by decide)) nofun

theorem ofIgnoredFrame : Effect s (ignoredFrame s) := ofLine (lineUp_and (by decide)) nofun

theorem ofOtherStationSof : Effect s (otherStationSof s) :=
  guarded fun h => .follows (lineUp_and (by decide) h).1 (lineUp_and (by decide) h).2 nofun rfl rfl rfl

theorem ofTakeReceiveError (kind : RxError) (h : (lineUp s && s.slc.line == .receiving) = true) :
    Effect s (takeReceiveError kind s) := by
  obtain ⟨hup, hline⟩ := lineUp_and (by decide) h
  rw [Bool.and_eq_true, beq_iff_eq] at h
  unfold takeReceiveError; dsimp only; split
  next hrun => exact .receiveError _ (phase_of_running hrun) h.2
  next => exact .follows hup hline nofun rfl rfl rfl

theorem ofReceiveError (kind : RxError) : Effect s (receiveErrorEvent kind s) :=
  guarded (ofTakeReceiveError kind)

theorem ofArrival (inRange : Bool) (i : StationId) {deliver : State → State} (hd : Delivery deliver) :
    Effect s (arrive inRange i deliver s) := by
  refine guarded fun h => ?_
  split
  · dsimp only
    split
    next hrun =>
      rw [Bool.and_eq_true, beq_iff_eq] at h
      exact .arrives i (phase_of_running hrun) h.2 hd
    next => exact .follows (lineUp_and (by decide) h).1 (lineUp_and (by decide) h).2 nofun rfl rfl rfl
  · exact ofTakeReceiveError .form h

theorem ofCommand (code : Nat) (inRange : Bool) (i : StationId) (p : CommandPayload)
    {effect : State → CmdResult × State} (he : Command effect) :
    Effect s (commandArrives code inRange i p effect s) := ofArrival inRange i (.command code i p he)

end Effect

/-- A command is a cold reset, or has an effect on the state in which node time has run on to it. -/
theorem exec_effect {c : Instr} {s u : State} (h : exec c s = .next u) :
    (∃ id range16 identity, c = .coldReset id range16 identity ∧ u = coldReset id range16 identity s) ∨
      ∃ t, commandTime c = some t ∧ Effect (advance t s) u := by
  cases c
  case coldReset id range16 identity =>
    injection h with h
    exact .inl ⟨id, range16, identity, rfl, h.symm⟩
  all_goals
    injection h with h
    subst h
    refine .inr ⟨_, rfl, ?_⟩
  case imageRead => exact .ofImageRead _
  case recordRead => exact .ofRecordRead _
  case memoryReadTimeout => exact .ofReadFails
  case warmReset => exact .ofWarmReset
  case endOfWarmReset => exact .ofReleaseReset
  case dataReady => exact .ofDataReady _ _ _
  case missingDeadline => exact .ofMissingDeadline
  case selftestDue => exact .falls .selftest
  case transmitStart => exact .ofTransmitStart
  case arbitrationLost => exact .guarded .loses
  case bitError => exact .guarded .bitError
  case frameCompleted t =>
    by_cases hl : (advance t s).slc.line = .sending
    · exact .completes hl
    · rw [frameCompleted, if_neg hl]; exact .nothing
  case tripFrame i p => exact .ofArrival _ i (.trip p)
  case observeFrame i p => exact .ofArrival _ i (.observe i p)
  case claimFrame i p => exact .ofArrival _ i (.claim i p)
  case releaseFrame i p => exact .ofArrival _ i (.release i p)
  case statusFrame i p => exact .ofArrival _ i (.status i p)
  case ignoredFrame => exact .ofIgnoredFrame
  case receiveError kind => exact .ofReceiveError kind
  case idConflictDeadline => exact .falls .idConflict
  case heardDeadline => exact .falls .heard
  case statusPeriod => exact .falls .statusPeriod
  case silenceDeadline i => exact .falls (.silence i)
  case windowDeadline i => exact .falls (.window i)
  case wireAssertionEdge => exact .falls .assertion
  case wireReleaseEdge => exact .falls .release
  case confirmDeadline => exact .falls .confirm
  case stuckDeadline => exact .falls .stuck
  case rearmDeadline => exact .falls .rearm
  case driveDeadline => exact .falls .drive
  case ackInputChange c high => exact .falls (.ackInput c high)
  case filterDeadline c => exact .falls (.filter c)
  case ackDeadline c => exact .falls (.ack c)
  case gapDeadline => exact .falls .gap
  case holdDeadline => exact .falls .hold
  case startWait => exact .falls .startWait
  case resetDeadline => exact .falls .reset
  case settleDeadline => exact .falls .settle
  case backoffDeadline => exact .falls .backoff
  case claimExpiry i => exact .falls (.claimExpiry i)
  case ownExpiry => exact .falls .ownExpiry
  case inrushDeadline => exact .falls .inrush
  case restartGapDeadline => exact .falls .restartGap
  case recordWriteAck => exact .falls .writeAck
  case attemptDeadline => exact .falls .attempt
  case permit => exact .ofCommand _ _ _ _ .permit
  case hold => exact .ofCommand _ _ _ _ .hold
  case resume => exact .ofCommand _ _ _ _ .resume
  case shutdown => exact .ofCommand _ _ _ _ .shutdown
  case test => exact .ofCommand _ _ _ _ .test
  case mode p => exact .ofCommand _ _ _ _ (.mode (modeArgument p))
  case ackFaults => exact .ofCommand _ _ _ _ .ackFaults
  case report => exact .ofCommand _ _ _ _ .report
  case lineIdle => exact .ofLineIdle
  case otherStationSof => exact .ofOtherStationSof
  case dominantBitBeforeIdle => exact .ofDominantBit

/-- A promise that the queue of commands, the count of draws and the passing of time leave, and that a cold reset
and every effect keep, is kept by every step. -/
theorem step_keeps {P : State → Prop} (hpending : ∀ s l, P s → P (s.setPending l))
    (hdrawn : ∀ s, P s → P (drawn s)) (htime : ∀ t s, P s → P (advance t s))
    (hcold : ∀ id range16 identity s, P s → P (coldReset id range16 identity s))
    (heffect : ∀ s u, Effect s u → P s → P u) {s u : State} (h : step s = .next u) (hs : P s) : P u := by
  have executed {c : Instr} {v : State} (hv : exec c v = .next u) (hp : P v) : P u := by
    rcases exec_effect hv with ⟨id, range16, identity, -, rfl⟩ | ⟨t, -, he⟩
    · exact hcold _ _ _ _ hp
    · exact heffect _ _ he (htime t v hp)
  unfold step at h; split at h
  · exact executed h (hpending _ _ hs)
  · unfold idle at h; split at h
    · injection h with h
      exact h ▸ htime _ _ hs
    · exact executed h hs
    · exact executed h (hdrawn _ hs)

end Sys2Proof.Machine

/-! The transmit queue in order of class (R46), and what placing a frame does to it (R46, R48, R51). -/

namespace Sys2Proof.Machine

/-- `ascending` is the library's pairwise order. -/
theorem ascending_iff_pairwise (l : List Nat) : ascending l = true ↔ l.Pairwise (· < ·) := by
  induction l with
  | nil => simp [ascending]
  | cons a l ih =>
    cases l with
    | nil => simp [ascending]
    | cons b l =>
      rw [ascending, Bool.and_eq_true, decide_eq_true_eq, ih, List.pairwise_cons (a := a)]
      refine and_congr_left fun hl => ⟨fun hab x hx => ?_, fun h => h b List.mem_cons_self⟩
      rcases List.mem_cons.mp hx with rfl | hx
      · exact hab
      · exact Nat.lt_trans hab (List.rel_of_pairwise_cons hl hx)

/-- A queue in order of class with at most four frames (R46). -/
def InOrder (q : List TxEntry) : Prop := q.length ≤ 4 ∧ (q.map entryClass).Pairwise (· < ·)

theorem queueOk_iff (s : State) : queueOk s = true ↔ InOrder s.slc.queue := by
  rw [queueOk, Bool.and_eq_true, decide_eq_true_eq, ascending_iff_pairwise, InOrder]

theorem InOrder.sublist {p q : List TxEntry} (h : p.Sublist q) (hq : InOrder q) : InOrder p :=
  ⟨Nat.le_trans h.length_le hq.1, hq.2.sublist (h.map _)⟩

theorem InOrder.dropClass {q : List TxEntry} (hq : InOrder q) (c : Nat) : InOrder (dropClass c q) :=
  hq.sublist List.filter_sublist

theorem InOrder.replaceEntry {q : List TxEntry} (hq : InOrder q) (e : TxEntry) :
    InOrder (replaceEntry e q) := by
  rw [InOrder, length_replaceEntry, classes_replaceEntry]; exact hq

/-- An entry of a class that the queue does not hold goes to its class place. -/
theorem pairwise_insertEntry {e : TxEntry} {q : List TxEntry} (hq : (q.map entryClass).Pairwise (· < ·))
    (he : ∀ x ∈ q, entryClass x ≠ entryClass e) : ((insertEntry e q).map entryClass).Pairwise (· < ·) := by
  induction q with
  | nil => simp [insertEntry]
  | cons x xs ih =>
    rw [List.map_cons, List.pairwise_cons] at hq
    obtain ⟨hx, hxs⟩ := hq
    have hne := he x List.mem_cons_self
    unfold insertEntry; split
    next hlt =>
      simp only [List.map_cons, List.pairwise_cons, List.mem_cons, forall_eq_or_imp]
      exact ⟨⟨hlt, fun c hc => Nat.lt_trans hlt (hx c hc)⟩, hx, hxs⟩
    next hle =>
      rw [List.map_cons, List.pairwise_cons]
      refine ⟨fun c hc => ?_, ih hxs fun y hy => he y (List.mem_cons_of_mem _ hy)⟩
      obtain ⟨y, hy, rfl⟩ := List.mem_map.mp hc
      rcases (mem_insertEntry y e xs).mp hy with rfl | hy
      · omega
      · exact hx _ (List.mem_map_of_mem hy)

theorem InOrder.insertEntry {q : List TxEntry} (hq : InOrder q) {e : TxEntry}
    (he : ∀ x ∈ q, entryClass x ≠ entryClass e) (hl : q.length < 4) : InOrder (insertEntry e q) :=
  ⟨by rw [length_insertEntry]; exact hl, pairwise_insertEntry hq.2 he⟩

theorem hasClass_iff (c : Nat) (q : List TxEntry) : hasClass c q = true ↔ ∃ x ∈ q, entryClass x = c := by
  simp [hasClass]

theorem hasClass_eq_false (c : Nat) (q : List TxEntry) :
    hasClass c q = false ↔ ∀ x ∈ q, entryClass x ≠ c := by
  simp [hasClass]

theorem length_dropClass_lt {c : Nat} {q : List TxEntry} (h : hasClass c q = true) :
    (dropClass c q).length < q.length := by
  obtain ⟨x, hx, hc⟩ := (hasClass_iff c q).mp h
  exact List.length_filter_lt_length_iff_exists.mpr ⟨x, hx, by simp [hc]⟩

theorem entryClass_eq_five (e : TxEntry) : entryClass e = 5 ↔ e = .status := by
  cases e <;> simp [entryClass]

/-- A list without duplicates is no longer than one that holds all of it. -/
theorem length_le_of_subset {l : List Nat} (h : l.Nodup) : ∀ {m : List Nat}, l ⊆ m → l.length ≤ m.length := by
  induction l with
  | nil => exact fun _ => Nat.zero_le _
  | cons x xs ih =>
    intro m hm
    obtain ⟨hx, hxs⟩ := List.nodup_cons.mp h
    have hmem : x ∈ m := hm List.mem_cons_self
    have hrest : xs ⊆ m.erase x := fun y hy => by
      have hne : y ≠ x := fun heq => hx (heq ▸ hy)
      exact (List.mem_erase_of_ne hne).mpr (hm (List.mem_cons_of_mem x hy))
    have hlen := ih hxs hrest
    have hpos := List.length_pos_of_mem hmem
    rw [List.length_erase_of_mem hmem] at hlen
    rw [List.length_cons]
    omega

/-- A full queue in order holds every class but one: without a STATUS and without a class below it, it cannot
be full. -/
theorem InOrder.not_full {q : List TxEntry} (hq : InOrder q) {e : TxEntry} (he : entryClass e ≠ 5)
    (hc : ∀ x ∈ q, entryClass x ≠ entryClass e) (h5 : ∀ x ∈ q, entryClass x ≠ 5) : q.length < 4 := by
  have hsub : q.map entryClass ⊆ [0, 1, 2, 3].erase (entryClass e) := by
    intro c hmem
    obtain ⟨x, hx, rfl⟩ := List.mem_map.mp hmem
    rw [List.Nodup.mem_erase_iff (by decide)]
    refine ⟨hc x hx, ?_⟩
    have h := h5 x hx
    cases x <;> simp_all [entryClass]
  have hnodup : (q.map entryClass).Nodup := hq.2.imp Nat.ne_of_lt
  have hlen := length_le_of_subset hnodup hsub
  rw [List.length_map] at hlen
  refine Nat.lt_of_le_of_lt hlen ?_
  cases e <;> simp_all [entryClass]

/-! ## Placing a frame -/

/-- What placing a frame in a queue in order comes to: the values of the entry of its class are replaced, or it
goes to its class place, there being room or a STATUS displaced, or it is itself a STATUS that overflows. -/
inductive Placed (e : TxEntry) (s : State) : List TxEntry → Option Attempt → Prop
  | replaced : hasClass (entryClass e) s.slc.queue = true →
      Placed e s (replaceEntry e s.slc.queue) (markFate (entryClass e) .replaced s.slc.inFlight)
  | inserted : (∀ x ∈ s.slc.queue, entryClass x ≠ entryClass e) → s.slc.queue.length < 4 →
      Placed e s (insertEntry e s.slc.queue) s.slc.inFlight
  | displaced : (∀ x ∈ s.slc.queue, entryClass x ≠ entryClass e) → s.slc.queue.length = 4 →
      entryClass e ≠ 5 → .status ∈ s.slc.queue →
      Placed e s (insertEntry e (dropClass 5 s.slc.queue)) (markFate 5 .removed s.slc.inFlight)
  | overflowed : e = .status → s.slc.queue.length = 4 → (∀ x ∈ s.slc.queue, entryClass x ≠ 5) →
      Placed e s s.slc.queue s.slc.inFlight

theorem place_placed (e : TxEntry) {s : State} (hq : InOrder s.slc.queue) :
    Placed e s (place e s).slc.queue (place e s).slc.inFlight := by
  unfold place
  split
  next h => exact .replaced h
  next h =>
    rw [Bool.not_eq_true, hasClass_eq_false] at h
    split
    next hl => exact .inserted h hl
    next hl =>
      have hfull : s.slc.queue.length = 4 := Nat.le_antisymm hq.1 (Nat.not_lt.mp hl)
      split
      next h5 =>
        obtain ⟨x, hx, hx5⟩ := (hasClass_iff _ _).mp h5.2
        exact .displaced h hfull h5.1 ((entryClass_eq_five x).mp hx5 ▸ hx)
      next h5 =>
        have hstatus : entryClass e = 5 := by
          refine Decidable.byContradiction fun hne => hl (hq.not_full hne h ((hasClass_eq_false _ _).mp ?_))
          exact Bool.eq_false_iff.mpr fun hhas => h5 ⟨hne, hhas⟩
        exact .overflowed ((entryClass_eq_five e).mp hstatus) hfull (hstatus ▸ h)

/-- Placing a frame keeps the queue in order (R46). -/
theorem InOrder.place {s : State} (hq : InOrder s.slc.queue) (e : TxEntry) :
    InOrder (place e s).slc.queue := by
  have h := place_placed e hq
  generalize (Machine.place e s).slc.queue = q, (Machine.place e s).slc.inFlight = a at h
  cases h with
  | replaced _ => exact hq.replaceEntry e
  | inserted hc hl => exact hq.insertEntry hc hl
  | displaced hc hl he hs =>
    have h5 : hasClass 5 s.slc.queue = true := (hasClass_iff _ _).mpr ⟨_, hs, rfl⟩
    refine (hq.dropClass 5).insertEntry (fun x hx => hc x ((mem_dropClass x 5 _).mp hx).1) ?_
    exact Nat.lt_of_lt_of_eq (length_dropClass_lt h5) hl
  | overflowed _ _ _ => exact hq

/-- A frame that is placed is in the queue, unless it is a STATUS that overflows (R46, R51). -/
theorem mem_place (e : TxEntry) {s : State} (hq : InOrder s.slc.queue) :
    e ∈ (place e s).slc.queue ∨ (e = .status ∧ s.slc.queue.length = 4 ∧ place e s = s) := by
  have hp := place_eq e s
  have h := place_placed e hq
  generalize (Machine.place e s).slc.queue = q, (Machine.place e s).slc.inFlight = a at h hp
  cases h with
  | replaced h =>
    obtain ⟨x, hx, hc⟩ := (hasClass_iff _ _).mp h
    exact .inl (List.mem_map.mpr ⟨x, hx, if_pos hc⟩)
  | inserted _ _ => exact .inl (by simp)
  | displaced _ _ _ _ => exact .inl (by simp)
  | overflowed he hl _ => exact .inr ⟨he, hl, hp⟩

/-- A frame of another class stays, but for a STATUS that an overflow displaces (R51). -/
theorem mem_place_of_mem {e x : TxEntry} {s : State} (hq : InOrder s.slc.queue) (hx : x ∈ s.slc.queue)
    (hc : entryClass x ≠ entryClass e) (hs : x ≠ .status ∨ s.slc.queue.length < 4) :
    x ∈ (place e s).slc.queue := by
  have h := place_placed e hq
  generalize (Machine.place e s).slc.queue = q, (Machine.place e s).slc.inFlight = a at h
  cases h with
  | replaced _ => exact List.mem_map.mpr ⟨x, hx, if_neg hc⟩
  | inserted _ _ => simp [hx]
  | displaced _ hl _ _ =>
    have hne : entryClass x ≠ 5 := fun h5 => hs.elim (fun h => h ((entryClass_eq_five x).mp h5)) (by omega)
    simp [hx, hne]
  | overflowed _ _ _ => exact hx

/-- Nothing is in the queue but the frame placed and frames of other classes that were there (R46, R48). -/
theorem of_mem_place {e x : TxEntry} {s : State} (hq : InOrder s.slc.queue) (hx : x ∈ (place e s).slc.queue) :
    x = e ∨ (x ∈ s.slc.queue ∧ entryClass x ≠ entryClass e) := by
  have h := place_placed e hq
  generalize (Machine.place e s).slc.queue = q, (Machine.place e s).slc.inFlight = a at h hx
  cases h with
  | replaced _ =>
    obtain ⟨y, hy, rfl⟩ := List.mem_map.mp hx
    by_cases hc : entryClass y = entryClass e
    · exact .inl (if_pos hc)
    · rw [if_neg hc]; exact .inr ⟨hy, hc⟩
  | inserted hc _ => exact ((mem_insertEntry x e _).mp hx).imp_right fun h => ⟨h, hc x h⟩
  | displaced hc _ _ _ =>
    refine ((mem_insertEntry x e _).mp hx).imp_right fun h => ?_
    have hm := ((mem_dropClass x 5 _).mp h).1
    exact ⟨hm, hc x hm⟩
  | overflowed he _ hc => exact .inr ⟨hx, by subst he; exact hc x hx⟩

/-- The status of a queue that is not full stays. -/
theorem status_mem_place {e : TxEntry} {s : State} (hq : InOrder s.slc.queue) (hl : s.slc.queue.length < 4)
    (hs : .status ∈ s.slc.queue) : .status ∈ (place e s).slc.queue := by
  by_cases he : e = .status
  · subst he
    rcases mem_place .status hq with h | ⟨-, h, -⟩
    · exact h
    · omega
  · refine mem_place_of_mem hq hs (fun h => he ?_) (.inr hl)
    exact (entryClass_eq_five e).mp h.symm

theorem markFate_stands {c : Nat} {f : EntryFate} {a : Attempt} (h : bodyClass a.copy.body = c)
    (hf : a.fate ≠ .removed) : markFate c f (some a) = some { a with fate := f } := if_pos ⟨h, hf⟩

theorem markFate_other {c : Nat} {f : EntryFate} {a : Attempt}
    (h : ¬(bodyClass a.copy.body = c ∧ a.fate ≠ .removed)) : markFate c f (some a) = some a := if_neg h

/-- What becomes of the attempt in flight when a frame is placed (R47, R48, R51). -/
theorem place_attempt {e : TxEntry} {s : State} (hq : InOrder s.slc.queue) {a : Attempt}
    (ha : s.slc.inFlight = some a) :
    let stands := a.fate ≠ .removed
    let replaced := stands ∧ bodyClass a.copy.body = entryClass e ∧ ∃ x ∈ s.slc.queue, entryClass x = entryClass e
    let displaced := stands ∧ bodyClass a.copy.body = 5 ∧ s.slc.queue.length = 4 ∧ .status ∈ s.slc.queue ∧
      ∀ x ∈ s.slc.queue, entryClass x ≠ entryClass e
    (replaced → (place e s).slc.inFlight = some { a with fate := .replaced }) ∧
    (displaced → (place e s).slc.inFlight = some { a with fate := .removed }) ∧
    (¬replaced → ¬displaced → (place e s).slc.inFlight = some a) := by
  have h := place_placed e hq
  generalize (Machine.place e s).slc.queue = q, (Machine.place e s).slc.inFlight = b at h
  dsimp only
  cases h with
  | replaced hc =>
    rw [hasClass_iff] at hc
    rw [ha]
    refine ⟨fun ⟨hf, hb, _⟩ => markFate_stands hb hf, fun ⟨_, _, _, _, hn⟩ => ?_, fun hn _ => ?_⟩
    · obtain ⟨x, hx, hxe⟩ := hc
      exact absurd hxe (hn x hx)
    · exact markFate_other fun ⟨hb, hf⟩ => hn ⟨hf, hb, hc⟩
  | inserted hc hl =>
    refine ⟨fun ⟨_, _, x, hx, hxe⟩ => absurd hxe (hc x hx), fun ⟨_, _, h4, _⟩ => ?_, fun _ _ => ha⟩
    omega
  | displaced hc hl he hs =>
    rw [ha]
    refine ⟨fun ⟨_, _, x, hx, hxe⟩ => absurd hxe (hc x hx), fun ⟨hf, hb, _⟩ => markFate_stands hb hf, fun _ hn => ?_⟩
    exact markFate_other fun ⟨hb, hf⟩ => hn ⟨hf, hb, hl, hs, hc⟩
  | overflowed he hl hc =>
    subst he
    refine ⟨fun ⟨_, _, x, hx, hxe⟩ => absurd hxe (hc x hx), fun ⟨_, _, _, hs, _⟩ => ?_, fun _ _ => ha⟩
    exact absurd rfl (hc _ hs)

theorem place_inFlight_none {e : TxEntry} {s : State} (h : s.slc.inFlight = none) :
    (place e s).slc.inFlight = none := by
  unfold place
  repeat' split
  all_goals simp [h, markFate]

/-- Settles O17: the four things that placing a frame in a queue in order can come to. -/
theorem placeKeepsTheQueue : Obligations.PlaceKeepsTheQueue := by
  unfold Obligations.PlaceKeepsTheQueue
  intro e s hok
  have hq := (queueOk_iff s).mp hok
  refine ⟨(queueOk_iff _).mpr (hq.place e), mem_place e hq, fun x hx hc hs => ?stays, fun hl hs => ?status,
    fun x hx => of_mem_place hq hx, place_eq e s, place_inFlight_none, fun a ha => place_attempt hq ha⟩
  case stays => exact mem_place_of_mem hq hx hc (.inl hs)
  case status => exact status_mem_place hq hl hs

end Sys2Proof.Machine

/-! The promises, as elementary changes keep them. -/

namespace Sys2Proof.Machine

/-! ## What the record's requests leave alone -/

theorem writeChange_eq (s : State) : writeChange s = s.setRcp (writeChange s).rcp := by
  unfold writeChange; split <;> rfl

theorem setRecord_eq (r : TripRecord) (s : State) : setRecord r s = s.setRcp (setRecord r s).rcp := by
  unfold setRecord; split
  · rfl
  · rw [writeChange_eq]; rfl

theorem rcpTrip_eq (own origin : Cause) (votes grade : Nat) (l : List StationId) (s : State) :
    rcpTrip own origin votes grade l s = s.setRcp (rcpTrip own origin votes grade l s).rcp := by
  unfold rcpTrip; rw [setRecord_eq]; rfl

theorem rcpRaise_eq (g : Nat) (s : State) : rcpRaise g s = s.setRcp (rcpRaise g s).rcp := by
  unfold rcpRaise; split
  · exact setRecord_eq _ _
  · rfl

theorem rcpPermit_eq (s : State) : rcpPermit s = s.setRcp (rcpPermit s).rcp := by
  unfold rcpPermit; split
  · exact setRecord_eq _ _
  · rfl

/-- A close changes the record and the site grade, and nothing else. -/
theorem takeClose_eq (s : State) : takeClose s =
    (s.setRcp (takeClose s).rcp).setZs { s.zs with grade := (takeClose s).zs.grade } := by
  unfold takeClose; dsimp only; repeat' split
  · rfl
  · rw [setRecord_eq]; rfl
  · rfl

theorem takeWaitingClose_eq (s : State) : takeWaitingClose s =
    (s.setRcp (takeWaitingClose s).rcp).setZs { s.zs with grade := (takeWaitingClose s).zs.grade } := by
  unfold takeWaitingClose; split
  · exact takeClose_eq s
  · rfl

theorem rcpClose_eq (s : State) : rcpClose s =
    ((s.setRcp (rcpClose s).rcp).setZs { s.zs with grade := (rcpClose s).zs.grade }).setDraws
      (rcpClose s).draws := by
  unfold rcpClose; repeat' split
  · rw [takeClose_eq]; rfl
  · rfl
  · rw [takeClose_eq]; rfl

/-- A changed RAM copy is written, now or later, with another sequence alone (R197). -/
theorem writeChange_rcp (s : State) :
    (writeChange s).rcp.record = { s.rcp.record with sequence := (writeChange s).rcp.record.sequence } ∧
      (writeChange s).rcp.closeWaits = s.rcp.closeWaits ∧
      (writeChange s).rcp.lastTripReq = s.rcp.lastTripReq := by
  unfold writeChange; split <;> exact ⟨rfl, rfl, rfl⟩

/-- The RAM copy takes the content given, but for the sequence, which a write moves (R195, R197). -/
theorem setRecord_rcp (r : TripRecord) (s : State) :
    (setRecord r s).rcp.record = { r with sequence := (setRecord r s).rcp.record.sequence } ∧
      (setRecord r s).rcp.closeWaits = s.rcp.closeWaits ∧
      (setRecord r s).rcp.lastTripReq = s.rcp.lastTripReq := by
  unfold setRecord; split
  next h => subst h; exact ⟨rfl, rfl, rfl⟩
  · exact writeChange_rcp _

theorem takeClose_closeWaits (s : State) : (takeClose s).rcp.closeWaits = false := by
  unfold takeClose; dsimp only; repeat' split
  · rfl
  · exact (setRecord_rcp _ _).2.1
  · rfl

theorem takeClose_lastTripReq (s : State) : (takeClose s).rcp.lastTripReq = s.rcp.lastTripReq := by
  unfold takeClose; dsimp only; repeat' split
  · rfl
  · exact (setRecord_rcp _ _).2.2
  · rfl

theorem takeWaitingClose_closeWaits (s : State) : (takeWaitingClose s).rcp.closeWaits = false := by
  unfold takeWaitingClose; split
  · exact takeClose_closeWaits s
  next h => simpa using h

/-! ## The promises in other words -/

theorem timesOk_iff (s : State) : timesOk s = true ↔ s.nodeTime ≤ maxNodeTime ∧ s.zs.ta ≤ s.nodeTime := by
  simp [timesOk]

/-! ## What elementary changes keep -/

namespace Moves

variable {motion line b : Bool} {s u : State}

theorem inOrder_queueRelease {v : State} (hq : InOrder v.slc.queue) (n : Nat) (r : ReleaseReason) :
    InOrder (queueRelease n r v).slc.queue := by
  unfold queueRelease; repeat' split
  · exact InOrder.place (hq.dropClass 2) _
  · exact hq.dropClass 2
  · exact hq.place _

/-- The queue stays in order (R46). -/
theorem keeps_queue (h : Moves motion line s b u) (hs : InOrder s.slc.queue) : InOrder u.slc.queue := by
  induction h with
  | refl => exact hs
  | bySlc _ hq _ ih => exact ih.sublist hq
  | byPlace e _ ih => exact ih.place e
  | byRelease n r _ ih => exact inOrder_queueRelease ih n r
  | byRemove c _ ih => exact ih.dropClass c
  | byRequest a o v g l _ ih => rw [rcpTrip_eq]; exact ih
  | byClose _ ih => rw [rcpClose_eq]; exact ih
  | bySettle _ ih => rw [takeWaitingClose_eq]; exact ih
  | byRaise f _ _ _ _ ih => rw [raiseFault_eq]; exact ih
  | byClear f _ _ _ ih => rw [clearFault_eq]; exact ih
  | byMode m _ ih => rw [takeHealth_eq]; exact ih
  | byMp _ _ ih | byTest _ _ _ ih | byPv _ _ ih | byVtu _ _ ih | byCd _ _ ih | byPins _ _ ih
  | byDrawn _ ih | byZs _ _ ih | byIcu _ _ ih | byAppend _ _ ih | byRcp _ _ _ _ ih | byNotice _ ih
  | byAck _ ih | byResult _ _ _ ih => exact ih

theorem markFate_isSome (c : Nat) (f : EntryFate) (a : Option Attempt) : (markFate c f a).isSome = a.isSome := by
  unfold markFate; repeat' split
  all_goals rfl

theorem place_attempt_isSome (e : TxEntry) (v : State) :
    (place e v).slc.inFlight.isSome = v.slc.inFlight.isSome := by
  unfold place
  split
  · exact markFate_isSome _ _ _
  · split
    · rfl
    · split
      · exact markFate_isSome _ _ _
      · rfl

theorem queueRelease_attempt_isSome (n : Nat) (r : ReleaseReason) (v : State) :
    (queueRelease n r v).slc.inFlight.isSome = v.slc.inFlight.isSome := by
  unfold queueRelease; repeat' split
  · rw [place_attempt_isSome]
    exact (Option.isSome_map ..).trans (markFate_isSome _ _ _)
  · exact markFate_isSome _ _ _
  · exact place_attempt_isSome _ _

/-- The line state, the score and suppression stand, and an attempt stays in flight (R31, R39, R40). -/
theorem keeps_line (h : Moves motion false s b u) :
    u.slc.line = s.slc.line ∧ u.slc.score = s.slc.score ∧
      u.slc.inFlight.isSome = s.slc.inFlight.isSome ∧ suppressed u = suppressed s := by
  induction h with
  | refl => exact ⟨rfl, rfl, rfl, rfl⟩
  | bySlc _ _ hsame ih =>
    obtain ⟨ihl, ihs, ihf, ihx⟩ := ih
    obtain ⟨hf, hl, hs⟩ := hsame rfl
    exact ⟨hl.trans ihl, hs.trans ihs, (congrArg Option.isSome hf).trans ihf, ihx⟩
  | byPlace e _ ih =>
    obtain ⟨ihl, ihs, ihf, ihx⟩ := ih
    refine ⟨?_, ?_, (place_attempt_isSome e _).trans ihf, ?_⟩
    all_goals rw [place_eq]; assumption
  | byRelease n r _ ih =>
    obtain ⟨ihl, ihs, ihf, ihx⟩ := ih
    refine ⟨?_, ?_, (queueRelease_attempt_isSome n r _).trans ihf, ?_⟩
    all_goals rw [queueRelease_eq]; assumption
  | byRemove c _ ih =>
    obtain ⟨ihl, ihs, ihf, ihx⟩ := ih
    exact ⟨ihl, ihs, (markFate_isSome c _ _).trans ihf, ihx⟩
  | byRequest a o v g l _ ih => rw [rcpTrip_eq]; exact ih
  | byClose _ ih => rw [rcpClose_eq]; exact ih
  | bySettle _ ih => rw [takeWaitingClose_eq]; exact ih
  | byRaise f _ _ hf _ ih =>
    obtain ⟨ihl, ihs, ihf, ihx⟩ := ih
    refine ⟨?_, ?_, ?_, (active_raiseFault_other (hf rfl) _).trans ihx⟩
    all_goals rw [raiseFault_eq]; assumption
  | byClear f _ hf _ ih =>
    obtain ⟨ihl, ihs, ihf, ihx⟩ := ih
    refine ⟨?_, ?_, ?_, (active_clearFault_other (hf rfl) _).trans ihx⟩
    all_goals rw [clearFault_eq]; assumption
  | byMode m _ ih => rw [takeHealth_eq]; exact ih
  | byMp _ _ ih | byTest _ _ _ ih | byPv _ _ ih | byVtu _ _ ih | byCd _ _ ih | byPins _ _ ih
  | byDrawn _ ih | byZs _ _ ih | byIcu _ _ ih | byAppend _ _ ih | byRcp _ _ _ _ ih | byNotice _ ih
  | byAck _ ih | byResult _ _ _ ih => exact ih

end Moves

end Sys2Proof.Machine

/-! The events of the line, of the cold start and of the reset input, as elementary changes from the state in which
they begin. -/

namespace Sys2Proof.Machine

namespace Moves

variable {motion line b : Bool} {s u v : State}

/-- Elementary changes after elementary changes, the MP and the line being as free as either leaves them. -/
theorem trans {motion' line' : Bool} (h : Moves motion line s false v) (g : Moves motion' line' v b u)
    (hm : motion = false → motion' = false) (hl : line = false → line' = false) : Moves motion line s b u := by
  induction g with
  | refl => exact h
  | byMp _ hk ih => exact ih.byMp fun hf => hk (hm hf)
  | byTest _ hp ht ih => exact ih.byTest hp ht
  | bySlc _ hq hk ih => exact ih.bySlc hq fun hf => hk (hl hf)
  | byPv p _ ih => exact ih.byPv p
  | byVtu p _ ih => exact ih.byVtu p
  | byCd p _ ih => exact ih.byCd p
  | byPins p _ ih => exact ih.byPins p
  | byDrawn _ ih => exact ih.byDrawn
  | byZs _ hz ih => exact ih.byZs hz
  | byIcu _ hi ih => exact ih.byIcu hi
  | byAppend e _ ih => exact ih.byAppend e
  | byPlace e _ ih => exact ih.byPlace e
  | byRelease n r _ ih => exact ih.byRelease n r
  | byRemove c _ ih => exact ih.byRemove c
  | byRcp _ ho hc hr ih => exact ih.byRcp ho hc hr
  | byRequest a o x g l _ ih => exact ih.byRequest a o x g l
  | byClose _ ih => exact ih.byClose
  | bySettle _ ih => exact ih.bySettle
  | byRaise f _ ha hf hk ih => exact ih.byRaise f ha (fun h => hf (hl h)) fun h => hk (hm h)
  | byClear f _ hf hk ih => exact ih.byClear f (fun h => hf (hl h)) fun h => hk (hm h)
  | byNotice _ ih => exact ih.byNotice
  | byAck _ ih => exact ih.byAck
  | byResult c r _ ih => exact ih.byResult c r
  | byMode m _ ih => exact ih.byMode m

/-- The health output taken afresh in the mode that stands. -/
theorem takesHealth (h : Moves motion line s b u) : Moves motion line s b (takeHealth u) := h.byMode u.hm.mode

/-! ## The line -/

theorem movesSlc (h : Moves motion true s b u) {l : LineCtl} (hq : l.queue.Sublist u.slc.queue) :
    Moves motion true s b (u.setSlc l) := h.bySlc hq nofun

theorem movesLine (h : Moves motion true s b u) (l : LineState) : Moves motion true s b (setLine l u) :=
  h.movesSlc (List.Sublist.refl _)

theorem sublist_queueAfterFailure (a : Attempt) (q : List TxEntry) : (queueAfterFailure a q).Sublist q := by
  unfold queueAfterFailure; split
  · exact List.filter_sublist
  · exact List.Sublist.refl _

theorem failsAttempt (h : Moves motion true s b u) : Moves motion true s b (failAttempt u) := by
  unfold failAttempt; split
  · exact h.movesSlc (sublist_queueAfterFailure _ _)
  · exact h

theorem completesAttempt (h : Moves motion true s b u) : Moves motion true s b (completeAttempt u) := by
  unfold completeAttempt; split
  · refine h.movesSlc ?_
    dsimp only; split
    · exact List.filter_sublist
    · exact List.Sublist.refl _
  · exact h

theorem scoresUp (h : Moves motion true s b u) (kind : ErrKind) : Moves motion true s b (scoreUp kind u) := by
  have scored (l : LineCtl) (hl : l.queue = u.slc.queue) : Moves motion true s b (u.setSlc l) :=
    h.movesSlc (hl ▸ List.Sublist.refl _)
  have raised := (scored { u.slc with score := min 255 (u.slc.score + 8), lastError := kind } rfl).byRaise
    .lineSuppressed (by decide) nofun fun _ => by decide
  exact .either (raised.changesLine _) (scored _ rfl)

theorem scoresDown (h : Moves motion true s b u) : Moves motion true s b (scoreDown u) := by
  have scored (l : LineCtl) (hl : l.queue = u.slc.queue) : Moves motion true s b (u.setSlc l) :=
    h.movesSlc (hl ▸ List.Sublist.refl _)
  have cleared := (scored { u.slc with score := u.slc.score - 1 } rfl).byClear .lineSuppressed nofun
    fun _ => by decide
  exact .either (cleared.changesLine _) (scored _ rfl)

theorem reportsCompletion (h : Moves motion line s b u) (a : Option Attempt) :
    Moves motion line s b (reportCompletion a u) := by
  unfold reportCompletion; repeat' split
  · exact h.completesClaim _ _
  all_goals exact h

theorem completesFrame (h : Moves motion true s b u) : Moves motion true s b (frameCompleted u) := by
  have stamped : Moves motion true s b (u.setSlc { u.slc with line := .counting, tEnd := u.nodeTime }) :=
    h.movesSlc (by exact List.Sublist.refl _)
  unfold frameCompleted; dsimp only; split
  · exact stamped.scoresDown.completesAttempt.reportsCompletion _
  · exact h

/-- The heard mark and the score leave the end stamp of the frame. -/
theorem hearLine_scoreDown_tEnd (x : State) : (hearLine (scoreDown x)).slc.tEnd = x.slc.tEnd :=
  congrArg (fun y => y.slc.tEnd) (arrivalKept_hearLine_scoreDown x)

/-- Behind the score, a valid frame is heard and delivered to its block by elementary changes (R41). -/
theorem hearsFrame (i : StationId) {deliver : State → State} (hd : Delivery deliver) (hrun : u.phase = .running)
    (ht : u.slc.tEnd ≤ u.nodeTime) : Moves false false (scoreDown u) false (takeFrame i deliver u) := by
  have scored := (Moves.refl (motion := false) (line := true) (s := u)).scoresDown.nodeTime_phase
  have heard := (Moves.refl (motion := false) (line := false) (s := scoreDown u)).hearsLine
  have hend := hearLine_scoreDown_tEnd u
  unfold takeFrame; dsimp only
  generalize hearLine (scoreDown u) = w at heard hend ⊢
  split
  · exact heard.takesConflict
  · have present := heard.updatesPresence i w.slc.tEnd
    have hend' : (presenceUpdate i w.slc.tEnd w).slc.tEnd = w.slc.tEnd :=
      (congrArg LineCtl.tEnd (viewKept_slc (viewKept_presenceUpdate i w.slc.tEnd w)) :)
    generalize presenceUpdate i w.slc.tEnd w = x at present hend' ⊢
    have hx := present.nodeTime_phase
    refine .either (present.trans (hd.delivers x x ((hx.2.trans scored.2).trans hrun) ?_ rfl .refl) id id) present
    rw [hend', hend, hx.1, scored.1]
    exact ht

theorem takesFrame (h : Moves false true s false u) (i : StationId) {deliver : State → State}
    (hd : Delivery deliver) (hrun : s.phase = .running) (ht : u.slc.tEnd ≤ s.nodeTime) :
    Moves false true s false (takeFrame i deliver u) :=
  h.scoresDown.trans (hearsFrame i hd (h.nodeTime_phase.2.trans hrun) (h.nodeTime_phase.1.symm ▸ ht)) id nofun

/-! ## The end of the cold start -/

theorem startsTimers (h : Moves motion line s b u) : Moves motion line s b (startTimers u) :=
  ((h.setsMp (by exact ⟨rfl, rfl, rfl, rfl, rfl, rfl, rfl⟩)).setsSlc).queuesStatus

theorem sensesWire (h : Moves motion line s b u) : Moves motion line s b (senseWire u) :=
  .either (h.byVtu _) (h.byVtu _)

theorem startsSensing (h : Moves motion line s b u) :
    Moves motion line s b (armingEval (senseWire (ownPresent (startTimers u)))) :=
  (h.startsTimers.setsPeer _ _).sensesWire.evaluatesArming

theorem startsWaits (h : Moves motion line s b u) : Moves motion line s b (startWaits u) :=
  .either (Moves.recomputesStart h.setsZs) h.recomputesHold

theorem startsActivity (h : Moves motion line s b u) : Moves motion line s b (startActivity u) :=
  .either (h.byZs (Nat.le_max_right _ _)) h

theorem endsColdStart (s : State) : Moves motion line (s.setPhase .running) false (endColdStart s) :=
  ((Moves.refl.setsMp (by exact ⟨rfl, rfl, rfl, rfl, rfl, rfl, rfl⟩)).startsSensing.startsActivity
    |>.startsWaits).takesHealth

/-! ## Warm reset -/

theorem startsDetector (h : Moves true line s b u) : Moves true line s b (startDetector u) :=
  .either (h.movesMp _) (h.movesMp _)

theorem takesLevelTest (h : Moves motion line s b u) (c : Channel) : Moves motion line s b (takeLevelTest c u) := by
  unfold takeLevelTest; dsimp only; repeat' split
  · exact (h.setsChan _ _).leavesPending _ _
  · exact h.setsChan _ _
  · exact h

theorem endsResetChannels (h : Moves motion line s b u) : Moves motion line s b (endResetChannels u) := by
  have all (l : List Channel) {x : State} (hx : Moves motion line s b x) :
      Moves motion line s b (l.foldl (fun st c => takeLevelTest c st) x) := by
    induction l generalizing x with
    | nil => exact hx
    | cons c cs ih => exact ih (hx.takesLevelTest c)
  exact (all allChannels h).followsUnconfirmed

theorem endsResetCauses (h : Moves motion line s b u) : Moves motion line s b (endResetCauses u) :=
  .either h.setsZs h

/-- What follows the detector at the end of a warm reset (R150). -/
theorem endsReset (h : Moves motion line s b u) : Moves motion line s b (takeHealth (startWaits (endResetCauses
    (endResetChannels (endResetRecord (endResetSequencer
      (armingEval (senseWire (ownPresent (startTimers u)))))))))) := by
  have sequenced : Moves motion line s b
      (endResetSequencer (armingEval (senseWire (ownPresent (startTimers u))))) :=
    .either (p := configured (armingEval (senseWire (ownPresent (startTimers u)))) = true)
      h.startsSensing.setsZs h.startsSensing
  have recorded : Moves motion line s b (endResetRecord (endResetSequencer
      (armingEval (senseWire (ownPresent (startTimers u)))))) := .either (sequenced.startWrites false) sequenced
  exact recorded.endsResetChannels.endsResetCauses.startsWaits.takesHealth

theorem endsWarmReset (s : State) : Moves true line (s.setPhase .running) false (endWarmReset s) :=
  Moves.refl.startsDetector.endsReset

theorem fit_static {s : State} (h : s.phase ≠ .running) : fit s = false := by
  simp [fit, running, h]

theorem takeHealth_setHm_static {s : State} (h : s.phase ≠ .running) (m : HealthState) :
    takeHealth (s.setHm m) = s.setHm { m with healthy := false } := by
  unfold takeHealth
  rw [fit_static (by exact h)]
  rfl

theorem clearFault_setHm_static {s : State} (h : s.phase ≠ .running) (f : FaultId) (m : HealthState) :
    clearFault f (s.setHm m) = s.setHm { m with active := putFault f false m.active, healthy := false } :=
  takeHealth_setHm_static h { m with active := putFault f false m.active }

/-- Outside a running part the five faults that a warm reset clears leave one after another (R214). -/
theorem resetHealth_eq {s : State} (h : s.phase ≠ .running) : resetHealth s =
    clearFault .idConflict (clearFault .configMismatch (clearFault .wireStuck (clearFault .lineSuppressed
      (clearFault .lineIsolated s)))) := by
  have first : clearFault .lineIsolated s = _ := clearFault_setHm_static h .lineIsolated s.hm
  rw [first]
  repeat rw [clearFault_setHm_static h]
  exact takeHealth_setHm_static h _

theorem resetsMotion (h : Moves true line s b u) : Moves true line s b (resetMotion u) :=
  (Moves.either (p := u.mp.det = .masked) h.byNotice h).movesMp _

theorem resetsSequencer (h : Moves motion line s b u) : Moves motion line s b (resetSequencer u) := by
  unfold resetSequencer; dsimp only; repeat' split
  all_goals exact h.setsZs

/-- The state in which the blocks are reset: a close that waited is taken, and the phase is the reset's. -/
def resetting (s : State) : State := (takeWaitingClose s).setPhase .warmReset

theorem beginsWarmReset (s : State) : Moves true true (resetting s) false (beginWarmReset s) := by
  have blocks : Moves true true (resetting s) false
      (resetSequencer (resetClaims (resetVote (resetLine (resetMotion (resetting s)))))) :=
    Moves.resetsSequencer (.byIcu (.byVtu _ (Moves.refl.resetsMotion.movesSlc (List.nil_sublist _)))
      (List.nil_sublist _))
  have whole := Moves.setsRcp (r := { (cancelChannelDeadlines ((resetSequencer (resetClaims (resetVote (resetLine
    (resetMotion (resetting s)))))).setPv PeerView.reset)).rcp with attemptDue := none })
    (Moves.byCd _ (Moves.byPv PeerView.reset blocks))
  have hphase := whole.nodeTime_phase.2
  unfold beginWarmReset; dsimp only
  rw [resetHealth_eq]
  · exact ((((whole.byClear _ nofun nofun).byClear _ nofun nofun).byClear _ nofun nofun).byClear _ nofun nofun
      |>.byClear _ nofun nofun)
  · exact fun hr => nomatch hphase.symm.trans hr

end Moves

/-- The course of an effect: elementary changes, or an event of the cold start or the reset input. -/
inductive Course (s : State) : State → Prop
  | moved {motion line u} : Moves motion line s false u → Course s u
  | image (c : Option NodeConfig) (digest : Nat) : s.phase = .readImage → Course s (takeImage c digest s)
  | record (r : Option TripRecord) : s.phase = .readRecord → Course s (finishColdStart r s)
  | resets : s.phase = .running → Course s (beginWarmReset (setResetPin true s))
  | endOfReset : s.phase = .warmReset → Course s (endWarmReset (setResetPin false s))

theorem Effect.course {s u : State} (h : Effect s u) : Course s u := by
  cases h with
  | nothing => exact .moved (motion := false) (line := false) .refl
  | falls hf => exact .moved (hf.moves s)
  | pins p => exact .moved (motion := false) (line := false) (Moves.refl.byPins p)
  | sample x y z _ => exact .moved (line := false) (Moves.refl.processesSample x y z)
  | missing _ => exact .moved (line := false) Moves.refl.countsMissing
  | follows _ _ _ hq _ _ => exact .moved (motion := false) (Moves.refl.movesSlc (hq.symm ▸ List.Sublist.refl _))
  | sends _ _ => exact .moved (motion := false) (Moves.refl.movesSlc (List.Sublist.refl _))
  | loses _ => exact .moved (motion := false) (Moves.refl.failsAttempt.movesLine _)
  | bitError _ => exact .moved (motion := false) ((Moves.refl.failsAttempt.movesLine _).scoresUp _)
  | completes _ => exact .moved (motion := false) Moves.refl.completesFrame
  | receiveError kind _ _ =>
    exact .moved (motion := false) ((Moves.refl.movesLine _).scoresUp kind).notesReceiveError
  | arrives i hrun _ hd =>
    have stamped : Moves false true s false (s.setSlc { s.slc with line := .counting, tEnd := s.nodeTime }) :=
      Moves.refl.movesSlc (by exact List.Sublist.refl _)
    exact .moved (stamped.takesFrame i hd hrun (Nat.le_refl _))
  | image c d h => exact .image c d h
  | retries _ => exact .moved (motion := false) (line := false) Moves.refl.setsRcp
  | record r h => exact .record r h
  | resets h => exact .resets h
  | endOfReset h => exact .endOfReset h

end Sys2Proof.Machine

/-! The promises of the line, which every step keeps (O56). -/

namespace Sys2Proof.Machine

/-- What a step is made of: elementary changes, and what the cold start and the reset input change beside them,
the phase, the record's state and the mode. `line` says, as for the elementary changes, that the line may move freely. -/
inductive Passes (line : Bool) (s : State) : State → Prop
  | refl : Passes line s s
  | byMoves {motion b u v} : Passes line s u → Moves motion line u b v → Passes line s v
  | byPhase {u} (p : Phase) : Passes line s u → Passes line s (u.setPhase p)
  | byRecord {u} (r : RecordState) : Passes line s u → Passes line s (u.setRcp r)
  | byMode {u} (m : Mode) : Passes line s u → Passes line s (u.setHm { u.hm with mode := m })

namespace Passes

variable {line : Bool} {s u : State}

theorem takesRecord (h : Passes line s u) (r : Option TripRecord) : Passes line s (takeRecord r u) := by
  unfold takeRecord; dsimp only; split
  · exact h.byRecord _
  · exact (h.byRecord _).byMoves (motion := false) (Moves.refl.byRaise .recordLost (by decide) (fun _ => by decide)
      fun _ => by decide)

theorem takesStartState (h : Passes line s u) : Passes line s (takeStartState u) := by
  have zoned {x : State} (hx : Passes line s x) {z : SeqRecord} (hz : z.ta = x.zs.ta) : Passes line s (x.setZs z) :=
    hx.byMoves (motion := false) (Moves.refl.setsZs hz)
  unfold takeStartState; dsimp only; repeat' split
  · exact zoned (h.byMode _) rfl
  · exact zoned (h.byMode _) rfl
  · exact zoned (h.byMode _) rfl
  · exact zoned (h.byMode _) rfl
  · exact h

theorem keeps_queue (h : Passes line s u) (hs : InOrder s.slc.queue) : InOrder u.slc.queue := by
  induction h with
  | refl => exact hs
  | byMoves _ hm ih => exact hm.keeps_queue ih
  | byPhase _ _ ih | byRecord _ _ ih | byMode _ _ ih => exact ih

theorem keeps_line (h : Passes false s u) :
    u.slc.line = s.slc.line ∧ u.slc.score = s.slc.score ∧
      u.slc.inFlight.isSome = s.slc.inFlight.isSome ∧ suppressed u = suppressed s := by
  induction h with
  | refl => exact ⟨rfl, rfl, rfl, rfl⟩
  | byMoves _ hm ih =>
    obtain ⟨hl, hs, hf, hx⟩ := hm.keeps_line
    obtain ⟨ihl, ihs, ihf, ihx⟩ := ih
    exact ⟨hl.trans ihl, hs.trans ihs, hf.trans ihf, hx.trans ihx⟩
  | byPhase _ _ ih | byRecord _ _ ih | byMode _ _ ih => exact ih

end Passes

/-- The state in which the cold start ends, before a reset input that stands asserted is taken (R187). -/
def startedUp (r : Option TripRecord) (s : State) : State :=
  let s1 := takeRecord r s
  endColdStart (startDetector (takeStartState (if configured s1 then classify s1 else s1)))

theorem finishColdStart_eq (r : Option TripRecord) (s : State) :
    finishColdStart r s = resetIfAsserted (startedUp r s) := rfl

theorem startedUp_passes {line : Bool} (r : Option TripRecord) (s : State) : Passes line s (startedUp r s) := by
  have taken : Passes line s (takeRecord r s) := Passes.refl.takesRecord r
  have classified : Passes line s (if configured (takeRecord r s) then classify (takeRecord r s)
      else takeRecord r s) := by
    split
    · exact taken.byMoves (motion := false) (Moves.refl.byCd _)
    · exact taken
  exact ((classified.takesStartState.byMoves Moves.refl.startsDetector).byPhase .running).byMoves (motion := false)
    (Moves.endsColdStart _)

namespace Passes

variable {s u : State}

theorem beginsWarmReset (h : Passes true s u) : Passes true s (beginWarmReset u) :=
  ((h.byMoves (motion := false) Moves.refl.bySettle).byPhase .warmReset).byMoves (Moves.beginsWarmReset u)

theorem movesPin (h : Passes true s u) (v : Bool) : Passes true s (setResetPin v u) :=
  h.byMoves (motion := false) (Moves.refl.byPins _)

theorem takesImage (c : Option NodeConfig) (digest : Nat) : Passes true s (takeImage c digest s) := by
  have seeking := (((Passes.refl (line := true) (s := s)).byRecord { s.rcp with
    config := c, digest := digest, readRetry := false, readDue := some (s.nodeTime + 200) }).byPhase .readRecord).byMoves
      (motion := false) (Moves.refl.movesSlc (l := { s.slc with timing := (c.getD defaultConfig).timing, line := .seeking })
        (by exact List.Sublist.refl _))
  unfold takeImage; dsimp only; split
  · exact seeking
  · exact seeking.byMoves (motion := false) (Moves.refl.byRaise .configBad (by decide) nofun fun _ => by decide)

theorem finishesColdStart (r : Option TripRecord) : Passes true s (finishColdStart r s) := by
  rw [finishColdStart_eq]
  unfold resetIfAsserted; split
  · exact (startedUp_passes r s).beginsWarmReset
  · exact startedUp_passes r s

end Passes

theorem Course.passes {s u : State} (h : Course s u) : Passes true s u := by
  cases h with
  | moved h => exact Passes.refl.byMoves ((Moves.refl (motion := true) (line := true)).trans h nofun nofun)
  | image c digest _ => exact .takesImage c digest
  | record r _ => exact .finishesColdStart r
  | resets _ => exact (Passes.refl.movesPin true).beginsWarmReset
  | endOfReset _ => exact ((Passes.refl.movesPin false).byPhase .running).byMoves (Moves.endsWarmReset _)

end Sys2Proof.Machine

/-! The score, the frame in flight and the queue: every step keeps what is promised of them (O56). -/

namespace Sys2Proof.Machine

theorem scoreOk_iff (s : State) : scoreOk s = true ↔ s.slc.score ≤ 255 ∧
    (suppressed s = true → 64 < s.slc.score) ∧ (suppressed s = false → s.slc.score < 128) := by
  cases h : suppressed s <;> simp [scoreOk, h]

theorem sendingOk_iff (s : State) : sendingOk s = true ↔ (s.slc.line = .sending ↔ s.slc.inFlight.isSome = true) ∧
    (s.slc.line = .sending → s.phase = .running ∧ suppressed s = false) := by
  simp only [sendingOk, Bool.and_eq_true, beq_iff_eq, Bool.or_eq_true, bne_iff_ne, Bool.not_eq_true']
  refine and_congr ⟨fun h => ?_, fun h => ?_⟩ ?_
  · rw [← h]; simp
  · rw [Bool.eq_iff_iff, ← h]; simp
  · simp [running, Decidable.imp_iff_not_or]

/-- A node that is not sending and has nothing in flight is as R47 has it. -/
theorem sendingOk_of_idle {s : State} (hl : s.slc.line ≠ .sending) (hf : s.slc.inFlight.isSome = false) :
    sendingOk s = true := by
  rw [sendingOk_iff]
  exact ⟨⟨fun h => absurd h hl, fun h => by rw [hf] at h; cases h⟩, fun h => absurd h hl⟩

/-- A node that is not sending has nothing in flight (R47). -/
theorem inFlight_of_sendingOk {s : State} (h : sendingOk s = true) (hl : s.slc.line ≠ .sending) :
    s.slc.inFlight.isSome = false := by
  rw [sendingOk_iff] at h
  exact Bool.eq_false_iff.mpr fun hf => hl (h.1.mpr hf)

/-- What the promises of the line read stands. -/
def LineStands (s u : State) : Prop :=
  u.slc.line = s.slc.line ∧ u.slc.score = s.slc.score ∧ u.slc.inFlight.isSome = s.slc.inFlight.isSome ∧
    suppressed u = suppressed s

theorem LineStands.score {s u : State} (h : LineStands s u) (hs : scoreOk s = true) : scoreOk u = true := by
  obtain ⟨_, hscore, _, hx⟩ := h
  rw [scoreOk_iff] at hs ⊢
  rw [hscore, hx]
  exact hs

/-- The line stands, and the part runs on if it ran. -/
theorem LineStands.sending {s u : State} (h : LineStands s u) (hp : s.phase = .running → u.phase = .running)
    (hs : sendingOk s = true) : sendingOk u = true := by
  obtain ⟨hline, _, hf, hx⟩ := h
  rw [sendingOk_iff] at hs ⊢
  rw [hline, hf, hx]
  exact ⟨hs.1, fun hl => ⟨hp (hs.2 hl).1, (hs.2 hl).2⟩⟩

/-! ## The score -/

theorem scoreUp_line (kind : ErrKind) (s : State) :
    (scoreUp kind s).slc.line = s.slc.line ∧ (scoreUp kind s).slc.score = min 255 (s.slc.score + 8) ∧
      (scoreUp kind s).slc.inFlight.isSome = s.slc.inFlight.isSome ∧
      suppressed (scoreUp kind s) = (suppressed s || decide (128 ≤ s.slc.score + 8)) := by
  unfold scoreUp raiseLineFault; dsimp only; split
  case isTrue h =>
    have hmoves := (Moves.refl (motion := false) (line := false) (s := raiseFault .lineSuppressed
      (s.setSlc { s.slc with score := min 255 (s.slc.score + 8), lastError := kind }))).changesLine
        (lineUsable (s.setSlc { s.slc with score := min 255 (s.slc.score + 8), lastError := kind }))
    obtain ⟨hl, hs, hf, hx⟩ := hmoves.keeps_line
    rw [hl, hs, hf, hx]
    have hscore : 128 ≤ s.slc.score + 8 := Nat.le_trans h.2 (Nat.min_le_right _ _)
    refine ⟨by rw [raiseFault_eq]; rfl, by rw [raiseFault_eq]; rfl, by rw [raiseFault_eq]; rfl, ?_⟩
    rw [decide_eq_true hscore, Bool.or_true]
    exact active_raiseFault_same .lineSuppressed _
  case isFalse h =>
    refine ⟨rfl, rfl, rfl, ?_⟩
    change suppressed s = _
    have hs : ¬(suppressed s = false ∧ 128 ≤ min 255 (s.slc.score + 8)) := h
    cases hx : suppressed s with
    | true => rfl
    | false =>
      have hlow : ¬128 ≤ s.slc.score + 8 := fun hle => hs ⟨hx, Nat.le_min.mpr ⟨by decide, hle⟩⟩
      simpa using hlow

theorem scoreDown_line (s : State) :
    (scoreDown s).slc.line = s.slc.line ∧ (scoreDown s).slc.score = s.slc.score - 1 ∧
      (scoreDown s).slc.inFlight.isSome = s.slc.inFlight.isSome ∧
      suppressed (scoreDown s) = (suppressed s && decide (64 < s.slc.score - 1)) := by
  unfold scoreDown clearLineFault; dsimp only; split
  case isTrue h =>
    have hmoves := (Moves.refl (motion := false) (line := false) (s := clearFault .lineSuppressed
      (s.setSlc { s.slc with score := s.slc.score - 1 }))).changesLine
        (lineUsable (s.setSlc { s.slc with score := s.slc.score - 1 }))
    obtain ⟨hl, hs, hf, hx⟩ := hmoves.keeps_line
    rw [hl, hs, hf, hx]
    have hscore : ¬64 < s.slc.score - 1 := Nat.not_lt.mpr h.2
    refine ⟨by rw [clearFault_eq]; rfl, by rw [clearFault_eq]; rfl, by rw [clearFault_eq]; rfl, ?_⟩
    rw [decide_eq_false hscore, Bool.and_false]
    exact active_clearFault_same .lineSuppressed _
  case isFalse h =>
    refine ⟨rfl, rfl, rfl, ?_⟩
    change suppressed s = _
    have hs : ¬(suppressed s = true ∧ s.slc.score - 1 ≤ 64) := h
    cases hx : suppressed s with
    | false => rfl
    | true =>
      have hhigh : 64 < s.slc.score - 1 := Nat.not_le.mp fun hle => hs ⟨hx, hle⟩
      simpa using hhigh

theorem scoreOk_scoreUp (kind : ErrKind) {s : State} (hs : scoreOk s = true) : scoreOk (scoreUp kind s) = true := by
  obtain ⟨-, hscore, -, hx⟩ := scoreUp_line kind s
  rw [scoreOk_iff] at hs ⊢
  rw [hscore, hx]
  refine ⟨Nat.min_le_left _ _, fun h => ?_, fun h => ?_⟩
  · rw [Bool.or_eq_true, decide_eq_true_iff] at h
    rcases h with h | h
    · have := hs.2.1 h; omega
    · omega
  · rw [Bool.or_eq_false_iff, decide_eq_false_iff_not] at h
    omega

theorem scoreOk_scoreDown {s : State} (hs : scoreOk s = true) : scoreOk (scoreDown s) = true := by
  obtain ⟨-, hscore, -, hx⟩ := scoreDown_line s
  rw [scoreOk_iff] at hs ⊢
  rw [hscore, hx]
  refine ⟨Nat.le_trans (Nat.sub_le _ _) hs.1, fun h => ?_, fun h => ?_⟩
  · rw [Bool.and_eq_true, decide_eq_true_iff] at h
    exact h.2
  · cases hsup : suppressed s with
    | false => exact Nat.lt_of_le_of_lt (Nat.sub_le _ _) (hs.2.2 hsup)
    | true =>
      rw [hsup, Bool.true_and, decide_eq_false_iff_not] at h
      omega

end Sys2Proof.Machine

/-! The effects of the commands keep the promises of the line (O56). -/

namespace Sys2Proof.Machine

/-- The attempt in flight has ended, and nothing else of the line but the queue has changed. -/
theorem failAttempt_line (s : State) : (failAttempt s).slc.line = s.slc.line ∧
    (failAttempt s).slc.score = s.slc.score ∧ (failAttempt s).slc.inFlight = none ∧
    suppressed (failAttempt s) = suppressed s := by
  unfold failAttempt; split
  case h_1 => exact ⟨rfl, rfl, rfl, rfl⟩
  case h_2 h => exact ⟨rfl, rfl, h, rfl⟩

theorem completeAttempt_line (s : State) : (completeAttempt s).slc.line = s.slc.line ∧
    (completeAttempt s).slc.score = s.slc.score ∧ (completeAttempt s).slc.inFlight = none ∧
    suppressed (completeAttempt s) = suppressed s := by
  unfold completeAttempt; split
  case h_1 => exact ⟨rfl, rfl, rfl, rfl⟩
  case h_2 h => exact ⟨rfl, rfl, h, rfl⟩

theorem resetSequencer_eq (s : State) : resetSequencer s = s.setZs (resetSequencer s).zs := by
  unfold resetSequencer; dsimp only; repeat' split
  all_goals rfl

/-- From the assertion of the reset input on the line is silent (R55, R214). -/
theorem beginWarmReset_line (s : State) : (beginWarmReset s).slc.line = .seeking ∧
    (beginWarmReset s).slc.score = 0 ∧ (beginWarmReset s).slc.inFlight = none ∧
    suppressed (beginWarmReset s) = false := by
  unfold beginWarmReset resetHealth; dsimp only
  rw [takeHealth_eq, resetSequencer_eq]
  exact ⟨rfl, rfl, rfl, rfl⟩

theorem startedUp_line (r : Option TripRecord) (s : State) : LineStands s (startedUp r s) :=
  (startedUp_passes (line := false) r s).keeps_line

theorem startedUp_phase (r : Option TripRecord) (s : State) : (startedUp r s).phase = .running :=
  (Moves.endsColdStart (motion := false) (line := false) _).nodeTime_phase.2

theorem takeImage_line (c : Option NodeConfig) (digest : Nat) (s : State) :
    (takeImage c digest s).slc.line = .seeking ∧ (takeImage c digest s).slc.score = s.slc.score ∧
      (takeImage c digest s).slc.inFlight = s.slc.inFlight ∧ suppressed (takeImage c digest s) = suppressed s := by
  unfold takeImage; dsimp only; split
  · exact ⟨rfl, rfl, rfl, rfl⟩
  · refine ⟨by rw [raiseFault_eq]; rfl, by rw [raiseFault_eq]; rfl, by rw [raiseFault_eq]; rfl, ?_⟩
    exact active_raiseFault_other (by decide) _

theorem leaveNodeTime_moves (t : Nat) (s : State) : Moves false false s false (leaveNodeTime t s) :=
  .either Moves.refl.bySettle .refl

theorem advance_line (t : Nat) (s : State) : LineStands s (advance t s) ∧ (advance t s).phase = s.phase := by
  unfold advance; split
  · exact ⟨⟨rfl, rfl, rfl, rfl⟩, rfl⟩
  · exact ⟨(leaveNodeTime_moves t s).keeps_line, (leaveNodeTime_moves t s).nodeTime_phase.2⟩

theorem coldReset_line (id : StationId) (range16 : Bool) (identity : Byte) (s : State) :
    (coldReset id range16 identity s).slc = State.reset.slc ∧ suppressed (coldReset id range16 identity s) = false := by
  unfold coldReset; dsimp only; split
  · exact ⟨rfl, rfl⟩
  · exact ⟨by rw [raiseFault_eq]; rfl, active_raiseFault_other (by decide) _⟩

/-! ## The score -/

theorem scoreOk_of {s u : State} (hs : scoreOk s = true) (hscore : u.slc.score = s.slc.score)
    (hx : suppressed u = suppressed s) : scoreOk u = true := by
  rw [scoreOk_iff] at hs ⊢
  rw [hscore, hx]
  exact hs

theorem scoreOk_beginWarmReset (s : State) : scoreOk (beginWarmReset s) = true := by
  obtain ⟨-, hscore, -, hx⟩ := beginWarmReset_line s
  rw [scoreOk_iff, hscore, hx]
  decide

theorem scoreOk_frameCompleted {s : State} (hs : scoreOk s = true) : scoreOk (frameCompleted s) = true := by
  unfold frameCompleted; dsimp only; split
  · have scored := scoreOk_scoreDown (s := s.setSlc { s.slc with line := .counting, tEnd := s.nodeTime }) hs
    generalize scoreDown _ = v at scored ⊢
    obtain ⟨-, hscore, -, hx⟩ := completeAttempt_line v
    exact LineStands.score (Moves.refl.reportsCompletion (motion := false) _).keeps_line (scoreOk_of scored hscore hx)
  · exact hs

theorem Effect.keeps_score {s u : State} (h : Effect s u) (hs : scoreOk s = true) : scoreOk u = true := by
  cases h with
  | nothing => exact hs
  | falls hf => exact LineStands.score (hf.moves s).keeps_line hs
  | pins p => exact hs
  | sample x y z _ => exact LineStands.score (Moves.refl.processesSample x y z).keeps_line hs
  | missing _ => exact LineStands.score Moves.refl.countsMissing.keeps_line hs
  | follows _ _ _ _ _ hscore => exact scoreOk_of hs hscore rfl
  | sends _ _ => exact hs
  | loses _ =>
    obtain ⟨-, hscore, -, hx⟩ := failAttempt_line s
    exact scoreOk_of (u := setLine .receiving (failAttempt s)) hs hscore hx
  | bitError _ =>
    obtain ⟨-, hscore, -, hx⟩ := failAttempt_line s
    exact scoreOk_scoreUp .bit (scoreOk_of (u := setLine .seeking (failAttempt s)) hs hscore hx)
  | completes _ => exact scoreOk_frameCompleted hs
  | receiveError kind _ _ =>
    exact LineStands.score (Moves.refl.notesReceiveError (motion := false)).keeps_line
      (scoreOk_scoreUp kind (s := setLine .seeking s) hs)
  | arrives i hrun _ hd =>
    exact LineStands.score (Moves.hearsFrame (u := s.setSlc { s.slc with line := .counting, tEnd := s.nodeTime })
      i hd hrun (Nat.le_refl _)).keeps_line (scoreOk_scoreDown hs)
  | image c digest _ =>
    obtain ⟨-, hscore, -, hx⟩ := takeImage_line c digest s
    exact scoreOk_of hs hscore hx
  | retries _ => exact hs
  | record r _ =>
    rw [finishColdStart_eq]
    unfold resetIfAsserted; split
    · exact scoreOk_beginWarmReset _
    · exact (startedUp_line r s).score hs
  | resets _ => exact scoreOk_beginWarmReset _
  | endOfReset _ => exact LineStands.score (Moves.endsWarmReset (setResetPin false s)).keeps_line hs

/-! ## The frame in flight -/

theorem sendingOk_beginWarmReset (s : State) : sendingOk (beginWarmReset s) = true := by
  obtain ⟨hl, -, hf, -⟩ := beginWarmReset_line s
  exact sendingOk_of_idle (by rw [hl]; decide) (by rw [hf]; rfl)

theorem sendingOk_frameCompleted {s : State} (hs : sendingOk s = true) : sendingOk (frameCompleted s) = true := by
  unfold frameCompleted; dsimp only; split
  · obtain ⟨hl, -, -, -⟩ := scoreDown_line (s.setSlc { s.slc with line := .counting, tEnd := s.nodeTime })
    generalize scoreDown _ = v at hl ⊢
    obtain ⟨hline, -, hf, -⟩ := completeAttempt_line v
    obtain ⟨hline', -, hf', -⟩ :=
      (Moves.refl.reportsCompletion (motion := false) (line := false) (s := completeAttempt v) v.slc.inFlight).keeps_line
    exact sendingOk_of_idle (by rw [hline', hline, hl]; exact nofun) (by rw [hf', hf]; rfl)
  · exact hs

theorem Effect.keeps_sending {s u : State} (h : Effect s u) (hs : sendingOk s = true) : sendingOk u = true := by
  cases h with
  | nothing => exact hs
  | falls hf =>
    exact LineStands.sending (hf.moves s).keeps_line (fun hp => (hf.moves s).nodeTime_phase.2.trans hp) hs
  | pins p => exact hs
  | sample x y z _ =>
    have h := Moves.refl.processesSample (line := false) (s := s) x y z
    exact LineStands.sending h.keeps_line (fun hp => h.nodeTime_phase.2.trans hp) hs
  | missing _ =>
    have h := Moves.refl.countsMissing (line := false) (s := s)
    exact LineStands.sending h.keeps_line (fun hp => h.nodeTime_phase.2.trans hp) hs
  | follows _ hl hl' _ hf _ =>
    exact sendingOk_of_idle hl' ((congrArg Option.isSome hf).trans (inFlight_of_sendingOk hs hl))
  | sends hmay _ =>
    unfold maySend at hmay
    simp only [Bool.and_eq_true, Bool.not_eq_true'] at hmay
    rw [sendingOk_iff]
    exact ⟨⟨fun _ => rfl, fun _ => rfl⟩, fun _ => ⟨phase_of_running hmay.1.1, hmay.2⟩⟩
  | loses _ =>
    obtain ⟨-, -, hf, -⟩ := failAttempt_line s
    exact sendingOk_of_idle (s := setLine .receiving (failAttempt s)) nofun (congrArg Option.isSome hf)
  | bitError _ =>
    obtain ⟨-, -, hf, -⟩ := failAttempt_line s
    obtain ⟨hl, -, hf', -⟩ := scoreUp_line .bit (setLine .seeking (failAttempt s))
    exact sendingOk_of_idle (hl ▸ nofun) (hf'.trans (congrArg Option.isSome hf))
  | completes _ => exact sendingOk_frameCompleted hs
  | receiveError kind _ hline =>
    have hnone := inFlight_of_sendingOk hs (by rw [hline]; decide)
    obtain ⟨hl, -, hf, -⟩ := scoreUp_line kind (setLine .seeking s)
    obtain ⟨hl', -, hf', -⟩ := (Moves.refl.notesReceiveError (motion := false) (line := false)
      (s := scoreUp kind (setLine .seeking s))).keeps_line
    exact sendingOk_of_idle (by rw [hl', hl]; exact nofun)
      (hf'.trans (hf.trans hnone))
  | arrives i hrun hline hd =>
    have hnone := inFlight_of_sendingOk hs (by rw [hline]; decide)
    obtain ⟨hl, -, hf, -⟩ := scoreDown_line (s.setSlc { s.slc with line := .counting, tEnd := s.nodeTime })
    obtain ⟨hl', -, hf', -⟩ := (Moves.hearsFrame (u := s.setSlc { s.slc with line := .counting, tEnd := s.nodeTime })
      i hd hrun (Nat.le_refl _)).keeps_line
    exact sendingOk_of_idle (by rw [hl', hl]; exact nofun)
      (hf'.trans (hf.trans hnone))
  | image c digest hp =>
    obtain ⟨hl, -, hf, -⟩ := takeImage_line c digest s
    have hidle : s.slc.line ≠ .sending := fun h => by
      have := ((sendingOk_iff s).mp hs).2 h
      rw [hp] at this
      cases this.1
    exact sendingOk_of_idle (by rw [hl]; decide) ((congrArg Option.isSome hf).trans (inFlight_of_sendingOk hs hidle))
  | retries _ => exact hs
  | record r _ =>
    rw [finishColdStart_eq]
    unfold resetIfAsserted; split
    · exact sendingOk_beginWarmReset _
    · exact (startedUp_line r s).sending (fun _ => startedUp_phase r s) hs
  | resets _ => exact sendingOk_beginWarmReset _
  | endOfReset _ =>
    have h := Moves.endsWarmReset (line := false) (setResetPin false s)
    have hl : LineStands s (endWarmReset (setResetPin false s)) := h.keeps_line
    exact hl.sending (fun _ => h.nodeTime_phase.2) hs

/-- Settles O56: each of the three promises is kept by every effect, the queue through the elementary changes. -/
theorem linePromisesAreKept : Obligations.LinePromisesAreKept := by
  intro s u h
  refine ⟨step_keeps (P := fun v => queueOk v = true) ?_ ?_ ?_ ?_ ?_ h,
    step_keeps (P := fun v => scoreOk v = true) ?_ ?_ ?_ ?_ (fun _ _ => Effect.keeps_score) h,
    step_keeps (P := fun v => sendingOk v = true) ?_ ?_ ?_ ?_ (fun _ _ => Effect.keeps_sending) h⟩
  · exact fun _ _ h => h
  · exact fun _ h => h
  · intro t v hv
    unfold advance; split
    · exact hv
    · rw [queueOk_iff] at hv ⊢
      exact (leaveNodeTime_moves t v).keeps_queue hv
  · intro id range16 identity v _
    unfold queueOk
    rw [(coldReset_line id range16 identity v).1]
    rfl
  · intro v w hw hv
    rw [queueOk_iff] at hv ⊢
    exact hw.course.passes.keeps_queue hv
  · exact fun _ _ h => h
  · exact fun _ h => h
  · exact fun t v => (advance_line t v).1.score
  · intro id range16 identity v _
    obtain ⟨hslc, hx⟩ := coldReset_line id range16 identity v
    rw [scoreOk_iff, hslc, hx]
    decide
  · exact fun _ _ h => h
  · exact fun _ h => h
  · exact fun t v => (advance_line t v).1.sending (fun hp => (advance_line t v).2.trans hp)
  · intro id range16 identity v _
    obtain ⟨hslc, -⟩ := coldReset_line id range16 identity v
    exact sendingOk_of_idle (by rw [hslc]; decide) (by rw [hslc]; rfl)

end Sys2Proof.Machine

/-! The arithmetic of the samples: what steps 1 to 8 give, and the bounds in which it stays. -/

namespace Sys2Proof.Machine

theorem clamp16_bounds (v : Int) : -32767 ≤ clamp16 v ∧ clamp16 v ≤ 32767 := by unfold clamp16; omega

theorem clamp16_natAbs (v : Int) : (clamp16 v).natAbs ≤ 32767 := by have := clamp16_bounds v; omega

theorem horizontal_le {p q : Int} (hp : p.natAbs ≤ 32767) (hq : q.natAbs ≤ 32767) : horizontal p q ≤ 49150 := by
  unfold horizontal; omega

theorem two_mul_le_squares_of_le {x y : Nat} (h : x ≤ y) : 2 * (x * y) ≤ x * x + y * y := by
  obtain ⟨d, rfl⟩ := Nat.exists_eq_add_of_le h
  have hd : d * x = x * d := Nat.mul_comm d x
  simp only [Nat.mul_add, Nat.add_mul]
  omega

theorem two_mul_le_squares (x y : Nat) : 2 * (x * y) ≤ x * x + y * y := by
  rcases Nat.le_total x y with h | h
  · exact two_mul_le_squares_of_le h
  · rw [Nat.mul_comm x y, Nat.add_comm]
    exact two_mul_le_squares_of_le h

/-- With `M` the larger and `m` the smaller of the two values, 5(M² + m²) − (2M + m)² = (M − 2m)². -/
theorem four_mul_square_le {M m h : Nat} (hh : 2 * h ≤ m) : 4 * ((M + h) * (M + h)) ≤ 5 * (M * M + m * m) := by
  have hle : (2 * M + 2 * h) * (2 * M + 2 * h) ≤ (2 * M + m) * (2 * M + m) :=
    Nat.mul_self_le_mul_self (by omega)
  have hsq : 2 * (M * (2 * m)) ≤ M * M + 2 * m * (2 * m) := two_mul_le_squares M (2 * m)
  have hleft : (2 * M + 2 * h) * (2 * M + 2 * h) = 4 * ((M + h) * (M + h)) := by
    rw [← Nat.mul_add, Nat.mul_mul_mul_comm]
  have hright : (2 * M + m) * (2 * M + m) = 4 * (M * M) + 4 * (M * m) + m * m := by
    rw [Nat.mul_add, Nat.add_mul, Nat.add_mul, Nat.mul_mul_mul_comm 2 M 2 M, Nat.mul_comm m (2 * M), Nat.mul_assoc 2 M m]
    omega
  rw [Nat.mul_left_comm M 2 m, Nat.mul_mul_mul_comm 2 m 2 m] at hsq
  omega

theorem horizontal_square_le (p q : Int) :
    4 * (horizontal p q * horizontal p q) ≤ 5 * (p.natAbs * p.natAbs + q.natAbs * q.natAbs) := by
  have key := four_mul_square_le (M := max p.natAbs q.natAbs) (Nat.mul_div_le (min p.natAbs q.natAbs) 2)
  unfold horizontal
  rcases Nat.le_total p.natAbs q.natAbs with h | h
  · rw [Nat.max_eq_right h, Nat.min_eq_left h] at key ⊢
    rwa [Nat.add_comm (p.natAbs * p.natAbs)]
  · rwa [Nat.max_eq_left h, Nat.min_eq_right h] at key ⊢

theorem sampleU_le (p : Sample) (m : MotionState) : sampleU p m ≤ 49150 := by
  have := horizontal_le (clamp16_natAbs (p.cx - m.baseX / 256)) (clamp16_natAbs (p.cy - m.baseY / 256))
  have := clamp16_natAbs (p.cz - m.baseZ / 256)
  unfold sampleU amplitude detrend
  omega

/-- A part, rounded down, of the distance to a target leads no further than the target (R10, R13, R16). -/
theorem toward_between (v w : Int) {d : Int} (hd : 1 ≤ d) : min v w ≤ v + (w - v) / d ∧ v + (w - v) / d ≤ max v w := by
  rcases Int.le_total v w with h | h
  · have hpos : 0 ≤ (w - v) / d := Int.ediv_nonneg (by omega) (by omega)
    have hle : (w - v) / d ≤ w - v := Int.ediv_le_self _ (by omega)
    omega
  · have hneg : (w - v) / d ≤ 0 := Int.ediv_nonpos_of_nonpos_of_neg (by omega) (by omega)
    have hge : w - v ≤ (w - v) / d := by
      rw [Int.le_ediv_iff_mul_le (by omega)]
      have hmul : (w - v) * d ≤ (w - v) * 1 := Int.mul_le_mul_of_nonpos_left (by omega) hd
      rwa [Int.mul_one] at hmul
    omega

theorem nextBaseline_between (c b : Int) : min b (256 * c) ≤ nextBaseline c b ∧ nextBaseline c b ≤ max b (256 * c) :=
  toward_between b (256 * c) (by decide)

theorem average_between (k u : Nat) (v : Int) :
    min v (16 * (u : Int)) ≤ average k u v ∧ average k u v ≤ max v (16 * (u : Int)) :=
  toward_between v (16 * (u : Int)) (Int.pow_pos (by decide : (0 : Int) < 2))

/-- Settles O3, one step of the pipeline after another. -/
theorem sampleArithmeticStaysInRange : Obligations.SampleArithmeticStaysInRange := by
  refine ⟨fun c => ?_, fun c b => ?_, fun p q r => ⟨rfl, rfl⟩, fun p q hp hq => ?_, fun p m => ?_, fun c b => ?_,
    fun k u v => ?_⟩
  · have hlo := BitVec.le_toInt c
    have hhi := BitVec.toInt_lt (x := c)
    unfold clampCount clamp16
    split <;> omega
  · have := clamp16_bounds (c - b / 256)
    unfold detrend
    refine ⟨this.1, this.2, fun hlo hhi => ?_⟩
    unfold clamp16; omega
  · exact ⟨horizontal_le hp hq, horizontal_square_le p q⟩
  · exact ⟨sampleU_le p m, Nat.le_max_left _ _⟩
  · obtain ⟨hlo, hhi⟩ := nextBaseline_between c b
    refine ⟨rfl, hlo, hhi, fun h => ?_, fun h h' => ?_⟩
    all_goals unfold nextBaseline; omega
  · exact ⟨by simp [average], average_between k u v⟩

/-! ## The figures of an own event (R17) -/

theorem thresholdsReached_mono {v w : Nat} (h : v ≤ w) (l : List Nat) : thresholdsReached v l ≤ thresholdsReached w l := by
  unfold thresholdsReached
  rw [← List.countP_eq_length_filter, ← List.countP_eq_length_filter]
  refine List.countP_mono_left fun t _ ht => ?_
  rw [decide_eq_true_iff] at ht ⊢
  exact Nat.le_trans ht h

theorem eventGrade_mono (c : NodeConfig) {p p' i i' : Nat} (hp : p ≤ p') (hi : i ≤ i') :
    eventGrade c p i ≤ eventGrade c p' i' := by
  have hpeak := thresholdsReached_mono hp [c.p1, c.p2, c.p3, c.p4]
  have hci := thresholdsReached_mono hi [c.c1, c.c2, c.c3, c.c4]
  unfold eventGrade
  omega

theorem eventGrade_le (c : NodeConfig) (p i : Nat) : eventGrade c p i ≤ 4 :=
  Nat.max_le.mpr ⟨List.length_filter_le _ _, List.length_filter_le _ _⟩

theorem milliG_mono (strap : Bool) {n n' : Nat} (h : n ≤ n') : milliG strap n ≤ milliG strap n' := by
  unfold milliG; split <;> omega

theorem nextCi_ge (uci mg : Nat) {ci : Nat} (h : ci ≤ 4294967295) : ci ≤ nextCi uci mg ci := by
  unfold nextCi; split <;> omega

theorem nextCi_le (uci mg : Nat) {ci : Nat} (h : ci ≤ 4294967295) : nextCi uci mg ci ≤ 4294967295 := by
  unfold nextCi; split <;> omega

/-- With all thresholds above 0 figures of 0 have grade 0. -/
theorem thresholdsReached_zero {l : List Nat} (h : ∀ t ∈ l, 0 < t) : thresholdsReached 0 l = 0 := by
  unfold thresholdsReached
  rw [List.length_eq_zero_iff, List.filter_eq_nil_iff]
  exact fun t ht => by have := h t ht; simpa using Nat.ne_of_gt this

theorem thresholds_rise {c : NodeConfig} (h : configValid c = true) :
    (1 ≤ c.p1 ∧ c.p1 < c.p2 ∧ c.p2 < c.p3 ∧ c.p3 < c.p4) ∧ 1 ≤ c.c1 ∧ c.c1 < c.c2 ∧ c.c2 < c.c3 ∧ c.c3 < c.c4 := by
  simp only [configValid, siteInRange, thresholdsRise, Bool.and_eq_true, decide_eq_true_iff] at h
  omega

/-- Settles O5. -/
theorem eventGradeNeverDecreases : Obligations.EventGradeNeverDecreases := by
  refine ⟨fun c strap h u m hpmg hgrade hci => ?_, fun c m hc => ⟨?_, rfl⟩⟩
  · have hpeak : m.peak ≤ max m.peak h := Nat.le_max_left _ _
    have hnext := nextCi_ge c.uci (milliG strap u) hci
    refine ⟨rfl, rfl, nextCi_le _ _ hci, hpeak, Nat.le_max_right _ _, hnext, ?_, eventGrade_le _ _ _⟩
    rw [hgrade, hpmg]
    exact eventGrade_mono c (milliG_mono strap hpeak) hnext
  · obtain ⟨⟨hp1, hp2, hp3, hp4⟩, hc1, hc2, hc3, hc4⟩ := thresholds_rise hc
    have hp : ∀ t ∈ [c.p1, c.p2, c.p3, c.p4], 0 < t := by simp; omega
    have hi : ∀ t ∈ [c.c1, c.c2, c.c3, c.c4], 0 < t := by simp; omega
    rw [eventGrade, thresholdsReached_zero hp, thresholdsReached_zero hi]
    rfl

end Sys2Proof.Machine

/-! The promises of the baselines, the averages and the detector (O58). -/

namespace Sys2Proof.Machine

/-- The bounds of baselines and averages. -/
def InBounds (m : MotionState) : Prop :=
  (-8388352 ≤ m.baseX ∧ m.baseX ≤ 8388352) ∧ (-8388352 ≤ m.baseY ∧ m.baseY ≤ 8388352) ∧
    (-8388352 ≤ m.baseZ ∧ m.baseZ ≤ 8388352) ∧ (0 ≤ m.sta ∧ m.sta ≤ 786400) ∧ (0 ≤ m.lta ∧ m.lta ≤ 786400)

theorem averagesOk_iff (s : State) : averagesOk s = true ↔ InBounds s.mp := by
  simp [averagesOk, InBounds, and_assoc]

/-- What the detector may be, given the faults and the phase. -/
def DetectorFits (s : State) (m : MotionState) : Prop :=
  (active .sensorLost s = true → m.det = .idle) ∧ (s.phase ≠ .running → m.det = .idle) ∧
    m.inProgress = (m.det == .event)

theorem detectorOk_iff (s : State) : detectorOk s = true ↔ DetectorFits s s.mp := by
  simp [detectorOk, DetectorFits, running, and_assoc, Decidable.or_iff_not_imp_left]

theorem MotionStands.inBounds {m n : MotionState} (h : MotionStands m n) (hm : InBounds m) : InBounds n := by
  obtain ⟨-, -, hx, hy, hz, hs, hl⟩ := h
  unfold InBounds
  rw [hx, hy, hz, hs, hl]
  exact hm

theorem MotionStands.detectorFits {s : State} {m n : MotionState} (h : MotionStands m n) (hm : DetectorFits s m) :
    DetectorFits s n := by
  obtain ⟨hd, hp, -⟩ := h
  unfold DetectorFits
  rw [hd, hp]
  exact hm

/-- SENSOR-LOST and the phase are all that the detector's promise reads of the rest of the state. -/
theorem DetectorFits.of {s u : State} {m : MotionState} (h : DetectorFits s m)
    (ha : active .sensorLost u = active .sensorLost s) (hp : u.phase = s.phase) : DetectorFits u m := by
  unfold DetectorFits
  rw [ha, hp]
  exact h

namespace Moves

variable {line b : Bool} {s u : State}

/-- With the MP left alone the bounds stand. -/
theorem keeps_bounds (h : Moves false line s b u) (hs : InBounds s.mp) : InBounds u.mp := by
  induction h with
  | refl => exact hs
  | byMp _ hm ih => exact (hm rfl).inBounds ih
  | byPlace e _ ih => rw [place_eq]; exact ih
  | byRelease n r _ ih => rw [queueRelease_eq]; exact ih
  | byRequest a o v g l _ ih => rw [rcpTrip_eq]; exact ih
  | byClose _ ih => rw [rcpClose_eq]; exact ih
  | bySettle _ ih => rw [takeWaitingClose_eq]; exact ih
  | byRaise f _ _ _ _ ih => rw [raiseFault_eq]; exact ih
  | byClear f _ _ _ ih => rw [clearFault_eq]; exact ih
  | byMode m _ ih => rw [takeHealth_eq]; exact ih
  | byTest _ _ _ ih | bySlc _ _ _ ih | byPv _ _ ih | byVtu _ _ ih | byCd _ _ ih | byPins _ _ ih
  | byDrawn _ ih | byZs _ _ ih | byIcu _ _ ih | byAppend _ _ ih | byRemove _ _ ih | byRcp _ _ _ _ ih
  | byNotice _ ih | byAck _ ih | byResult _ _ _ ih => exact ih

/-- A self-test that can start leads from a detector that fits to one that fits (R25). -/
theorem detectorFits_startTest {v : State} (hp : v.phase = .running) (ht : canTest v = true)
    (hv : DetectorFits v v.mp) : DetectorFits v (startTest v).mp := by
  obtain ⟨hlost, -, hprog⟩ := hv
  have hdet : v.mp.det ≠ .event ∧ active .sensorLost v = false := by
    simp only [canTest, Bool.or_eq_true, beq_iff_eq, Bool.and_eq_true, Bool.not_eq_true'] at ht
    rcases ht with hq | ⟨⟨⟨hi, -⟩, hl⟩, -⟩
    · refine ⟨by rw [hq]; decide, Bool.eq_false_iff.mpr fun hl => ?_⟩
      have := hlost hl
      rw [hq] at this
      cases this
    · exact ⟨by rw [hi]; decide, hl⟩
  refine ⟨fun hl => absurd hl (by simp [hdet.2]), fun hn => absurd hp hn, ?_⟩
  change v.mp.inProgress = false
  rw [hprog]
  exact beq_eq_false_iff_ne.mpr hdet.1

/-- With SENSOR-LOST left alone the detector goes on to fit: only a self-test that can start moves it. -/
theorem keeps_detector (h : Moves false line s b u) (hs : DetectorFits s s.mp) :
    DetectorFits u u.mp := by
  induction h with
  | refl => exact hs
  | byMp _ hm ih => exact ((hm rfl).detectorFits ih).of rfl rfl
  | byTest _ hp ht ih => exact (detectorFits_startTest hp ht ih).of rfl rfl
  | byPlace e _ ih => rw [place_eq]; exact ih
  | byRelease n r _ ih => rw [queueRelease_eq]; exact ih
  | byRequest a o v g l _ ih => rw [rcpTrip_eq]; exact ih
  | byClose _ ih => rw [rcpClose_eq]; exact ih
  | bySettle _ ih => rw [takeWaitingClose_eq]; exact ih
  | @byRaise _ v f _ _ _ hf ih =>
    have ha := active_raiseFault_other (hf rfl) v
    rw [raiseFault_eq] at ha ⊢
    exact ih.of ha rfl
  | @byClear _ v f _ _ hf ih =>
    have ha := active_clearFault_other (hf rfl) v
    rw [clearFault_eq] at ha ⊢
    exact ih.of ha rfl
  | byMode m _ ih => rw [takeHealth_eq]; exact ih
  | bySlc _ _ _ ih | byPv _ _ ih | byVtu _ _ ih | byCd _ _ ih | byPins _ _ ih
  | byDrawn _ ih | byZs _ _ ih | byIcu _ _ ih | byAppend _ _ ih | byRemove _ _ ih | byRcp _ _ _ _ ih
  | byNotice _ ih | byAck _ ih | byResult _ _ _ ih => exact ih

end Moves

end Sys2Proof.Machine

/-! What the samples, the loss of the sensor and its recovery make of the MP (O58). -/

namespace Sys2Proof.Machine

/-- A part that is running with its sensor sound may have any detector state. -/
theorem detectorFits_awake {s : State} {m : MotionState} (hl : active .sensorLost s = false)
    (hp : s.phase = .running) (hprog : m.inProgress = (m.det == .event)) : DetectorFits s m :=
  ⟨fun h => absurd h (by simp [hl]), fun h => absurd hp h, hprog⟩

/-- A detector that is not IDLE says that the part is running with its sensor sound. -/
theorem DetectorFits.awake {s : State} {m : MotionState} (h : DetectorFits s m) (hd : m.det ≠ .idle) :
    active .sensorLost s = false ∧ s.phase = .running := by
  obtain ⟨hl, hp, -⟩ := h
  exact ⟨Bool.eq_false_iff.mpr fun ha => hd (hl ha), Decidable.of_not_not fun hn => hd (hp hn)⟩

/-- An MP with the same detector and the same own event fits where the first does. -/
theorem DetectorFits.same {s : State} {m n : MotionState} (h : DetectorFits s m) (hd : n.det = m.det)
    (hprog : n.inProgress = m.inProgress) : DetectorFits s n := by
  unfold DetectorFits
  rw [hd, hprog]
  exact h

theorem detectorFits_idle {s : State} {m : MotionState} (hd : m.det = .idle) (hprog : m.inProgress = false) :
    DetectorFits s m := ⟨fun _ => hd, fun _ => hd, by rw [hprog, hd]; rfl⟩

theorem DetectorFits.calm {s : State} {m : MotionState} (h : DetectorFits s m) (hd : m.det ≠ .event) :
    m.inProgress = false := h.2.2.trans (beq_eq_false_iff_ne.mpr hd)

/-! ## Bounds -/

/-- A sample of clamped counts. -/
def Clamped (p : Sample) : Prop := p.cx.natAbs ≤ 32767 ∧ p.cy.natAbs ≤ 32767 ∧ p.cz.natAbs ≤ 32767

theorem clamped_sampleOf (x y z : RawCount) : Clamped (sampleOf x y z) :=
  ⟨clamp16_natAbs _, clamp16_natAbs _, clamp16_natAbs _⟩

theorem nextBaseline_bounds {c b : Int} (hc : c.natAbs ≤ 32767) (hb : -8388352 ≤ b ∧ b ≤ 8388352) :
    -8388352 ≤ nextBaseline c b ∧ nextBaseline c b ≤ 8388352 := by
  have := nextBaseline_between c b
  omega

theorem average_bounds (k : Nat) {u : Nat} {v : Int} (hu : u ≤ 49150) (hv : 0 ≤ v ∧ v ≤ 786400) :
    0 ≤ average k u v ∧ average k u v ≤ 786400 := by
  have := average_between k u v
  omega

theorem scaled_bounds {u : Nat} (hu : u ≤ 49150) : 0 ≤ 16 * (u : Int) ∧ 16 * (u : Int) ≤ 786400 := by omega

theorem InBounds.updateBaselines {p : Sample} {m : MotionState} (hm : InBounds m) (hp : Clamped p) :
    InBounds (updateBaselines p m) := by
  obtain ⟨hx, hy, hz, hs, hl⟩ := hm
  obtain ⟨px, py, pz⟩ := hp
  exact ⟨nextBaseline_bounds px hx, nextBaseline_bounds py hy, nextBaseline_bounds pz hz, hs, hl⟩

theorem InBounds.seedBaselines {p : Sample} {m : MotionState} (hm : InBounds m) (hp : Clamped p) :
    InBounds (seedBaselines p m) := by
  obtain ⟨-, -, -, hs, hl⟩ := hm
  obtain ⟨px, py, pz⟩ := hp
  refine ⟨?_, ?_, ?_, hs, hl⟩
  all_goals simp only [Sys2Proof.Machine.seedBaselines]; omega

/-- The averages taken afresh within their bounds. -/
theorem InBounds.averages {m : MotionState} (hm : InBounds m) {sta lta : Int} (hs : 0 ≤ sta ∧ sta ≤ 786400)
    (hl : 0 ≤ lta ∧ lta ≤ 786400) : InBounds { m with sta := sta, lta := lta } :=
  ⟨hm.1, hm.2.1, hm.2.2.1, hs, hl⟩

/-! ## Samples by detector state -/

/-- An own event is opened from the state in which its figures are set. -/
theorem openEvent_moves (h u : Nat) (sta : Int) (p : Sample) (s : State) : ∃ m, Moves false false (s.setMp m) false
    (openEvent h u sta p s) ∧ m.det = .event ∧ m.inProgress = true ∧ m.baseX = (updateBaselines p s.mp).baseX ∧
      m.baseY = (updateBaselines p s.mp).baseY ∧ m.baseZ = (updateBaselines p s.mp).baseZ ∧ m.sta = sta ∧
      m.lta = s.mp.lta :=
  ⟨_, Moves.refl.issues _ _ _, rfl, rfl, rfl, rfl, rfl, rfl, rfl⟩

/-- The MP behind step 8 of a sample in EVENT (R15, R17, R21). -/
def eventMotion (p : Sample) (s : State) : MotionState :=
  let sta := average (cfg s).ks (sampleU p s.mp) s.mp.sta
  addFigures (cfg s) s.rcp.range16 (sampleH p s.mp) (sampleU p s.mp) { updateBaselines p s.mp with
    sta := sta
    endHold := if quietTest (cfg s).endRatio (cfg s).lmin sta s.mp.lta then s.mp.endHold + 1 else 0
    lta := if decide ((cfg s).emax * 10000 ≤ s.nodeTime - s.mp.onsetTime) then sta else s.mp.lta }

theorem eventMotion_lta (p : Sample) (s : State) : (eventMotion p s).lta =
    if (cfg s).emax * 10000 ≤ s.nodeTime - s.mp.onsetTime then average (cfg s).ks (sampleU p s.mp) s.mp.sta
    else s.mp.lta := by
  simp only [eventMotion, addFigures, decide_eq_true_eq]

/-- A sample in EVENT ends the event: the Dth quiet sample in a row, or the length run out (R15, R21). -/
def eventEnds (p : Sample) (s : State) : Bool :=
  decide ((cfg s).endHold ≤ (eventMotion p s).endHold) ||
    decide ((cfg s).emax * 10000 ≤ s.nodeTime - s.mp.onsetTime)

/-- A sample in EVENT ends the event or goes on in it, from the state with step 8 taken (R21, R22). -/
theorem eventSample_eq (p : Sample) (s : State) : eventSample p s =
    let raised := decide (s.mp.grade < (eventMotion p s).grade)
    if eventEnds p s then endEvent .quiet raised (s.setMp (eventMotion p s))
    else reportWithin raised (s.setMp (eventMotion p s)) := rfl

/-- The verdict is taken from the state in which the outcome is set. -/
theorem takeVerdict_moves (s : State) : ∃ m, Moves false false (s.setMp m) false (takeVerdict s) ∧ m.det = s.mp.det ∧
    m.inProgress = s.mp.inProgress ∧ MotionStands s.mp m :=
  ⟨_, (Moves.refl.follows .selftestFail _ (by decide) (fun _ => by decide) fun _ => by decide).followsExclusion _,
    rfl, rfl, rfl, rfl, rfl, rfl, rfl, rfl, rfl⟩

section

variable {s : State} {p : Sample}

theorem inBounds_idleSample (hs : InBounds s.mp) (hp : Clamped p) : InBounds (idleSample p s).mp :=
  hs.updateBaselines hp

theorem inBounds_warmupSample (hs : InBounds s.mp) (hp : Clamped p) : InBounds (warmupSample p s).mp := by
  have start (m : MotionState) (hm : InBounds m) : InBounds { updateBaselines p m with
      sta := 16 * (sampleU p m : Int), lta := 16 * (sampleU p m : Int) } :=
    (hm.updateBaselines hp).averages (scaled_bounds (sampleU_le p m)) (scaled_bounds (sampleU_le p m))
  have goOn : InBounds { updateBaselines p s.mp with
      sta := average (cfg s).ks (sampleU p s.mp) s.mp.sta, lta := average (cfg s).kl (sampleU p s.mp) s.mp.lta } :=
    (hs.updateBaselines hp).averages (average_bounds _ (sampleU_le p s.mp) hs.2.2.2.1)
      (average_bounds _ (sampleU_le p s.mp) hs.2.2.2.2)
  unfold warmupSample; dsimp only
  cases (s.mp.warmupCount == 0) with
  | true => exact start _ (hs.seedBaselines hp)
  | false => exact goOn

theorem inBounds_quietSample (hs : InBounds s.mp) (hp : Clamped p) : InBounds (quietSample p s).mp := by
  have hsta := average_bounds (cfg s).ks (sampleU_le p s.mp) hs.2.2.2.1
  have hlta := average_bounds (cfg s).kl (sampleU_le p s.mp) hs.2.2.2.2
  have updated := hs.updateBaselines hp
  unfold quietSample; dsimp only; split
  · obtain ⟨m, hmoves, -, -, hx, hy, hz, hst, hlt⟩ := openEvent_moves (sampleH p s.mp) (sampleU p s.mp)
      (average (cfg s).ks (sampleU p s.mp) s.mp.sta) p s
    refine hmoves.keeps_bounds ?_
    change InBounds m
    unfold InBounds
    rw [hx, hy, hz, hst, hlt]
    exact ⟨updated.1, updated.2.1, updated.2.2.1, hsta, hs.2.2.2.2⟩
  · exact updated.averages hsta hlta

theorem inBounds_eventSample (hs : InBounds s.mp) (hp : Clamped p) : InBounds (eventSample p s).mp := by
  have hsta := average_bounds (cfg s).ks (sampleU_le p s.mp) hs.2.2.2.1
  have hlta : 0 ≤ (eventMotion p s).lta ∧ (eventMotion p s).lta ≤ 786400 := by
    rw [eventMotion_lta]
    split
    · exact hsta
    · exact hs.2.2.2.2
  have figures : InBounds (eventMotion p s) := (hs.updateBaselines hp).averages hsta hlta
  rw [eventSample_eq]; dsimp only; split
  · refine (Moves.refl.issues (motion := false) (line := false) _ _ _).keeps_bounds ?_
    exact figures
  · refine (Moves.refl.reportsWithin (motion := false) (line := false) _).keeps_bounds ?_
    exact figures

theorem inBounds_endSettle {u : Nat} (hs : InBounds s.mp) (hu : u ≤ 49150) : InBounds (endSettle u s).mp := by
  have quiet : InBounds { s.mp with det := .quiet, sta := 16 * (u : Int), lta := 16 * (u : Int) } :=
    ⟨hs.1, hs.2.1, hs.2.2.1, scaled_bounds hu, scaled_bounds hu⟩
  unfold endSettle; dsimp only
  split
  · exact quiet
  · exact hs
  · exact hs
  · exact quiet
  · exact hs
  · exact hs

theorem inBounds_maskedSample (hs : InBounds s.mp) (hp : Clamped p) : InBounds (maskedSample p s).mp := by
  unfold maskedSample; split
  · unfold measureSample; dsimp only; split
    · obtain ⟨m, hmoves, -, -, hstands⟩ := takeVerdict_moves (s.setMp { s.mp with
        testCount := s.mp.testCount + 1
        testSum := if 20 < s.mp.testCount + 1 then s.mp.testSum + sampleAz p s.mp else s.mp.testSum })
      exact hmoves.keeps_bounds (hstands.inBounds hs)
    · exact hs
  · have settled : InBounds { updateBaselines p s.mp with settleCount := s.mp.settleCount + 1 } := hs.updateBaselines hp
    unfold settleSample; dsimp only; split
    · exact inBounds_endSettle (s := s.setMp { updateBaselines p s.mp with settleCount := s.mp.settleCount + 1 })
        settled (sampleU_le p s.mp)
    · exact settled

theorem inBounds_pipeline (hs : InBounds s.mp) (hp : Clamped p) : InBounds (pipeline p s).mp := by
  unfold pipeline; split
  · exact inBounds_idleSample hs hp
  · exact inBounds_warmupSample hs hp
  · exact inBounds_quietSample hs hp
  · exact inBounds_eventSample hs hp
  · exact inBounds_maskedSample hs hp

/-- Recovery changes the count and the detector alone. -/
theorem inBounds_countRecovery (hs : InBounds s.mp) : InBounds (countRecovery s).mp := by
  unfold countRecovery; repeat' split
  · have cleared : InBounds (followExclusion (excluded s)
        (clearFault .sensorLost (s.setMp { s.mp with recovery := 0 }))).mp := by
      rw [(viewKept_fields (viewKept_followExclusion _ _)).2.1, clearFault_eq]
      exact hs
    unfold afterRecovery; split
    · exact cleared
    · exact cleared
  · exact hs
  · exact hs

theorem inBounds_processSample (x y z : RawCount) (hs : InBounds s.mp) : InBounds (processSample x y z s).mp :=
  inBounds_countRecovery (inBounds_pipeline (s := s.setMp _) hs (clamped_sampleOf x y z))

end

end Sys2Proof.Machine

/-! The detector through samples, the loss of the sensor, the cold start and the reset (O58). -/

namespace Sys2Proof.Machine

section

variable {s : State} {p : Sample}

theorem fits_setMp {m : MotionState} (h : DetectorFits s m) : DetectorFits (s.setMp m) (s.setMp m).mp := h.of rfl rfl

theorem detectorFits_warmupSample (hs : DetectorFits s s.mp) (hd : s.mp.det = .warmup) :
    DetectorFits (warmupSample p s) (warmupSample p s).mp := by
  obtain ⟨hl, hp⟩ := hs.awake (by rw [hd]; decide)
  have hprog := hs.calm (by rw [hd]; decide)
  refine fits_setMp (detectorFits_awake hl hp ?_)
  dsimp only
  have hseed : (updateBaselines p (if (s.mp.warmupCount == 0) = true then seedBaselines p s.mp else s.mp)).inProgress =
      false := by
    split <;> exact hprog
  rw [hseed]
  split <;> rfl

theorem detectorFits_quietSample (hs : DetectorFits s s.mp) (hd : s.mp.det = .quiet) :
    DetectorFits (quietSample p s) (quietSample p s).mp := by
  obtain ⟨hl, hp⟩ := hs.awake (by rw [hd]; decide)
  unfold quietSample; dsimp only; split
  · obtain ⟨m, hmoves, hdet, hprog, -⟩ := openEvent_moves (sampleH p s.mp) (sampleU p s.mp)
      (average (cfg s).ks (sampleU p s.mp) s.mp.sta) p s
    exact hmoves.keeps_detector (fits_setMp (detectorFits_awake hl hp (by rw [hdet, hprog]; rfl)))
  · exact fits_setMp (hs.same rfl rfl)

theorem detectorFits_eventSample (hs : DetectorFits s s.mp) (hd : s.mp.det = .event) :
    DetectorFits (eventSample p s) (eventSample p s).mp := by
  obtain ⟨hl, hp⟩ := hs.awake (by rw [hd]; decide)
  rw [eventSample_eq]; dsimp only; split
  · refine (Moves.refl.issues (motion := false) (line := false) _ _ _).keeps_detector ?_
    exact fits_setMp (s := s.setMp (eventMotion p s)) (detectorFits_awake hl hp rfl)
  · refine (Moves.refl.reportsWithin (motion := false) (line := false) _).keeps_detector ?_
    exact fits_setMp (hs.same rfl rfl)

/-- Behind the 400th settle sample no event is in progress, as before it (R27). -/
theorem endSettle_fits (u : Nat) (hprog : s.mp.inProgress = false) (hd : s.mp.det ≠ .event) :
    (endSettle u s).mp.inProgress = ((endSettle u s).mp.det == .event) := by
  unfold endSettle; dsimp only
  split
  case h_6 => exact hprog.trans (beq_eq_false_iff_ne.mpr hd).symm
  all_goals exact hprog

theorem detectorFits_maskedSample (hs : DetectorFits s s.mp) (hd : s.mp.det = .masked) :
    DetectorFits (maskedSample p s) (maskedSample p s).mp := by
  obtain ⟨hl, hp⟩ := hs.awake (by rw [hd]; decide)
  have hprog := hs.calm (by rw [hd]; decide)
  unfold maskedSample; split
  · unfold measureSample; dsimp only; split
    · obtain ⟨m, hmoves, hdet, hin, -⟩ := takeVerdict_moves (s.setMp { s.mp with
        testCount := s.mp.testCount + 1
        testSum := if 20 < s.mp.testCount + 1 then s.mp.testSum + sampleAz p s.mp else s.mp.testSum })
      exact hmoves.keeps_detector (fits_setMp (detectorFits_awake hl hp (by rw [hdet, hin]; exact hs.2.2)))
    · exact fits_setMp (hs.same rfl rfl)
  · unfold settleSample; dsimp only; split
    · exact (detectorFits_awake hl hp (endSettle_fits (s := s.setMp { updateBaselines p s.mp with
        settleCount := s.mp.settleCount + 1 }) (sampleU p s.mp) hprog (hd ▸ nofun : s.mp.det ≠ .event))).of rfl rfl
    · exact fits_setMp (hs.same rfl rfl)

theorem detectorFits_pipeline (hs : DetectorFits s s.mp) : DetectorFits (pipeline p s) (pipeline p s).mp := by
  unfold pipeline; split
  case h_1 => exact fits_setMp (hs.same rfl rfl)
  case h_2 hd => exact detectorFits_warmupSample hs hd
  case h_3 hd => exact detectorFits_quietSample hs hd
  case h_4 hd => exact detectorFits_eventSample hs hd
  case h_5 hd => exact detectorFits_maskedSample hs hd

theorem clearFault_mp (f : FaultId) (s : State) : (clearFault f s).mp = s.mp := by rw [clearFault_eq]; rfl

/-- The detector that watches again fits once SENSOR-LOST is clear (R7). -/
theorem detectorFits_afterRecovery (hl : active .sensorLost s = false) (hd : s.mp.det = .idle)
    (hprog : s.mp.inProgress = false) : DetectorFits (afterRecovery s) (afterRecovery s).mp := by
  unfold afterRecovery; split
  case isTrue hw =>
    simp only [Bool.and_eq_true, working] at hw
    exact fits_setMp (detectorFits_awake hl (phase_of_running hw.1.1) hprog)
  case isFalse => exact detectorFits_idle hd hprog

/-- The detector watches again only behind SENSOR-LOST (R7). -/
theorem detectorFits_countRecovery (hs : DetectorFits s s.mp) :
    DetectorFits (countRecovery s) (countRecovery s).mp := by
  unfold countRecovery; repeat' split
  case isTrue.isTrue ha _ =>
    have hdet : s.mp.det = .idle := hs.1 ha
    have hprog := hs.calm (by rw [hdet]; decide)
    have kept := viewKept_followExclusion (excluded s) (clearFault .sensorLost (s.setMp { s.mp with recovery := 0 }))
    have hmp := (viewKept_fields kept).2.1.trans (clearFault_mp _ _)
    have hlost := viewKept_active kept .sensorLost (by decide) (by decide)
    rw [active_clearFault_same] at hlost
    exact detectorFits_afterRecovery hlost ((congrArg (fun m => m.det) hmp).trans hdet)
      ((congrArg (fun m => m.inProgress) hmp).trans hprog)
  case isTrue.isFalse => exact fits_setMp (hs.same rfl rfl)
  case isFalse => exact hs

theorem detectorFits_processSample (x y z : RawCount) (hs : DetectorFits s s.mp) :
    DetectorFits (processSample x y z s) (processSample x y z s).mp :=
  detectorFits_countRecovery (detectorFits_pipeline (fits_setMp (hs.same rfl rfl)))

/-! ## The loss of the sensor -/

theorem abortTest_stands (s : State) : MotionStands s.mp (abortTest s).mp := by
  unfold abortTest; split
  all_goals exact ⟨rfl, rfl, rfl, rfl, rfl, rfl, rfl⟩

/-- The own event in progress ends (R6). -/
def eventEnded (s : State) : State := if s.mp.det = .event then endEvent .event false s else s

/-- The state in which SENSOR-LOST is raised: an own event has ended, a self-test too (R6). -/
def beforeLoss (s : State) : State :=
  if (eventEnded s).mp.det = .masked then endTestByLoss (eventEnded s) else eventEnded s

theorem loseSensor_eq (s : State) : loseSensor s = followExclusion (excluded (beforeLoss s))
    (raiseFault .sensorLost ((beforeLoss s).setMp { (beforeLoss s).mp with recovery := 0, det := .idle })) := rfl

theorem beforeLoss_calm (hs : DetectorFits s s.mp) : (beforeLoss s).mp.inProgress = false := by
  have ended : (eventEnded s).mp.inProgress = false := by
    unfold eventEnded; split
    · exact congrArg MotionState.inProgress (issueReport_mp _ _ _ _)
    case isFalse h => exact hs.calm h
  unfold beforeLoss; split
  · exact (abortTest_stands _).2.1.trans ended
  · exact ended

theorem beforeLoss_inBounds (hs : InBounds s.mp) : InBounds (beforeLoss s).mp := by
  have ended : InBounds (eventEnded s).mp := by
    unfold eventEnded; split
    · exact (congrArg InBounds (issueReport_mp .ended false false _)).mpr hs
    · exact hs
  unfold beforeLoss; split
  · exact (abortTest_stands _).inBounds ended
  · exact ended

theorem loseSensor_mp (s : State) : (loseSensor s).mp = { (beforeLoss s).mp with recovery := 0, det := .idle } := by
  rw [loseSensor_eq, (viewKept_fields (viewKept_followExclusion _ _)).2.1, raiseFault_eq]
  rfl

theorem inBounds_countMissing (hs : InBounds s.mp) : InBounds (countMissing s).mp := by
  unfold countMissing; dsimp only; split
  · rw [loseSensor_mp]
    exact beforeLoss_inBounds (s := s.setMp _) hs
  · exact hs

theorem detectorFits_countMissing (hs : DetectorFits s s.mp) : DetectorFits (countMissing s) (countMissing s).mp := by
  unfold countMissing; dsimp only; split
  · refine detectorFits_idle ?_ ?_
    · rw [loseSensor_mp]
    · rw [loseSensor_mp]
      exact beforeLoss_calm (fits_setMp (hs.same rfl rfl))
  · exact fits_setMp (hs.same rfl rfl)

end

end Sys2Proof.Machine

/-! Every step keeps the promises of the MP (O58). -/

namespace Sys2Proof.Machine

/-- The MP from the assertion of the reset input on (R2, R29). -/
theorem beginWarmReset_mp (s : State) : (beginWarmReset s).mp = { s.mp with
    phase := if s.mp.inProgress then .ended else s.mp.phase, inProgress := false, det := .idle
    deflection := false, sensorRange16 := s.rcp.range16, warmupCount := 0, endHold := 0, testCount := 0
    testSum := 0, settleCount := 0, missingCount := 0, missingDue := none, recovery := 0 } := by
  have hmp : (takeWaitingClose s).mp = s.mp := by rw [takeWaitingClose_eq]; rfl
  have hstrap : (takeWaitingClose s).rcp.range16 = s.rcp.range16 :=
    (congrArg (fun x => x.rcp.range16) (zoneKept_takeWaitingClose s) :)
  unfold beginWarmReset resetHealth; dsimp only
  rw [takeHealth_eq, resetSequencer_eq]
  change (resetMotion ((takeWaitingClose s).setPhase .warmReset)).mp = _
  unfold resetMotion; dsimp only
  rw [← hmp, ← hstrap]
  split <;> rfl

theorem inBounds_beginWarmReset {s : State} (hs : InBounds s.mp) : InBounds (beginWarmReset s).mp := by
  rw [beginWarmReset_mp]; exact hs

theorem detectorFits_beginWarmReset (s : State) : DetectorFits (beginWarmReset s) (beginWarmReset s).mp :=
  detectorFits_idle (by rw [beginWarmReset_mp]) (by rw [beginWarmReset_mp])

/-- The record and the first state of the sequencer leave the MP and SENSOR-LOST (R188, R194). -/
theorem takeRecord_mp (r : Option TripRecord) (s : State) : (takeRecord r s).mp = s.mp ∧
    active .sensorLost (takeRecord r s) = active .sensorLost s := by
  unfold takeRecord; dsimp only; split
  · exact ⟨rfl, rfl⟩
  · exact ⟨by rw [raiseFault_eq]; rfl, active_raiseFault_other (by decide) _⟩

theorem takeStartState_mp (s : State) : (takeStartState s).mp = s.mp ∧
    active .sensorLost (takeStartState s) = active .sensorLost s := by
  unfold takeStartState; dsimp only; repeat' split
  all_goals exact ⟨rfl, rfl⟩

/-- The detector as it starts fits, and its averages stand (R18, R29). -/
theorem startDetector_fits {s : State} (hp : s.phase = .running) (hprog : s.mp.inProgress = false) :
    DetectorFits (startDetector s) (startDetector s).mp := by
  unfold startDetector; split
  case isTrue h =>
    simp only [Bool.and_eq_true, Bool.not_eq_true'] at h
    exact fits_setMp (detectorFits_awake h.1.2 hp hprog)
  case isFalse => exact detectorFits_idle rfl hprog

theorem startDetector_inBounds {s : State} (hs : InBounds s.mp) : InBounds (startDetector s).mp := by
  unfold startDetector; split
  · exact hs
  · exact hs

/-- The phase is not what the detector starts by. -/
theorem startDetector_setPhase (p : Phase) (s : State) :
    (startDetector s).setPhase p = startDetector (s.setPhase p) :=
  apply_ite (fun x : State => x.setPhase p) _ _ _

/-- The state in which the detector starts at the end of the cold start. -/
def beforeDetector (r : Option TripRecord) (s : State) : State :=
  takeStartState (if configured (takeRecord r s) then classify (takeRecord r s) else takeRecord r s)

theorem beforeDetector_mp (r : Option TripRecord) (s : State) : (beforeDetector r s).mp = s.mp ∧
    active .sensorLost (beforeDetector r s) = active .sensorLost s := by
  obtain ⟨hmp, ha⟩ := takeRecord_mp r s
  obtain ⟨hmp', ha'⟩ := takeStartState_mp (if configured (takeRecord r s) then classify (takeRecord r s)
    else takeRecord r s)
  unfold beforeDetector
  rw [hmp', ha', ← hmp, ← ha]
  split <;> exact ⟨rfl, rfl⟩

theorem startedUp_moves (r : Option TripRecord) (s : State) : Moves false false
    (startDetector ((beforeDetector r s).setPhase .running)) false (startedUp r s) := by
  rw [← startDetector_setPhase]
  exact Moves.endsColdStart _

theorem inBounds_startedUp (r : Option TripRecord) {s : State} (hs : InBounds s.mp) : InBounds (startedUp r s).mp :=
  (startedUp_moves r s).keeps_bounds (startDetector_inBounds (by
    change InBounds (beforeDetector r s).mp
    rw [(beforeDetector_mp r s).1]; exact hs))

theorem detectorFits_startedUp (r : Option TripRecord) {s : State} (hprog : s.mp.inProgress = false) :
    DetectorFits (startedUp r s) (startedUp r s).mp :=
  (startedUp_moves r s).keeps_detector (startDetector_fits rfl (by
    change (beforeDetector r s).mp.inProgress = false
    rw [(beforeDetector_mp r s).1]; exact hprog))

theorem endWarmReset_moves (s : State) :
    Moves false false (startDetector (s.setPhase .running)) false (endWarmReset s) := Moves.refl.endsReset

theorem takeImage_mp (c : Option NodeConfig) (digest : Nat) (s : State) : (takeImage c digest s).mp = s.mp ∧
    (takeImage c digest s).phase = .readRecord := by
  unfold takeImage; dsimp only; split
  · exact ⟨rfl, rfl⟩
  · rw [raiseFault_eq]; exact ⟨rfl, rfl⟩

theorem coldReset_mp (id : StationId) (range16 : Bool) (identity : Byte) (s : State) :
    InBounds (coldReset id range16 identity s).mp ∧
      DetectorFits (coldReset id range16 identity s) (coldReset id range16 identity s).mp := by
  have hmp : (coldReset id range16 identity s).mp = { MotionState.reset with
      sensorRange16 := range16, sensorRate200 := true, sensorDrdy := true } := by
    unfold coldReset; dsimp only; split
    · rfl
    · rw [raiseFault_eq]; rfl
  have blank : InBounds MotionState.reset := by unfold InBounds; decide
  refine ⟨?_, detectorFits_idle ?_ ?_⟩ <;> rw [hmp]
  · exact blank
  · rfl
  · rfl

namespace Effect

variable {s u : State}

theorem keeps_bounds (h : Effect s u) (hs : InBounds s.mp) : InBounds u.mp := by
  cases h with
  | nothing => exact hs
  | falls hf => exact (hf.moves s).keeps_bounds hs
  | pins p => exact hs
  | sample x y z _ => exact inBounds_processSample x y z hs
  | missing _ => exact inBounds_countMissing hs
  | follows _ _ _ _ _ _ => exact hs
  | sends _ _ => exact hs
  | loses _ => exact (Moves.refl.failsAttempt.movesLine (motion := false) _).keeps_bounds hs
  | bitError _ => exact ((Moves.refl.failsAttempt.movesLine _).scoresUp (motion := false) _).keeps_bounds hs
  | completes _ => exact (Moves.refl.completesFrame (motion := false)).keeps_bounds hs
  | receiveError kind _ _ =>
    exact (((Moves.refl.movesLine _).scoresUp kind).notesReceiveError (motion := false)).keeps_bounds hs
  | arrives i hrun _ hd =>
    have stamped : Moves false true s false (s.setSlc { s.slc with line := .counting, tEnd := s.nodeTime }) :=
      Moves.refl.movesSlc (by exact List.Sublist.refl _)
    exact (stamped.takesFrame i hd hrun (Nat.le_refl _)).keeps_bounds hs
  | image c digest _ => rw [(takeImage_mp c digest s).1]; exact hs
  | retries _ => exact hs
  | record r _ =>
    rw [finishColdStart_eq]
    unfold resetIfAsserted; split
    · exact inBounds_beginWarmReset (inBounds_startedUp r hs)
    · exact inBounds_startedUp r hs
  | resets _ => exact inBounds_beginWarmReset (s := setResetPin true s) hs
  | endOfReset _ =>
    exact (endWarmReset_moves _).keeps_bounds (startDetector_inBounds (s := (setResetPin false s).setPhase .running) hs)

theorem keeps_detector (h : Effect s u) (hs : DetectorFits s s.mp) : DetectorFits u u.mp := by
  have calm (hp : s.phase ≠ .running) : s.mp.det = .idle ∧ s.mp.inProgress = false :=
    ⟨hs.2.1 hp, hs.calm (by rw [hs.2.1 hp]; decide)⟩
  cases h with
  | nothing => exact hs
  | falls hf => exact (hf.moves s).keeps_detector hs
  | pins p => exact hs
  | sample x y z _ => exact detectorFits_processSample x y z hs
  | missing _ => exact detectorFits_countMissing hs
  | follows _ _ _ _ _ _ => exact hs
  | sends _ _ => exact hs
  | loses _ => exact (Moves.refl.failsAttempt.movesLine (motion := false) _).keeps_detector hs
  | bitError _ => exact ((Moves.refl.failsAttempt.movesLine _).scoresUp (motion := false) _).keeps_detector hs
  | completes _ => exact (Moves.refl.completesFrame (motion := false)).keeps_detector hs
  | receiveError kind _ _ =>
    exact (((Moves.refl.movesLine _).scoresUp kind).notesReceiveError (motion := false)).keeps_detector hs
  | arrives i hrun _ hd =>
    have stamped : Moves false true s false (s.setSlc { s.slc with line := .counting, tEnd := s.nodeTime }) :=
      Moves.refl.movesSlc (by exact List.Sublist.refl _)
    exact (stamped.takesFrame i hd hrun (Nat.le_refl _)).keeps_detector hs
  | image c digest hp =>
    obtain ⟨hdet, hprog⟩ := calm (by rw [hp]; decide)
    rw [(takeImage_mp c digest s).1]
    exact detectorFits_idle hdet hprog
  | retries _ => exact hs
  | record r hp =>
    rw [finishColdStart_eq]
    unfold resetIfAsserted; split
    · exact detectorFits_beginWarmReset _
    · exact detectorFits_startedUp r (calm (by rw [hp]; decide)).2
  | resets _ => exact detectorFits_beginWarmReset _
  | endOfReset hp =>
    exact (endWarmReset_moves _).keeps_detector (startDetector_fits rfl (calm (by rw [hp]; decide)).2)

end Effect

/-- Settles O58: elementary changes leave the MP to the samples, the sensor and the reset, which keep both promises. -/
theorem motionPromisesAreKept : Obligations.MotionPromisesAreKept := by
  intro s u h
  rw [averagesOk_iff, averagesOk_iff, detectorOk_iff, detectorOk_iff]
  refine ⟨step_keeps (P := fun v => InBounds v.mp) ?_ ?_ ?_ ?_ (fun _ _ => Effect.keeps_bounds) h,
    step_keeps (P := fun v => DetectorFits v v.mp) ?_ ?_ ?_ ?_ (fun _ _ => Effect.keeps_detector) h⟩
  · exact fun _ _ h => h
  · exact fun _ h => h
  · intro t v hv
    unfold advance; split
    · exact hv
    · exact (leaveNodeTime_moves t v).keeps_bounds hv
  · exact fun id range16 identity v _ => (coldReset_mp id range16 identity v).1
  · exact fun _ _ h => h
  · exact fun _ h => h
  · intro t v hv
    unfold advance; split
    · exact hv
    · exact (leaveNodeTime_moves t v).keeps_detector hv
  · exact fun id range16 identity v _ => (coldReset_mp id range16 identity v).2

end Sys2Proof.Machine

/-! A zone that rests: RUNNING or UNCONFIGURED, on a node that takes no trip because it is in LISTEN mode or not running.
What the hand-offs to such a zone come to, and what an event leaves of it. -/

namespace Sys2Proof.Machine

/-- The sequencer is RUNNING or UNCONFIGURED. -/
def ZoneRests (s : State) : Prop := s.zs.st = .running ∨ s.zs.st = .unconfigured

section

variable {s : State} (h : ZoneRests s)
include h

theorem holdRuns_of_rests : holdRuns s = false := by
  unfold holdRuns
  rcases h with h | h <;> rw [h] <;> rfl

theorem recomputeHold_of_rests : recomputeHold s = s := by
  unfold recomputeHold
  rw [holdRuns_of_rests h]; rfl

theorem activityEffect_of_rests (aftershock : Bool) : activityEffect aftershock s = s := by
  unfold activityEffect
  rcases h with h | h <;> rw [h]

theorem lineChange_of_rests (before : Bool) : lineChange before s = s := by
  unfold lineChange
  rcases h with h | h <;> simp [h]

theorem leftPending_of_rests (c : Channel) (v : Bool) : leftPending c v s = s := by
  unfold leftPending
  rcases h with h | h <;> rw [h]

theorem leavePause_of_rests : leavePause s = s := by
  unfold leavePause
  rcases h with h | h <;> simp [h]

theorem precheckReport_of_rests (before : Bool) : precheckReport before s = s := by
  unfold precheckReport
  rcases h with h | h <;> simp only [h] <;> split <;> rfl

theorem zsHold_of_rests : zsHold s = s.setZs { s.zs with consoleHold := true } := by
  unfold zsHold
  rcases h with h | h <;> simp [h]

end

/-- Nothing is in the queue but the frame placed and frames that were there. -/
theorem mem_of_mem_place {e x : TxEntry} {s : State} (hx : x ∈ (place e s).slc.queue) : x = e ∨ x ∈ s.slc.queue := by
  unfold place at hx
  split at hx
  · obtain ⟨y, hy, rfl⟩ := List.mem_map.mp hx
    split
    · exact .inl rfl
    · exact .inr hy
  · split at hx
    · exact (mem_insertEntry x e _).mp hx
    · split at hx
      · exact ((mem_insertEntry x e _).mp hx).imp_right fun h => ((mem_dropClass x 5 _).mp h).1
      · exact .inr hx

/-- The command of a channel, none when it is DISABLED. -/
def command (s : State) (c : Channel) : Option ChanCmd := (chan s c).map (fun r => r.cmd)

/-- `u` follows from `s` with the zone at rest: what an event does to a node that takes no trip. -/
structure Rests (s u : State) : Prop where
  zone : ZoneRests u
  calm : u.hm.mode = .listen ∨ u.phase ≠ .running
  st : u.zs.st = s.zs.st
  mode : u.hm.mode = s.hm.mode
  phase : u.phase = s.phase
  closes : u.rcp.closeWaits = s.rcp.closeWaits
  commands : ∀ c, command u c = command s c
  queue : s.hm.mode = .listen → ∀ e ∈ u.slc.queue, e = .status ∨ e ∈ s.slc.queue
  driving : u.vtu.driving = true → s.vtu.driving = true
  own : s.icu.own = .none ∨ s.icu.own = .inForce → u.icu.own = .none ∨ u.icu.own = .inForce

namespace Rests

variable {s u v : State}

theorem refl (hz : ZoneRests s) (hc : s.hm.mode = .listen ∨ s.phase ≠ .running) : Rests s s :=
  ⟨hz, hc, rfl, rfl, rfl, rfl, fun _ => rfl, fun _ _ h => .inr h, id, id⟩

/-- What an operation leaves of a resting zone, each part as it was unless another proof is given. -/
theorem of (h : Rests s u) (hst : v.zs.st = u.zs.st := by rfl) (hm : v.hm.mode = u.hm.mode := by rfl)
    (hp : v.phase = u.phase := by rfl) (hw : v.rcp.closeWaits = u.rcp.closeWaits := by rfl)
    (hc : ∀ c, command v c = command u c := by intro c; rfl)
    (hq : ∀ e ∈ v.slc.queue, e = .status ∨ e ∈ u.slc.queue := by exact fun _ h => .inr h)
    (hd : v.vtu.driving = true → u.vtu.driving = true := by exact id)
    (ho : u.icu.own = .none ∨ u.icu.own = .inForce → v.icu.own = .none ∨ v.icu.own = .inForce := by exact id) :
    Rests s v where
  zone := by unfold ZoneRests; rw [hst]; exact h.zone
  calm := by rw [hm, hp]; exact h.calm
  st := hst.trans h.st
  mode := hm.trans h.mode
  phase := hp.trans h.phase
  closes := hw.trans h.closes
  commands c := (hc c).trans (h.commands c)
  queue hl e he := (hq e he).elim .inl (h.queue hl e)
  driving := h.driving ∘ hd
  own := ho ∘ h.own

theorem either {p : Prop} [Decidable p] (hu : Rests s u) (hv : Rests s v) : Rests s (if p then u else v) := by
  split
  · exact hu
  · exact hv

theorem eitherOrder {f g : State → State} (first : Bool) (h : Rests s u) (hf : ∀ {v}, Rests s v → Rests s (f v))
    (hg : ∀ {v}, Rests s v → Rests s (g v)) : Rests s (inEitherOrder first f g u) := by
  unfold inEitherOrder; split
  · exact hg (hf h)
  · exact hf (hg h)

theorem draws (h : Rests s u) : Rests s (drawn u) := h.of

/-! ## Faults, record and queue -/

theorem takesHealth (h : Rests s u) : Rests s (takeHealth u) := by rw [takeHealth_eq]; exact h.of

theorem raises (h : Rests s u) (f : FaultId) : Rests s (raiseFault f u) :=
  (h.of : Rests s (u.setHm { u.hm with
    active := putFault f true u.hm.active, sticky := putFault f true u.hm.sticky })).takesHealth

theorem clears (h : Rests s u) (f : FaultId) : Rests s (clearFault f u) :=
  (h.of : Rests s (u.setHm { u.hm with active := putFault f false u.hm.active })).takesHealth

theorem follows (h : Rests s u) (f : FaultId) (b : Bool) : Rests s (followFault f b u) := by
  unfold followFault; repeat' split
  · exact h
  · exact h.raises f
  · exact h.clears f
  · exact h

theorem startsWrite (h : Rests s u) (again : Bool) : Rests s (startWrite again u) := h.of

theorem setsRecord (h : Rests s u) (r : TripRecord) : Rests s (setRecord r u) := by
  have hw := (setRecord_rcp r u).2.1
  rw [setRecord_eq]
  exact h.of (hw := hw)

theorem raisesRecord (h : Rests s u) (g : Nat) : Rests s (rcpRaise g u) := .either (h.setsRecord _) h

theorem permitsRecord (h : Rests s u) : Rests s (rcpPermit u) := .either (h.setsRecord _) h

theorem queuesStatus (h : Rests s u) : Rests s (queueStatus u) := by
  have hq (e : TxEntry) (he : e ∈ (queueStatus u).slc.queue) : e = .status ∨ e ∈ u.slc.queue := mem_of_mem_place he
  unfold queueStatus at hq ⊢
  rw [place_eq] at hq ⊢
  exact h.of (hq := hq)

/-- A frame is placed only where the node is not in LISTEN mode. -/
theorem places (h : Rests s u) (e : TxEntry) (hm : u.hm.mode = .armed) : Rests s (place e u) := by
  have armed : s.hm.mode ≠ .listen := by rw [← h.mode, hm]; decide
  rw [place_eq]
  exact { h with queue := fun hl => absurd hl armed }

theorem dropsQueue (h : Rests s u) {l : LineCtl} (hl : l.queue.Sublist u.slc.queue) : Rests s (u.setSlc l) :=
  h.of (hq := fun _ he => .inr (hl.subset he))

theorem setsLine (h : Rests s u) {l : LineCtl} (hl : l.queue = u.slc.queue := by rfl) : Rests s (u.setSlc l) :=
  h.dropsQueue (hl ▸ List.Sublist.refl _)

/-! ## Channels -/

theorem setsChan (h : Rests s u) {c : Channel} {r r' : ChanRun} (hr : chan u c = some r) (hcmd : r'.cmd = r.cmd) :
    Rests s (setChan c (some r') u) := by
  refine h.of (hc := fun e => ?_)
  unfold command
  by_cases he : e = c
  · subst he
    rw [chan_setChan_same, hr]
    exact congrArg some hcmd
  · rw [chan_setChan_other (Ne.symm he)]

theorem followsUnconfirmed (h : Rests s u) : Rests s (followUnconfirmed u) := h.follows _ _

/-! ## The zone -/

theorem takesActivity (h : Rests s u) (t g : Nat) : Rests s (takeActivity t g u) := by
  unfold takeActivity; dsimp only; split
  · exact ((h.of : Rests s (u.setZs _)).of : Rests s (State.setZs _ _)).raisesRecord _
  · exact h.of

theorem reportsActivity (h : Rests s u) (t g : Nat) (aftershock : Bool) : Rests s (activity t g aftershock u) := by
  have taken := h.takesActivity t g
  unfold activity; dsimp only; split
  · exact h
  · rw [recomputeHold_of_rests taken.zone, ite_self, activityEffect_of_rests taken.zone]
    exact taken

theorem changesLine (h : Rests s u) (before : Bool) : Rests s (lineChange before u) := by
  rw [lineChange_of_rests h.zone]; exact h

theorem leavesPending (h : Rests s u) (c : Channel) (b : Bool) : Rests s (leftPending c b u) := by
  rw [leftPending_of_rests h.zone]; exact h

theorem leavesPause (h : Rests s u) : Rests s (leavePause u) := by rw [leavePause_of_rests h.zone]; exact h

theorem reportsPrecheck (h : Rests s u) (before : Bool) : Rests s (precheckReport before u) := by
  rw [precheckReport_of_rests h.zone]; exact h

/-! ## The vote unit -/

theorem evaluatesArming (h : Rests s u) : Rests s (armingEval u) := .either h.of h

/-- A node that is not running takes no trip, and one in LISTEN mode takes it as a would-trip (R85, R94). -/
theorem trips (h : Rests s u) (own origin : Cause) (votes grade : Nat) :
    Rests s (tripOccasion own origin votes grade u) := by
  unfold tripOccasion; split
  case isFalse => exact h
  case isTrue hw =>
    simp only [Bool.and_eq_true, working] at hw
    have hl : u.hm.mode = .listen := h.calm.resolve_right (not_not_intro (phase_of_running hw.1.1))
    rw [hl]
    exact h.of

theorem votes (h : Rests s u) : Rests s (voteTest u) := by
  unfold voteTest; dsimp only
  have counted : Rests s (u.setVtu { u.vtu with votes := (countedSet u).length }) := h.of
  exact .either (.either (counted.trips ..) counted.evaluatesArming) h

theorem votesSolo (h : Rests s u) : Rests s (soloTest u) := .either (h.trips ..) h

theorem followsExclusion (h : Rests s u) (before : Bool) : Rests s (followExclusion before u) :=
  .either h (h.of : Rests s (refreshOwnWindow u)).votes

theorem tripArrives (h : Rests s u) (p : TripPayload) : Rests s (vtuTripArrival p u) :=
  .either (h.trips ..).permitsRecord (h.trips ..)

theorem releasesWire (h : Rests s u) : Rests s (wireReleases u) := by
  have released : Rests s (u.setVtu { u.vtu with wire := .released, confirmDue := none, stuckDue := none }) := h.of
  exact (Rests.either (released.clears _) released).evaluatesArming

theorem sensesWire (h : Rests s u) : Rests s (senseWire u) := .either h.of h.of

/-! ## The Peer View -/

theorem setsPeer (h : Rests s u) (i : StationId) (e : PeerEntry) : Rests s (setPeer i e u) := h.of

theorem comparesDigests (h : Rests s u) : Rests s (digestCompare u) := h.follows _ _

theorem updatesPresence (h : Rests s u) (i : StationId) (t : Nat) : Rests s (presenceUpdate i t u) :=
  .either (h.setsPeer _ _).comparesDigests (h.setsPeer _ _)

theorem storesObservation (h : Rests s u) (i : StationId) (o : Observation) : Rests s (storeObservation i o u) := by
  unfold storeObservation; dsimp only; repeat' split
  all_goals exact h.setsPeer _ _

end Rests

end Sys2Proof.Machine

/-! The events of a node whose zone rests: samples, frames, commands, deadlines and edges. -/

namespace Sys2Proof.Machine

namespace Rests

variable {s u : State}

/-! ## The motion processor -/

theorem setsMp (h : Rests s u) (m : MotionState) : Rests s (u.setMp m) := h.of

theorem abortsTest (h : Rests s u) : Rests s (abortTest u) := .either h.of h

theorem reportsToVtu (h : Rests s u) (raised : Bool) : Rests s (reportToVtu raised u) :=
  .either h.votes.votesSolo h.votes

theorem handsReport (h : Rests s u) (ph : ReportPhase) (raised aftershock : Bool) :
    Rests s (handReport ph raised aftershock u) := by
  have stored := h.storesObservation (ownId u)
    { event := u.mp.event, phase := ph, onset := some u.mp.onsetTime, peak := u.mp.pmg, grade := u.mp.grade }
  unfold handReport; dsimp only
  generalize storeObservation _ _ u = x at stored ⊢
  have queued : Rests s (if x.hm.mode = .armed ∧ excluded x = false then
      place (.observe u.mp.event ph u.mp.onsetTime u.mp.pmg u.mp.grade) x else x) := by
    split
    case isTrue ha => exact stored.places _ ha.1
    case isFalse => exact stored
  exact queued.draws.eitherOrder _ (fun hv => hv.reportsToVtu _) fun hv => hv.reportsActivity _ _ _

theorem issues (h : Rests s u) (ph : ReportPhase) (raised aftershock : Bool) :
    Rests s (issueReport ph raised aftershock u) := (h.setsMp _).handsReport ph raised aftershock

theorem endsEvent (h : Rests s u) (next : DetState) (raised : Bool) : Rests s (endEvent next raised u) :=
  (h.setsMp _).issues _ _ _

theorem takesVerdict (h : Rests s u) : Rests s (takeVerdict u) := ((h.setsMp _).follows _ _).followsExclusion _

theorem takesEventSample (h : Rests s u) (p : Sample) : Rests s (eventSample p u) := by
  rw [eventSample_eq]
  exact .either ((h.setsMp _).endsEvent _ _) (.either ((h.setsMp _).issues _ _ _) ((h.setsMp _).reportsActivity _ _ _))

theorem takesMaskedSample (h : Rests s u) (p : Sample) : Rests s (maskedSample p u) :=
  .either (.either (h.setsMp _).takesVerdict (h.setsMp _)) (.either ((h.setsMp _).setsMp _) (h.setsMp _))

theorem takesSample (h : Rests s u) (p : Sample) : Rests s (pipeline p u) := by
  unfold pipeline; split
  · exact h.setsMp _
  · exact h.setsMp _
  · exact .either ((h.setsMp _).issues _ _ _) (h.setsMp _)
  · exact h.takesEventSample p
  · exact h.takesMaskedSample p

theorem countsRecovery (h : Rests s u) : Rests s (countRecovery u) := by
  have recovered : Rests s (followExclusion (excluded u) (clearFault .sensorLost (u.setMp { u.mp with recovery := 0 }))) :=
    ((h.setsMp _).clears _).followsExclusion _
  exact .either (.either (.either (recovered.setsMp _) recovered) (h.setsMp _)) h

theorem processesSample (h : Rests s u) (x y z : RawCount) : Rests s (processSample x y z u) :=
  ((h.setsMp _).takesSample _).countsRecovery

theorem losesSensor (h : Rests s u) : Rests s (loseSensor u) := by
  have ended : Rests s (eventEnded u) := .either (h.endsEvent _ _) h
  have before : Rests s (beforeLoss u) := .either (ended.abortsTest.setsMp _) ended
  rw [loseSensor_eq]
  exact ((before.setsMp _).raises _).followsExclusion _

theorem countsMissing (h : Rests s u) : Rests s (countMissing u) := .either (h.setsMp _).losesSensor (h.setsMp _)

/-! ## The line -/

theorem failsAttempt (h : Rests s u) : Rests s (failAttempt u) := by
  unfold failAttempt; split
  · exact h.dropsQueue (Moves.sublist_queueAfterFailure _ _)
  · exact h

theorem completesAttempt (h : Rests s u) : Rests s (completeAttempt u) := by
  unfold completeAttempt; split
  · refine h.dropsQueue ?_
    dsimp only; split
    · exact List.filter_sublist
    · exact List.Sublist.refl _
  · exact h

theorem scoresUp (h : Rests s u) (kind : ErrKind) : Rests s (scoreUp kind u) := by
  have scored : Rests s (u.setSlc { u.slc with score := min 255 (u.slc.score + 8), lastError := kind }) := h.setsLine
  exact .either ((scored.raises _).changesLine _) scored

theorem scoresDown (h : Rests s u) : Rests s (scoreDown u) := by
  have scored : Rests s (u.setSlc { u.slc with score := u.slc.score - 1 }) := h.setsLine
  exact .either ((scored.clears _).changesLine _) scored

theorem hearsLine (h : Rests s u) : Rests s (hearLine u) := by
  have heard : Rests s (u.setSlc { u.slc with lastHeard := u.nodeTime, heardDue := some (u.nodeTime + threePs u) }) :=
    h.setsLine
  exact .either ((heard.clears _).changesLine _) heard

/-- A claim that completes was QUEUED, which a resting zone's is not. -/
theorem completesClaim (h : Rests s u) (hown : s.icu.own = .none ∨ s.icu.own = .inForce) (n t : Nat) :
    Rests s (claimCompleted n t u) := by
  unfold claimCompleted; split
  case isTrue hq => rcases h.own hown with ho | ho <;> rw [ho] at hq <;> cases hq.1
  case isFalse => exact h

theorem reportsCompletion (h : Rests s u) (hown : s.icu.own = .none ∨ s.icu.own = .inForce) (a : Option Attempt) :
    Rests s (reportCompletion a u) := by
  unfold reportCompletion; repeat' split
  · exact h.completesClaim hown _ _
  all_goals exact h

theorem completesFrame (h : Rests s u) (hown : s.icu.own = .none ∨ s.icu.own = .inForce) :
    Rests s (frameCompleted u) := by
  have stamped : Rests s (u.setSlc { u.slc with line := .counting, tEnd := u.nodeTime }) := h.setsLine
  exact .either (stamped.scoresDown.completesAttempt.reportsCompletion hown _) h

theorem notesReceiveError (h : Rests s u) : Rests s (claimReceiveError u) := .either h.of h

/-! ## Frames and commands -/

theorem takesMode (h : Rests s u) (m : Mode) (hm : (modeEffect m u).2.hm.mode = .listen)
    (hl : s.hm.mode = .listen) : Rests s (modeEffect m u).2 := by
  have listens : u.hm.mode = .listen := h.mode.trans hl
  unfold modeEffect at hm ⊢
  split at hm
  case isTrue hmay =>
    rw [if_pos hmay]
    dsimp only at hm ⊢
    split at hm
    case isTrue heq => rw [if_pos heq]; exact h
    case isFalse hne =>
      cases m with
      | listen => exact absurd listens.symm hne
      | armed =>
        have armed : (changeMode .armed u).hm.mode = .armed := by
          unfold changeMode setMode queueStatus
          rw [(voteKept_fields (voteKept_voteTest _)).2.2.2.2.2.2.2.2, place_eq, takeHealth_eq]
          rfl
        rw [armed] at hm
        cases hm
  case isFalse hmay => rw [if_neg hmay]; exact h

theorem takesCommand {effect : State → CmdResult × State} (hc : Command effect) (h : Rests s u)
    (hl : s.hm.mode = .listen) (hm : (effect u).2.hm.mode = .listen) : Rests s (effect u).2 := by
  cases hc with
  | permit =>
    unfold permitEffect; split
    case isTrue hp => rcases h.zone with hz | hz <;> rw [hz] at hp <;> cases hp
    case isFalse => exact h
  | hold =>
    unfold holdEffect
    rw [zsHold_of_rests h.zone]
    exact h.of
  | resume => exact (h.of : Rests s (u.setZs _)).leavesPause
  | shutdown =>
    unfold shutdownEffect; split
    · exact h.trips ..
    · exact h
  | test =>
    unfold testEffect; split
    · exact h.of
    · exact h
  | mode m => exact h.takesMode m hm hl
  | ackFaults => exact h.of
  | report => exact h.queuesStatus

/-- A frame is delivered to a node whose zone rests, and leaves it so unless it is a MODE that arms the node. -/
theorem isDelivered {deliver : State → State} (hd : Delivery deliver) (h : Rests s u) (hl : s.hm.mode = .listen)
    (hm : (deliver u).hm.mode = .listen) : Rests s (deliver u) := by
  cases hd with
  | trip p => exact h.abortsTest.draws.eitherOrder _ (fun hv => hv.tripArrives p) fun hv => hv.reportsActivity _ _ _
  | observe i p =>
    have stored := h.storesObservation i (observationOf p u)
    have tested : Rests s (if freshPhase p.phase then abortTest (storeObservation i (observationOf p u) u)
        else storeObservation i (observationOf p u) u) := .either stored.abortsTest stored
    exact tested.draws.eitherOrder _ (fun hv => hv.votes) fun hv => hv.reportsActivity _ _ _
  | claim i p => exact h.of
  | release i p => exact h.of
  | status i p => exact (h.setsPeer _ _).comparesDigests
  | command code i p he =>
    unfold deliverCommand at hm ⊢
    repeat' split
    case isTrue.isTrue ht hc =>
      rw [if_pos ht, if_pos hc] at hm
      exact (takesCommand he h hl hm).of
    case isTrue.isFalse => exact h.of
    case isFalse => exact h

theorem takesFrame {deliver : State → State} (hd : Delivery deliver) (h : Rests s u) (i : StationId)
    (hl : s.hm.mode = .listen) (hm : (takeFrame i deliver u).hm.mode = .listen) : Rests s (takeFrame i deliver u) := by
  have heard := h.scoresDown.hearsLine
  unfold takeFrame at hm ⊢
  dsimp only at hm ⊢
  generalize hearLine (scoreDown u) = w at heard hm ⊢
  have conflict : Rests s (takeConflict w) :=
    (heard.setsLine : Rests s (w.setSlc { w.slc with conflictDue := some (w.slc.tEnd + threePs w) })).raises _
  have present := heard.updatesPresence i w.slc.tEnd
  generalize presenceUpdate i w.slc.tEnd w = x at present hm ⊢
  split
  case isTrue => exact conflict
  case isFalse hi =>
    split
    case isTrue hc =>
      rw [if_neg hi, if_pos hc] at hm
      exact isDelivered hd present hl hm
    case isFalse => exact present

/-! ## Deadlines and edges -/

theorem whenDue {p : Prop} [Decidable p] (h : Rests s u) {v : State} (hv : p → Rests s v) :
    Rests s (if p then v else u) := by
  split
  · exact hv ‹_›
  · exact h

/-- A deadline that runs in another state of the sequencer has not fallen due. -/
theorem notDue {p : Bool} (h : Rests s u) {v : State} {st : SeqState} (hst : st ≠ .running ∧ st ≠ .unconfigured)
    (hp : p = true → u.zs.st = st) : Rests s (if p then v else u) := by
  refine h.whenDue fun hd => ?_
  rcases h.zone with hz | hz
  · exact absurd ((hp hd).symm.trans hz) hst.1
  · exact absurd ((hp hd).symm.trans hz) hst.2

end Rests

end Sys2Proof.Machine

/-! The deadlines of a node in LISTEN mode (O60). -/

namespace Sys2Proof.Machine

/-! ## The state in which a deadline runs -/

section

variable {s : State}

theorem gapFalls_st (h : gapFalls s = true) : s.zs.st = .shutting := by
  simp only [gapFalls, Bool.and_eq_true, beq_iff_eq] at h; exact h.1.2

theorem startFalls_st (h : startFalls s = true) : s.zs.st = .starting := by
  simp only [startFalls, Bool.and_eq_true, beq_iff_eq] at h; exact h.1.2

theorem inrushFalls_st (h : inrushFalls s = true) : s.zs.st = .restarting := by
  simp only [inrushFalls, Bool.and_eq_true, beq_iff_eq] at h; exact h.1.1.2

theorem restartGapFalls_st (h : restartGapFalls s = true) : s.zs.st = .restarting := by
  simp only [restartGapFalls, Bool.and_eq_true, beq_iff_eq] at h; exact h.1.2

theorem settleFalls_own (h : settleFalls s = true) : s.icu.own = .settling := by
  simp only [settleFalls, Bool.and_eq_true, beq_iff_eq] at h; exact h.1.2

theorem backoffFalls_own (h : backoffFalls s = true) : s.icu.own = .backoff := by
  simp only [backoffFalls, Bool.and_eq_true, beq_iff_eq] at h; exact h.1.2

end

namespace Rests

variable {s u : State}

/-! ## Channels and record -/

theorem changesInput (h : Rests s u) (c : Channel) (high : Bool) : Rests s (ackInputChange c high u) := by
  have pinned : Rests s (setAckPin c high u) := h.of
  unfold ackInputChange; dsimp only; repeat' split
  · refine pinned.setsChan ‹_› ?_
    unfold filterChange; repeat' split
    all_goals rfl
  · exact pinned
  · exact pinned

theorem filteredChange_cmd (level : Bool) (r : ChanRun) : (filteredChange level r).cmd = r.cmd := by
  unfold filteredChange; dsimp only; repeat' split
  all_goals rfl

theorem filters (h : Rests s u) (c : Channel) : Rests s (filterDeadline c u) := by
  refine h.whenDue fun _ => ?_
  split
  case h_1 r hr =>
    have changed : Rests s (setChan c (some { filteredChange (readsShutAt (chanCfg u c) (rawAck u c)) r with
        filterDue := none }) u) := h.setsChan hr (filteredChange_cmd _ _)
    refine .either (h.setsChan hr rfl) (Rests.reportsPrecheck ?_ _)
    exact .either (changed.followsUnconfirmed.leavesPending _ _) changed.followsUnconfirmed
  case h_2 => exact h

theorem timesOut (h : Rests s u) (c : Channel) : Rests s (ackDeadline c u) := by
  refine h.whenDue fun _ => ?_
  split
  case h_1 r hr =>
    have unconfirmed : Rests s (setChan c (some { r with conf := .unconfirmed, ackDue := none }) u) := h.setsChan hr rfl
    exact unconfirmed.followsUnconfirmed.leavesPending _ _
  case h_2 => exact h

theorem rewrites (h : Rests s u) : Rests s (startRewrite u) := .either (h.startsWrite _) h

theorem writes (h : Rests s u) : Rests s (recordWriteAck u) :=
  h.whenDue fun _ => (((h.of : Rests s (u.setRcp { u.rcp with
    writeInFlight := false, attemptDue := none, retry := false })).follows _ _).follows _ _).rewrites

theorem attempts (h : Rests s u) : Rests s (attemptDeadline u) := by
  have failed : Rests s (u.setRcp { u.rcp with failedAt := some u.nodeTime }) := h.of
  exact h.whenDue fun _ => .either (((failed.of : Rests s (State.setRcp _ _)).raises _).rewrites) (failed.startsWrite _)

theorem fallsDue {f : State → State} (hf : Deadline f) (h : Rests s u)
    (hown : s.icu.own = .none ∨ s.icu.own = .inForce) : Rests s (f u) := by
  have owned : u.icu.own ≠ .settling ∧ u.icu.own ≠ .backoff := by
    rcases h.own hown with ho | ho <;> rw [ho] <;> decide
  cases hf with
  | selftest => exact h.whenDue fun _ => .either h.of h.of
  | idConflict => exact h.whenDue fun _ => Rests.clears h.setsLine _
  | heard => exact h.whenDue fun _ => (Rests.raises h.setsLine _).changesLine _
  | statusPeriod => exact h.whenDue fun _ => Rests.queuesStatus h.setsLine
  | silence i =>
    exact h.whenDue fun _ => ((h.of : Rests s (removeClaimOf i u)).setsPeer _ _).comparesDigests
  | window i => exact h.whenDue fun _ => (h.setsPeer _ _).votes
  | assertion =>
    have rises : Rests s (wireRises (setWirePin true u)) := (h.of : Rests s (setWirePin true u)).of
    exact .either rises.abortsTest h.of
  | release => exact .either (h.of : Rests s (setWirePin false u)).releasesWire h.of
  | confirm =>
    exact h.whenDue fun _ => ((h.of : Rests s (u.setVtu { u.vtu with
      wire := .asserted, confirmDue := none })).reportsActivity _ _ _).trips ..
  | stuck =>
    exact h.whenDue fun _ => ((h.of : Rests s (u.setVtu { u.vtu with
      wire := .stuck, stuckDue := none })).raises _).evaluatesArming
  | rearm => exact h.whenDue fun _ => (h.of : Rests s (u.setVtu { u.vtu with rearmDue := none })).evaluatesArming
  | drive => exact h.whenDue fun _ => h.of (hd := nofun)
  | ackInput c high => exact h.changesInput c high
  | filter c => exact h.filters c
  | ack c => exact h.timesOut c
  | gap => exact h.notDue (st := .shutting) (by decide) gapFalls_st
  | hold =>
    refine h.whenDue fun hd => ?_
    simp only [holdTimeFalls, holdRuns_of_rests h.zone, Bool.and_false, Bool.false_and] at hd
    cases hd
  | startWait => exact h.notDue (st := .starting) (by decide) startFalls_st
  | reset => exact h.whenDue fun _ => (h.of : Rests s (u.setZs _)).leavesPause
  | settle => exact h.whenDue fun hd => absurd (settleFalls_own hd) owned.1
  | backoff => exact h.whenDue fun hd => absurd (backoffFalls_own hd) owned.2
  | claimExpiry i => exact h.whenDue fun _ => h.of
  | ownExpiry => exact h.whenDue fun _ => (h.of : Rests s (removeClaimOf (ownId u) u)).of (ho := fun _ => .inl rfl)
  | inrush => exact h.notDue (st := .restarting) (by decide) inrushFalls_st
  | restartGap => exact h.notDue (st := .restarting) (by decide) restartGapFalls_st
  | writeAck => exact h.writes
  | attempt => exact h.attempts

end Rests

end Sys2Proof.Machine

/-! The beginning of a warm reset, field by field (O49). -/

namespace Sys2Proof.Machine

/-- The zone from the assertion of the reset input on (R149, R150). -/
def resetZone (z : SeqRecord) : SeqRecord :=
  let gap := z.st = .restarting ∧ z.restartStage = none
  { z with
    holdDue := none, startDue := none, resetDue := none, restartGap := none
    st := if z.st = .claiming ∨ gap then .paused else z.st
    pause := if z.st = .claiming ∨ gap then { noCauses with reset := true }
      else if z.st = .paused then { z.pause with reset := true } else z.pause
    held := if z.st = .restarting ∧ z.restartStage.isSome then { z.held with reset := true } else z.held }

theorem resetSequencer_zs (s : State) : (resetSequencer s).zs = resetZone s.zs := by
  unfold resetSequencer resetZone
  cases hst : s.zs.st
  case restarting =>
    cases hr : s.zs.restartStage <;> simp [hst, hr]
  all_goals simp [hst]

theorem resetMotion_eq (s : State) : resetMotion s = (s.setMp { s.mp with
    phase := if s.mp.inProgress then .ended else s.mp.phase, inProgress := false, det := .idle
    deflection := false, sensorRange16 := s.rcp.range16, warmupCount := 0, endHold := 0, testCount := 0
    testSum := 0, settleCount := 0, missingCount := 0, missingDue := none, recovery := 0 }).setHm { s.hm with
      sticky := { s.hm.sticky with
        selftestAborted := s.hm.sticky.selftestAborted || decide (s.mp.det = .masked) } } := by
  unfold resetMotion; dsimp only
  split
  case isTrue h => simp [h, noticeAborted, putFault, State.setMp, State.setHm]
  case isFalse h => simp [h, State.setMp, State.setHm]

/-- Where no close waits, a warm reset begins as each block's own rule has it. -/
theorem beginWarmReset_eq {s : State} (hw : s.rcp.closeWaits = false) : beginWarmReset s = { s with
    phase := .warmReset
    mp := { s.mp with
      phase := if s.mp.inProgress then .ended else s.mp.phase, inProgress := false, det := .idle
      deflection := false, sensorRange16 := s.rcp.range16, warmupCount := 0, endHold := 0
      testCount := 0, testSum := 0, settleCount := 0, missingCount := 0, missingDue := none
      recovery := 0 }
    slc := { s.slc with line := .seeking, score := 0, lastError := .none, queue := [], inFlight := none
                        heardDue := none, conflictDue := none, statusDue := none }
    pv := PeerView.reset
    vtu := { s.vtu with votes := 0, armed := false, driving := false, driveDue := none, wire := .released
                        confirmDue := none, stuckDue := none }
    cd := { runs := Vector.ofFn (fun c : Fin 16 =>
      (chan s c).map (fun r => { r with ackDue := none, filterDue := none })) }
    zs := resetZone s.zs
    icu := { s.icu with list := [], own := .none, settleDue := none, settleError := false
                        backoffDue := none, ownExpiry := none }
    rcp := { s.rcp with attemptDue := none }
    hm := { s.hm with
      active := { s.hm.active with lineIsolated := false, lineSuppressed := false, wireStuck := false
                                   configMismatch := false, idConflict := false }
      sticky := { s.hm.sticky with
        selftestAborted := s.hm.sticky.selftestAborted || decide (s.mp.det = .masked) }
      healthy := false } } := by
  have taken : takeWaitingClose s = s := by unfold takeWaitingClose; rw [hw]; rfl
  unfold beginWarmReset resetHealth; dsimp only
  rw [taken, resetSequencer_eq, resetSequencer_zs, resetMotion_eq, Moves.takeHealth_setHm_static]
  · rfl
  · exact nofun

/-- A close that waits is taken before the blocks are reset (notes/assumptions/30.md). -/
theorem beginWarmReset_takeWaitingClose (s : State) : beginWarmReset (takeWaitingClose s) = beginWarmReset s := by
  have taken : takeWaitingClose (takeWaitingClose s) = takeWaitingClose s := by
    rw [takeWaitingClose.eq_1 (takeWaitingClose s), takeWaitingClose_closeWaits]; rfl
  unfold beginWarmReset
  rw [taken]

/-! The record is written and a close taken whatever the levels at the pins are. -/

theorem writeChange_setPins (p : Pins) (s : State) : writeChange (s.setPins p) = (writeChange s).setPins p :=
  (apply_ite (fun x : State => x.setPins p) (s.rcp.writeInFlight = true)
    (s.setRcp { s.rcp with rewritePending := true }) (startWrite false s)).symm

theorem setRecord_setPins (r : TripRecord) (p : Pins) (s : State) :
    setRecord r (s.setPins p) = (setRecord r s).setPins p := by
  have written := writeChange_setPins p (s.setRcp { s.rcp with record := r })
  refine Eq.trans ?_ (apply_ite (fun x : State => x.setPins p) (r = s.rcp.record) _ _).symm
  rw [← written]
  rfl

theorem takeClose_setPins (p : Pins) (s : State) : takeClose (s.setPins p) = (takeClose s).setPins p := by
  have closed := setRecord_setPins (closedRecord s.rcp.record) p (s.setRcp { s.rcp with closeWaits := false })
  refine Eq.trans ?_ (apply_ite (fun x : State => x.setPins p) (s.rcp.lastTripReq = some s.nodeTime) _ _).symm
  rw [apply_ite (fun x : State => x.setPins p), ← closed]
  rfl

theorem takeClose_pins (s : State) : (takeClose s).pins = s.pins := by rw [takeClose_eq]; rfl

theorem takeClose_setResetPin (v : Bool) (s : State) : takeClose (setResetPin v s) = setResetPin v (takeClose s) := by
  unfold setResetPin
  rw [takeClose_setPins, takeClose_pins]

theorem exec_warmReset (t : Nat) (s : State) : exec (.warmReset t) s = .next (warmReset (advance t s)) := rfl

/-- Settles O49. -/
theorem warmResetBegins : Obligations.WarmResetBegins := by
  intro t s ht hmax
  refine ⟨fun hp => ?_, fun hp hw heq => ?_, fun hp hw => ?_⟩
  · have hpower : s.phase ≠ .powerUp := by rcases hp with hp | hp | hp <;> rw [hp] <;> decide
    have hrun : s.phase ≠ .running := by rcases hp with hp | hp | hp <;> rw [hp] <;> decide
    rw [exec_warmReset, advance_starting hpower hrun ht hmax]
    have off : running (setResetPin true (s.setNodeTime t)) = false := beq_eq_false_iff_ne.mpr hrun
    unfold warmReset; dsimp only
    rw [off]
    rfl
  · subst heq
    have stays (x : State) (hx : x.nodeTime = s.nodeTime) (hpx : x.phase = .running) :
        warmReset (advance s.nodeTime x) = beginWarmReset (setResetPin true x) := by
      have here : advance s.nodeTime x = x := by
        rw [advance_running hpx (Nat.le_of_eq hx) hmax (.inr hx.symm), ← hx]
        rfl
      rw [here]
      exact if_pos (beq_iff_eq.mpr hpx)
    have closed := takeClose_eq s
    rw [exec_warmReset, exec_warmReset, stays s rfl hp, stays (takeClose s) (by rw [closed]; rfl) (by rw [closed]; exact hp),
      ← takeClose_setResetPin, ← beginWarmReset_takeWaitingClose (setResetPin true s)]
    congr 2
    unfold takeWaitingClose
    exact if_pos hw
  · rw [exec_warmReset, advance_running hp ht hmax (.inl hw)]
    have on : running (setResetPin true (s.setNodeTime t)) = true := beq_iff_eq.mpr hp
    unfold warmReset; dsimp only
    rw [if_pos on, beginWarmReset_eq (s := setResetPin true (s.setNodeTime t)) hw]
    rfl

end Sys2Proof.Machine

/-! A node in LISTEN mode through the effects of its commands (O60). -/

namespace Sys2Proof.Machine

theorem listenQuiet_iff (s : State) : listenQuiet s = true ↔ ZoneRests s ∧ (∀ e ∈ s.slc.queue, e = .status) ∧
    s.vtu.driving = false ∧ (s.icu.own = .none ∨ s.icu.own = .inForce) := by
  simp [listenQuiet, ZoneRests, and_assoc]

/-- The node is in LISTEN mode and quiet, with the commands `f`. -/
def Listens (f : Channel → Option ChanCmd) (s : State) : Prop :=
  s.hm.mode = .listen ∧ listenQuiet s = true ∧ ∀ c, command s c = f c

namespace Listens

variable {f : Channel → Option ChanCmd} {s u : State}

theorem mode (h : Listens f s) : s.hm.mode = .listen := h.1

theorem own (h : Listens f s) : s.icu.own = .none ∨ s.icu.own = .inForce := ((listenQuiet_iff s).mp h.2.1).2.2.2

theorem rests (h : Listens f s) : Rests s s := .refl ((listenQuiet_iff s).mp h.2.1).1 (.inl h.1)

theorem after (h : Listens f s) (hr : Rests s u) : Listens f u := by
  obtain ⟨hm, hq, hf⟩ := h
  rw [listenQuiet_iff] at hq
  obtain ⟨-, hqueue, hdrive, hown⟩ := hq
  refine ⟨hr.mode.trans hm, (listenQuiet_iff u).mpr ⟨hr.zone, fun e he => ?_, ?_, hr.own hown⟩,
    fun c => (hr.commands c).trans (hf c)⟩
  · exact (hr.queue hm e he).elim id (hqueue e)
  · exact Bool.eq_false_iff.mpr fun hd => by rw [hr.driving hd] at hdrive; cases hdrive

end Listens

/-! ## Node time and the reset input -/

theorem Listens.leavesNodeTime {f : Channel → Option ChanCmd} {s : State} (h : Listens f s) :
    Listens f (takeWaitingClose s) := by
  rw [takeWaitingClose_eq]; exact h

theorem Listens.advances {f : Channel → Option ChanCmd} {s : State} (h : Listens f s) (t : Nat) :
    Listens f (advance t s) := by
  have left : Listens f (leaveNodeTime t s) := by
    unfold leaveNodeTime; split
    · exact h.leavesNodeTime
    · exact h
  unfold advance; split
  · exact h
  · exact left

theorem resetZone_of_rests {z : SeqRecord} (h : z.st = .running ∨ z.st = .unconfigured) :
    (resetZone z).st = z.st := by
  unfold resetZone
  rcases h with h | h <;> simp [h]

/-- What a warm reset leaves of the zone, the mode and the commands (R114, R149). -/
theorem Listens.beginsReset {f : Channel → Option ChanCmd} {s : State} (h : Listens f s) :
    Listens f (beginWarmReset s) := by
  obtain ⟨hm, hq, hf⟩ := h.leavesNodeTime
  obtain ⟨hzone, -⟩ := (listenQuiet_iff _).mp hq
  rw [← beginWarmReset_takeWaitingClose, beginWarmReset_eq (takeWaitingClose_closeWaits s)]
  refine ⟨hm, (listenQuiet_iff _).mpr ⟨?_, nofun, rfl, .inl rfl⟩, fun c => ?_⟩
  · exact hzone.imp (fun h => (resetZone_of_rests (.inl h)).trans h) fun h => (resetZone_of_rests (.inr h)).trans h
  · rw [← hf c]
    unfold command chan
    simp only [Vector.getElem_ofFn, Option.map_map]
    rfl

/-! ## The end of the cold start and of a warm reset -/

namespace Rests

variable {s u : State}

theorem startsTimers (h : Rests s u) : Rests s (startTimers u) :=
  (setsLine (h.setsMp _) (l := { u.slc with
    statusDue := some (u.nodeTime + (cfg u).ps * 10000), lastHeard := u.nodeTime
    heardDue := some (u.nodeTime + threePs u) })).queuesStatus

theorem startsSensing (h : Rests s u) : Rests s (armingEval (senseWire (ownPresent (startTimers u)))) :=
  (h.startsTimers.setsPeer _ _).sensesWire.evaluatesArming

theorem startsWaits (h : Rests s u) : Rests s (startWaits u) := by
  have notStarting : u.zs.st ≠ .starting := by rcases h.zone with hz | hz <;> rw [hz] <;> decide
  unfold startWaits
  rw [if_neg notStarting, recomputeHold_of_rests h.zone]
  exact h

theorem endsColdStart (h : Rests s (u.setPhase .running)) : Rests s (endColdStart u) := by
  have sensed := (h.setsMp { u.mp with testDue := if configured u then nextTestDue (u.setPhase .running) else none }).startsSensing
  have active : Rests s (startActivity (armingEval (senseWire (ownPresent (startTimers ((u.setPhase .running).setMp
      { u.mp with testDue := if configured u then nextTestDue (u.setPhase .running) else none })))))) :=
    .either sensed.of sensed
  exact active.startsWaits.takesHealth

theorem startsDetector (h : Rests s u) : Rests s (startDetector u) := .either (h.setsMp _) (h.setsMp _)

theorem levelTest_cmd (c : ChannelConfig) (high : Bool) (now : Nat) (r : ChanRun) :
    (levelTest c high now r).cmd = r.cmd := by
  unfold levelTest; dsimp only; repeat' split
  all_goals rfl

theorem takesLevelTest (h : Rests s u) (c : Channel) : Rests s (takeLevelTest c u) := by
  unfold takeLevelTest; split
  case h_1 r hr =>
    have tested : Rests s (setChan c (some (levelTest (chanCfg u c) (rawAck u c) u.nodeTime r)) u) :=
      h.setsChan hr (levelTest_cmd _ _ _ _)
    exact .either (tested.leavesPending _ _) tested
  case h_2 => exact h

theorem endsResetChannels (h : Rests s u) : Rests s (endResetChannels u) := by
  have all (l : List Channel) {x : State} (hx : Rests s x) :
      Rests s (l.foldl (fun st c => takeLevelTest c st) x) := by
    induction l generalizing x with
    | nil => exact hx
    | cons c cs ih => exact ih (hx.takesLevelTest c)
  exact (all allChannels h).followsUnconfirmed

theorem endsResetSequencer (h : Rests s u) : Rests s (endResetSequencer u) := .either h.of h

theorem endsResetRecord (h : Rests s u) : Rests s (endResetRecord u) := .either (h.startsWrite false) h

theorem endsResetCauses (h : Rests s u) : Rests s (endResetCauses u) := .either h.of h

theorem endsWarmReset (h : Rests s (u.setPhase .running)) : Rests s (endWarmReset u) :=
  h.startsDetector.startsSensing.endsResetSequencer.endsResetRecord.endsResetChannels.endsResetCauses.startsWaits.takesHealth

end Rests

theorem raiseFault_mode (f : FaultId) (s : State) : (raiseFault f s).hm.mode = s.hm.mode := by
  unfold raiseFault; rw [takeHealth_eq]; rfl

/-- What the record read leaves of the rest of the state (R194). -/
theorem takeRecord_keeps (r : Option TripRecord) (s : State) : (takeRecord r s).zs = s.zs ∧
    (takeRecord r s).hm.mode = s.hm.mode ∧ (takeRecord r s).slc = s.slc ∧ (takeRecord r s).vtu = s.vtu ∧
    (takeRecord r s).icu = s.icu := by
  unfold takeRecord; dsimp only; split
  · exact ⟨rfl, rfl, rfl, rfl, rfl⟩
  · rw [raiseFault_mode]
    refine ⟨?_, ?_, ?_, ?_, ?_⟩
    · rw [raiseFault_eq]; rfl
    · rfl
    · rw [raiseFault_eq]; rfl
    · rw [raiseFault_eq]; rfl
    · rw [raiseFault_eq]; rfl

theorem startDetector_keeps (s : State) : startDetector s = s.setMp (startDetector s).mp := by
  unfold startDetector; split <;> rfl

theorem takeHealth_mode (s : State) : (takeHealth s).hm.mode = s.hm.mode := by rw [takeHealth_eq]; rfl

theorem startWaits_mode (s : State) : (startWaits s).hm.mode = s.hm.mode := by
  unfold startWaits; split
  · rfl
  · exact (congrArg (fun x => x.hm.mode) (zoneKept_recomputeHold s) :)

theorem startActivity_mode (s : State) : (startActivity s).hm.mode = s.hm.mode := by
  unfold startActivity; split <;> rfl

/-- The end of the cold start leaves the mode that the start mode has given (R188). -/
theorem endColdStart_mode (s : State) : (endColdStart s).hm.mode = s.hm.mode := by
  have sensed (x : State) : (armingEval (senseWire (ownPresent (startTimers x)))).hm.mode = x.hm.mode := by
    rw [(voteKept_fields (voteKept_armingEval _)).2.2.2.2.2.2.2.2]
    unfold senseWire startTimers queueStatus
    rw [place_eq]
    split <;> rfl
  unfold endColdStart; dsimp only
  rw [takeHealth_mode, startWaits_mode, startActivity_mode]
  exact sensed _

theorem startedUp_mode (r : Option TripRecord) (s : State) :
    (startedUp r s).hm.mode = (beforeDetector r s).hm.mode := by
  change (endColdStart (startDetector (beforeDetector r s))).hm.mode = _
  rw [endColdStart_mode, startDetector_keeps]
  rfl

end Sys2Proof.Machine

/-! Console commands that reach their node (section 11.1), as they are delivered in the state in which their frame has
been heard. -/

namespace Sys2Proof.Machine

theorem heardFrame_moves {i : StationId} {s : State} (hi : i ≠ ownId s) (t : Nat) :
    Moves false true (frameEnded t s) false (heardFrame t i s) := by
  rw [heardFrame_other hi]
  exact Moves.refl.scoresDown.hearsLine.updatesPresence _ _

theorem heardFrame_phase {i : StationId} {s : State} (hi : i ≠ ownId s) (t : Nat) :
    (heardFrame t i s).phase = s.phase := (heardFrame_moves hi t).nodeTime_phase.2

theorem heardFrame_ownId {i : StationId} {s : State} (hi : i ≠ ownId s) (t : Nat) :
    ownId (heardFrame t i s) = ownId s := by
  obtain ⟨-, -, -, -, hown, -⟩ := arrivalKept_fields (arrivalKept_hearLine_scoreDown (frameEnded t s))
  obtain ⟨-, -, -, -, hown', -⟩ := arrivalKept_fields (arrivalKept_presenceUpdate i
    (hearLine (scoreDown (frameEnded t s))).slc.tEnd (hearLine (scoreDown (frameEnded t s))))
  rw [heardFrame_other hi]
  exact hown'.trans hown

theorem heardFrame_cfg {i : StationId} {s : State} (hi : i ≠ ownId s) (t : Nat) :
    cfg (heardFrame t i s) = cfg s := (heardFrame_fields hi t).2.2.1

/-- The target of a COMMAND that reaches this node (R200). -/
def Reaches (p : CommandPayload) (s : State) : Prop := p.target = 255 ∨ p.target = (ownId s).val

theorem Reaches.inRange {p : CommandPayload} {s : State} (h : Reaches p s) (ha : p.argument ≤ 255) :
    commandInRange p = true := by
  have hid := (ownId s).isLt
  simp only [commandInRange, Bool.and_eq_true, Bool.or_eq_true, decide_eq_true_eq]
  rcases h with h | h <;> omega

/-- A command from the console set is delivered in the state in which its frame has been heard (R200, R201). -/
theorem commandArrives_heard {t : Nat} {i : StationId} {p : CommandPayload} {s : State} (h : RunsAt t s)
    (hl : s.slc.line = .receiving) (hi : i ≠ ownId s) (hc : configured s = true) (hp : Reaches p s)
    (hset : inConsoleSet s i = true) (code : Nat) (effect : State → CmdResult × State) :
    commandArrives code true i p effect (advance t s) =
      recordResult code (effect (heardFrame t i s)).1 (effect (heardFrame t i s)).2 := by
  unfold commandArrives
  rw [arrive_other h hl hi hc]
  have hp' : p.target = 255 ∨ p.target = (ownId (heardFrame t i s)).val := by rw [heardFrame_ownId hi]; exact hp
  have hset' : inConsoleSet (heardFrame t i s) i = true := by
    unfold inConsoleSet; rw [heardFrame_cfg hi]; exact hset
  unfold deliverCommand
  rw [if_pos hp', if_pos hset']

end Sys2Proof.Machine

/-! A node that stays in LISTEN mode stays quiet, and a MODE to LISTEN leads into such a state (O60). -/

namespace Sys2Proof.Machine

variable {f : Channel → Option ChanCmd} {s u : State}

/-! ## Cold start -/

theorem Listens.startsState (h : Listens f s) (hm : (takeStartState s).hm.mode = .listen) :
    Listens f (takeStartState s) := by
  obtain ⟨hmode, hq, hf⟩ := h
  have quiet := (listenQuiet_iff s).mp hq
  unfold takeStartState at hm ⊢
  split
  case isFalse => exact ⟨hmode, hq, hf⟩
  case isTrue hc =>
    rw [if_pos hc] at hm
    dsimp only at hm ⊢
    cases hstart : (cfg s).startMode with
    | listen => exact ⟨rfl, (listenQuiet_iff _).mpr ⟨.inl rfl, quiet.2⟩, hf⟩
    | armed =>
      simp only [hstart] at hm
      repeat' split at hm
      all_goals cases hm

/-- The record read and the classification leave what LISTEN promises but the commands. -/
theorem Listens.takesRecord (h : Listens f s) (r : Option TripRecord) :
    Listens (command (if configured (takeRecord r s) then classify (takeRecord r s) else takeRecord r s))
      (if configured (takeRecord r s) then classify (takeRecord r s) else takeRecord r s) := by
  obtain ⟨hmode, hq, -⟩ := h
  obtain ⟨hzs, hm, hslc, hvtu, hicu⟩ := takeRecord_keeps r s
  have quiet : listenQuiet (takeRecord r s) = true := by
    unfold listenQuiet at hq ⊢
    rw [hzs, hslc, hvtu, hicu]
    exact hq
  split
  · exact ⟨hm.trans hmode, quiet, fun _ => rfl⟩
  · exact ⟨hm.trans hmode, quiet, fun _ => rfl⟩

theorem Listens.startsUp (h : Listens f s) (r : Option TripRecord) (hm : (startedUp r s).hm.mode = .listen) :
    ∃ g, Listens g (startedUp r s) := by
  rw [startedUp_mode] at hm
  have started : Listens _ (beforeDetector r s) := (h.takesRecord r).startsState hm
  have detected := started.after started.rests.startsDetector
  have running : Listens _ ((startDetector (beforeDetector r s)).setPhase .running) := detected
  exact ⟨_, running.after running.rests.endsColdStart⟩

theorem beginWarmReset_mode (s : State) : (beginWarmReset s).hm.mode = s.hm.mode := by
  rw [← beginWarmReset_takeWaitingClose, beginWarmReset_eq (takeWaitingClose_closeWaits s), takeWaitingClose_eq]
  rfl

/-! ## Effects -/

theorem Listens.takesImage (h : Listens f s) (c : Option NodeConfig) (digest : Nat) :
    Listens f (takeImage c digest s) := by
  have seeking : Listens f (((s.setRcp { s.rcp with
      config := c, digest := digest, readRetry := false, readDue := some (s.nodeTime + 200) }).setPhase .readRecord).setSlc
        { s.slc with timing := (c.getD defaultConfig).timing, line := .seeking }) := h
  unfold takeImage; dsimp only; split
  · exact seeking
  · exact seeking.after (seeking.rests.raises _)

/-- An effect that leaves a node in LISTEN mode there leaves it quiet. But for the end of the cold start it moves no
channel's command. -/
theorem Effect.listens (he : Effect s u) (h : Listens f s) (hm : u.hm.mode = .listen) :
    ∃ g, Listens g u ∧ (s.phase ≠ .readRecord → g = f) := by
  have rested (hr : Rests s u) : ∃ g, Listens g u ∧ (s.phase ≠ .readRecord → g = f) :=
    ⟨f, h.after hr, fun _ => rfl⟩
  have refl := h.rests
  cases he with
  | nothing => exact rested refl
  | falls hf => exact rested (refl.fallsDue hf h.own)
  | pins p => exact rested refl.of
  | sample x y z _ => exact rested (refl.processesSample x y z)
  | missing _ => exact rested refl.countsMissing
  | follows _ _ _ hq _ _ => exact rested (refl.setsLine hq)
  | sends _ _ => exact rested refl.setsLine
  | loses _ => exact rested refl.failsAttempt.setsLine
  | bitError _ => exact rested (refl.failsAttempt.setsLine.scoresUp _)
  | completes _ => exact rested (refl.completesFrame h.own)
  | receiveError kind _ _ => exact rested (refl.setsLine.scoresUp kind).notesReceiveError
  | arrives i _ _ hd => exact rested (Rests.takesFrame hd refl.setsLine i h.mode hm)
  | image c digest _ => exact ⟨f, h.takesImage c digest, fun _ => rfl⟩
  | retries _ => exact rested refl.of
  | record r hp =>
    rw [finishColdStart_eq] at hm ⊢
    unfold resetIfAsserted at hm ⊢
    split at hm
    case isTrue ha =>
      rw [beginWarmReset_mode] at hm
      obtain ⟨g, hg⟩ := h.startsUp r hm
      rw [if_pos ha]
      exact ⟨g, hg.beginsReset, fun hn => absurd hp hn⟩
    case isFalse ha =>
      obtain ⟨g, hg⟩ := h.startsUp r hm
      rw [if_neg ha]
      exact ⟨g, hg, fun hn => absurd hp hn⟩
  | resets _ => exact ⟨f, Listens.beginsReset (s := setResetPin true s) h, fun _ => rfl⟩
  | endOfReset _ =>
    have running : Listens f ((setResetPin false s).setPhase .running) := h
    exact ⟨f, running.after running.rests.endsWarmReset, fun _ => rfl⟩

/-! ## Steps -/

/-- A step executes the command at the front of the queue, or one that has fallen due, or is a tick. -/
theorem step_cases (h : step s = .next u) : (∃ c rest, s.pending = c :: rest ∧ exec c (s.setPending rest) = .next u) ∨
    (s.pending = [] ∧ (u = tick s ∨ ∃ c ∈ dueCommands s, exec c s = .next u ∨ exec c (drawn s) = .next u)) := by
  unfold step at h
  split at h
  case h_1 c rest hp => exact .inl ⟨c, rest, hp, h⟩
  case h_2 hp =>
    refine .inr ⟨hp, ?_⟩
    unfold idle at h
    split at h
    case h_1 => injection h with h; exact .inl h.symm
    case h_2 c hd => exact .inr ⟨c, by rw [hd]; exact List.mem_singleton_self c, .inl h⟩
    case h_3 c d rest hd =>
      refine .inr ⟨_, ?_, .inr h⟩
      have hlt : Config.pickDue s.draws % (rest.length + 2) < (c :: d :: rest).length :=
        Nat.mod_lt _ (Nat.succ_pos _)
      rw [hd, List.getD_eq_getElem?_getD, List.getElem?_eq_getElem hlt]
      exact List.getElem_mem hlt

/-- Commands that are taken at `t`. -/
def TakenAt (t : Nat) (l : List Instr) : Prop := ∀ c ∈ l, commandTime c = some t

theorem TakenAt.append {t : Nat} {l m : List Instr} (hl : TakenAt t l) (hm : TakenAt t m) : TakenAt t (l ++ m) :=
  List.forall_mem_append.mpr ⟨hl, hm⟩

theorem TakenAt.onlyIf {t : Nat} (b : Bool) {c : Instr} (h : commandTime c = some t) : TakenAt t (onlyIf b c) := by
  unfold Sys2Proof.Machine.onlyIf; split
  · exact fun d hd => (List.mem_singleton.mp hd).symm ▸ h
  · exact List.forall_mem_nil _

theorem TakenAt.map {α : Type} {g : α → Instr} {t : Nat} (h : ∀ i, commandTime (g i) = some t) (l : List α) :
    TakenAt t (l.map g) := by
  intro d hd
  obtain ⟨i, -, rfl⟩ := List.mem_map.mp hd
  exact h i

/-- What has fallen due is taken at the node time that stands (R1). -/
theorem takenAt_dueCommands (s : State) : TakenAt s.nodeTime (dueCommands s) := by
  unfold dueCommands
  exact TakenAt.onlyIf _ rfl |>.append (.onlyIf _ rfl) |>.append (.onlyIf _ rfl) |>.append (.onlyIf _ rfl)
    |>.append (.onlyIf _ rfl) |>.append (.onlyIf _ rfl) |>.append (.map (fun _ => rfl) _)
    |>.append (.map (fun _ => rfl) _) |>.append (.onlyIf _ rfl) |>.append (.onlyIf _ rfl)
    |>.append (.onlyIf _ rfl) |>.append (.onlyIf _ rfl) |>.append (.map (fun _ => rfl) _)
    |>.append (.map (fun _ => rfl) _) |>.append (.onlyIf _ rfl) |>.append (.onlyIf _ rfl)
    |>.append (.onlyIf _ rfl) |>.append (.onlyIf _ rfl) |>.append (.onlyIf _ rfl) |>.append (.onlyIf _ rfl)
    |>.append (.map (fun _ => rfl) _) |>.append (.onlyIf _ rfl) |>.append (.onlyIf _ rfl)
    |>.append (.onlyIf _ rfl) |>.append (.onlyIf _ rfl) |>.append (.onlyIf _ rfl)

end Sys2Proof.Machine

/-! O60: a node that stays in LISTEN mode. -/

namespace Sys2Proof.Machine

theorem listenQuiet_coldReset (id : StationId) (range16 : Bool) (identity : Byte) (s : State) :
    listenQuiet (coldReset id range16 identity s) = true := by
  rw [listenQuiet_iff]
  unfold coldReset; dsimp only; split
  · exact ⟨.inr rfl, nofun, rfl, .inl rfl⟩
  · rw [raiseFault_eq]
    exact ⟨.inr rfl, nofun, rfl, .inl rfl⟩

theorem exec_listens {f : Channel → Option ChanCmd} {c : Instr} {s u : State} (h : exec c s = .next u)
    (hs : Listens f s) (hm : u.hm.mode = .listen) : listenQuiet u = true ∧
      ((∀ id range16 identity, c ≠ .coldReset id range16 identity) → s.phase ≠ .readRecord →
        ∀ e, command u e = f e) := by
  rcases exec_effect h with ⟨id, range16, identity, hc, rfl⟩ | ⟨t, -, he⟩
  · exact ⟨listenQuiet_coldReset id range16 identity s, fun hn => absurd hc (hn _ _ _)⟩
  · obtain ⟨g, ⟨-, hq, hg⟩, hsame⟩ := he.listens (hs.advances t) hm
    refine ⟨hq, fun _ hp => ?_⟩
    rw [(advance_line t s).2] at hsame
    exact fun e => (hg e).trans (congrFun (hsame hp) e)

theorem changeMode_listen (s : State) : changeMode .listen s = setMode .listen (removeEntry 3 (removeEntry 1 s)) := rfl

/-- A node that may change to LISTEN mode has nothing to take from the queue but its OBSERVE and its RELEASE (R95, R207). -/
theorem listenQuiet_changeMode {s : State} (hst : s.zs.st = .running) (hd : s.vtu.driving = false)
    (hq : ∀ e ∈ s.slc.queue, entryClass e ≠ 0 ∧ entryClass e ≠ 2) (ho : s.icu.own = .none ∨ s.icu.own = .inForce) :
    listenQuiet (changeMode .listen s) = true ∧ (changeMode .listen s).hm.mode = .listen ∧
      (changeMode .listen s).phase = s.phase := by
  have kept (e : TxEntry) (he : e ∈ dropClass 3 (dropClass 1 s.slc.queue)) : e = .status := by
    obtain ⟨he', h3⟩ := (mem_dropClass e 3 _).mp he
    obtain ⟨hin, h1⟩ := (mem_dropClass e 1 _).mp he'
    have h02 := hq e hin
    cases e <;> simp_all [entryClass]
  have queued (e : TxEntry) (he : e ∈ (changeMode .listen s).slc.queue) : e = .status := by
    rw [changeMode_listen, setMode, queueStatus] at he
    refine (mem_of_mem_place he).elim id fun h => kept e ?_
    rwa [takeHealth_eq] at h
  have fields : (changeMode .listen s).zs = s.zs ∧ (changeMode .listen s).vtu = s.vtu ∧
      (changeMode .listen s).icu = s.icu ∧ (changeMode .listen s).hm.mode = .listen ∧
      (changeMode .listen s).phase = s.phase := by
    rw [changeMode_listen, setMode, queueStatus, place_eq, takeHealth_eq]
    exact ⟨rfl, rfl, rfl, rfl, rfl⟩
  obtain ⟨hzs, hvtu, hicu, hmode, hp⟩ := fields
  refine ⟨(listenQuiet_iff _).mpr ⟨.inl (by rw [hzs]; exact hst), queued, by rw [hvtu]; exact hd, ?_⟩, hmode, hp⟩
  rw [hicu]
  exact ho

/-- Settles O60: the MODE is taken in the state in which its frame has been heard, and every effect leaves a zone that
rests at rest. -/
theorem listenStaysQuiet : Obligations.ListenStaysQuiet := by
  refine ⟨fun t i p s h hl hi hc hset hp ha => ?_, fun s u h hm hm' hstart hq => ?_⟩
  · intro v hst hdet hdrive hmode hqueue hown
    have quiet : hasClass 0 v.slc.queue = false :=
      (hasClass_eq_false 0 _).mpr fun e he => (hqueue e he).1
    have may : mayChangeMode .listen v = true := by
      simp [mayChangeMode, hst, hdet, tripQuiet, hdrive, quiet]
    obtain ⟨hlq, hlm, hlp⟩ := listenQuiet_changeMode hst hdrive hqueue hown
    have effect : modeEffect .listen v = (.done, changeMode .listen v) := by
      unfold modeEffect
      rw [if_pos may, hmode]
      rfl
    have range : modeCommandInRange p = true := by
      rw [modeCommandInRange, Reaches.inRange (s := s) hp (by omega), ha]
      rfl
    have argument : modeArgument p = .listen := by rw [modeArgument, ha]; rfl
    have taken := commandArrives_heard h hl hi hc hp hset 6 (modeEffect .listen)
    rw [show heardFrame t i s = v from rfl, effect] at taken
    refine ⟨recordResult 6 .done (changeMode .listen v), ?_, hlm, rfl, hlq, ?_⟩
    · rw [← taken, ← range, ← argument]
      rfl
    · have running : (changeMode .listen v).phase = .running := hlp.trans ((heardFrame_phase hi t).trans h.1)
      change ((changeMode .listen v).phase == .running || _ || _) = true
      rw [running]
      rfl
  · have listens : Listens (command s) s := ⟨hm, hq, fun _ => rfl⟩
    have notRead (hp : s.phase = .running ∨ s.phase = .warmReset) : s.phase ≠ .readRecord := by
      rcases hp with hp | hp <;> rw [hp] <;> decide
    rcases step_cases h with ⟨c, rest, hpend, he⟩ | ⟨hpend, rfl | ⟨c, hdue, he⟩⟩
    · obtain ⟨hqu, hcmd⟩ := exec_listens (f := command s) he listens hm'
      refine ⟨hqu, fun hp hcold => hcmd (fun id range16 identity hn => ?_) (notRead hp)⟩
      exact hcold id range16 identity rest (hn ▸ hpend)
    · have ticked := listens.advances (s.nodeTime + 1)
      exact ⟨ticked.2.1, fun _ _ => ticked.2.2⟩
    · have timed := takenAt_dueCommands s c hdue
      have notCold (id : StationId) (range16 : Bool) (identity : Byte) : c ≠ .coldReset id range16 identity :=
        fun hn => by rw [hn] at timed; cases timed
      rcases he with he | he
      · obtain ⟨hqu, hcmd⟩ := exec_listens he listens hm'
        exact ⟨hqu, fun hp _ => hcmd notCold (notRead hp)⟩
      · obtain ⟨hqu, hcmd⟩ := exec_listens (f := command s) he listens hm'
        exact ⟨hqu, fun hp _ => hcmd notCold (notRead hp)⟩

end Sys2Proof.Machine

/-! The step (R1), an empty queue, and the line states that the line itself moves (R31). -/

namespace Sys2Proof.Machine

variable {s : State} {t : Nat}

/-- Settles O1. -/
theorem stepTakesTheFrontCommand : Obligations.StepTakesTheFrontCommand := by
  unfold Obligations.StepTakesTheFrontCommand
  intro c rest s hp
  unfold step
  rw [hp]

/-- Settles O55, by evaluating the checks on the reset state. -/
theorem resetMeetsEveryPromise : Obligations.ResetMeetsEveryPromise := by
  unfold Obligations.ResetMeetsEveryPromise
  exact ⟨by decide, by decide⟩

/-! ## The passing of time -/

/-- A command of a running part up to whose node time no close waits is taken at that node time (R1). -/
theorem RunsAt.taken (h : RunsAt t s) : advance t s = s.setNodeTime t := by
  obtain ⟨hrun, hlate, hmax, hclose⟩ := h
  exact advance_running hrun hlate hmax hclose

theorem RunsAt.running (h : RunsAt t s) : running (s.setNodeTime t) = true := by
  obtain ⟨hrun, -⟩ := h
  exact running_setNodeTime hrun t

theorem mem_onlyIf (b : Bool) (c d : Instr) : d ∈ onlyIf b c ↔ b = true ∧ d = c := by
  cases b <;> simp [onlyIf]

theorem sofFalls_iff (s : State) : sofFalls s = true ↔
    s.phase = .running ∧ s.slc.line = .idle ∧ active .lineSuppressed s = false ∧ s.slc.queue ≠ [] := by
  simp [sofFalls, maySend, running, suppressed, and_assoc]

/-- Of what falls due only the SOF is taken as a TRANSMIT_START (R31). -/
theorem transmitStart_mem_dueCommands (s : State) :
    .transmitStart s.nodeTime ∈ dueCommands s ↔ sofFalls s = true := by
  unfold dueCommands
  simp only [List.mem_append, mem_onlyIf, List.mem_map, reduceCtorEq, and_false, exists_false, false_or,
    and_true]

theorem filter_by_false {α : Type} (l : List α) : l.filter (fun _ => false) = [] :=
  List.filter_eq_nil_iff.mpr fun _ _ => Bool.false_ne_true

/-- Without power nothing falls due. -/
theorem dueCommands_powerUp (h : s.phase = .powerUp) : dueCommands s = [] := by
  have hsampling : sampling s = false := by simp [sampling, h]
  have hrunning : Machine.running s = false := by simp [Machine.running, h]
  have hread : readFalls s = false := by simp [readFalls, h]
  unfold dueCommands
  simp only [onlyIf, hread, missingFalls, hsampling, testFalls, hrunning, conflictFalls, heardFalls,
    statusFalls, silenceFalls, windowFalls, confirmFalls, stuckFalls, rearmFalls, driveFalls, filterFalls, ackFalls,
    gapFalls, holdTimeFalls, startFalls, resetFalls, settleFalls, backoffFalls, claimFalls, ownExpiryFalls, inrushFalls,
    restartGapFalls, attemptFalls, sofFalls, maySend, Bool.false_and, Bool.false_eq_true, if_false, filter_by_false,
    List.map_nil, List.append_nil]

theorem step_of_nothing_due (hp : s.pending = []) (hd : dueCommands s = []) : step s = .next (tick s) := by
  unfold step idle
  rw [hp]; dsimp only
  rw [hd]

theorem step_of_due (hp : s.pending = []) (hd : dueCommands s ≠ []) :
    ∃ c, c ∈ dueCommands s ∧ (step s = exec c s ∨ step s = exec c (drawn s)) := by
  unfold step idle
  rw [hp]; dsimp only
  split
  case h_1 hnone => exact absurd hnone hd
  case h_2 c hone => exact ⟨c, by rw [hone]; exact List.mem_singleton_self c, .inl rfl⟩
  case h_3 c d rest hmore =>
    refine ⟨_, ?_, .inr rfl⟩
    have hlt : Config.pickDue s.draws % (rest.length + 2) < (c :: d :: rest).length := Nat.mod_lt _ (Nat.succ_pos _)
    rw [hmore, List.getD_eq_getElem?_getD, List.getElem?_eq_getElem hlt]
    exact List.getElem_mem hlt

/-- A tick leaves the node time that stands, and adds one to it (R1). -/
theorem tick_eq (hp : s.phase ≠ .powerUp) (hm : s.nodeTime ≤ maxNodeTime) :
    tick s = (leaveNodeTime (s.nodeTime + 1) s).setNodeTime (min (s.nodeTime + 1) maxNodeTime) := by
  have hlate : max s.nodeTime (min (s.nodeTime + 1) maxNodeTime) = min (s.nodeTime + 1) maxNodeTime := by omega
  unfold tick advance
  rw [if_neg hp, hlate]

/-- Settles O2, by the cases of what has fallen due. -/
theorem idleStepTicksOrTakesADueDeadline : Obligations.IdleStepTicksOrTakesADueDeadline := by
  unfold Obligations.IdleStepTicksOrTakesADueDeadline
  intro s hpending
  refine ⟨fun hp => ?unpowered, fun hp hm hd hcalm => ?ticks, fun hp hm hd hwaits => ?closes, ?sof, step_of_due hpending⟩
  case unpowered =>
    rw [step_of_nothing_due hpending (dueCommands_powerUp hp), tick, advance, if_pos hp]
  case ticks =>
    have hleave : leaveNodeTime (s.nodeTime + 1) s = s := by
      rcases hcalm with hr | hc
      · simp [leaveNodeTime, hr]
      · exact leaveNodeTime_calm hc _
    rw [step_of_nothing_due hpending hd, tick_eq hp hm, hleave]
    rfl
  case closes =>
    have hleave : leaveNodeTime (s.nodeTime + 1) s = takeClose s := by
      simp [leaveNodeTime, takeWaitingClose, hp, hwaits]
    rw [step_of_nothing_due hpending hd, tick_eq (by rw [hp]; decide) hm, hleave]
    rfl
  case sof => rw [transmitStart_mem_dueCommands, sofFalls_iff]

/-! ## The line states -/

/-- A setting of the line state under a condition, as one record. -/
theorem setLine_if (p : Prop) [Decidable p] (l : LineState) (s : State) :
    (if p then setLine l s else s) = s.setSlc { s.slc with line := if p then l else s.slc.line } := by
  split <;> rfl

/-- A part that reads its record or is running takes the node time of a command of the line (R1, R187). -/
theorem advance_lineUp (h : RunsAt t s ∨ (s.phase = .readRecord ∧ s.nodeTime ≤ t ∧ t ≤ maxNodeTime)) :
    advance t s = s.setNodeTime t ∧ lineUp (s.setNodeTime t) = true := by
  rcases h with h | ⟨hp, hlate, hmax⟩
  · exact ⟨h.taken, by simp [lineUp, h.1]⟩
  · exact ⟨advance_starting (by rw [hp]; decide) (by rw [hp]; decide) hlate hmax, by simp [lineUp, hp]⟩

/-- Settles O12: each command by the line states in which it moves the line. -/
theorem lineStatesFollowTheLine : Obligations.LineStatesFollowTheLine := by
  unfold Obligations.LineStatesFollowTheLine
  intro t s h
  obtain ⟨hadv, hup⟩ := advance_lineUp h
  refine ⟨?idle, ?sof, ?dominant, ?ignored⟩
  case idle =>
    have hexec : exec (.lineIdle t) s = .next (lineIdle (advance t s)) := rfl
    simp only [hexec, hadv, lineIdle, hup, Bool.true_and, Bool.or_eq_true, beq_iff_eq, setLine_if]
    rfl
  case sof =>
    have hexec : exec (.otherStationSof t) s = .next (otherStationSof (advance t s)) := rfl
    simp only [hexec, hadv, otherStationSof, hup, Bool.true_and, beq_iff_eq, State.setNodeTime_slc]
    split <;> rfl
  case dominant =>
    have hexec : exec (.dominantBitBeforeIdle t) s = .next (dominantBitBeforeIdle (advance t s)) := rfl
    simp only [hexec, hadv, dominantBitBeforeIdle, hup, Bool.true_and, beq_iff_eq, setLine_if]
    rfl
  case ignored =>
    have hexec : exec (.ignoredFrame t) s = .next (ignoredFrame (advance t s)) := rfl
    simp only [hexec, hadv, ignoredFrame, hup, Bool.true_and, beq_iff_eq, setLine_if]
    rfl

/-! ## A field out of range -/

/-- A frame with a field out of range is taken as a FORM error (R37). -/
theorem arrive_outOfRange (i : StationId) (deliver : State → State) (s : State) :
    arrive false i deliver s = receiveErrorEvent .form s := rfl

/-- A received frame of any class goes its way by its range check alone (R37, R41). -/
theorem exec_frame {c : Instr} {i : StationId} (h : frameArrival c = some (t, i)) (ht : t ≤ maxNodeTime) (s : State) :
    ∃ deliver, Delivery deliver ∧ exec c s = .next (arrive c.wellFormed i deliver (advance t s)) := by
  have hok : timeOk t = true := decide_eq_true ht
  cases c <;> simp only [frameArrival, Option.some.injEq, Prod.mk.injEq, reduceCtorEq] at h <;> obtain ⟨rfl, rfl⟩ := h <;>
    simp only [Instr.wellFormed, hok, Bool.true_and]
  case tripFrame p => exact ⟨_, .trip p, rfl⟩
  case observeFrame p => exact ⟨_, .observe _ p, rfl⟩
  case claimFrame p => exact ⟨_, .claim _ p, rfl⟩
  case releaseFrame p => exact ⟨_, .release _ p, rfl⟩
  case statusFrame p => exact ⟨_, .status _ p, rfl⟩
  case permit p => exact ⟨_, .command 1 _ p .permit, rfl⟩
  case hold p => exact ⟨_, .command 2 _ p .hold, rfl⟩
  case resume p => exact ⟨_, .command 3 _ p .resume, rfl⟩
  case shutdown p => exact ⟨_, .command 4 _ p .shutdown, rfl⟩
  case test p => exact ⟨_, .command 5 _ p .test, rfl⟩
  case mode p => exact ⟨_, .command 6 _ p (.mode _), rfl⟩
  case ackFaults p => exact ⟨_, .command 7 _ p .ackFaults, rfl⟩
  case report p => exact ⟨_, .command 8 _ p .report, rfl⟩

/-- Settles O20. -/
theorem fieldOutOfRangeIsAFormError : Obligations.FieldOutOfRangeIsAFormError := by
  unfold Obligations.FieldOutOfRangeIsAFormError
  intro c t i s hc ht hform
  obtain ⟨deliver, -, hexec⟩ := exec_frame hc ht s
  rw [hexec, hform, arrive_outOfRange]
  rfl

end Sys2Proof.Machine

/-! Sending: the SOF, an attempt that fails and a frame that completes (sections 2.5 and 2.8). -/

namespace Sys2Proof.Machine

variable {s : State} {t : Nat}

/-! ## STATUS -/

/-- The bit of a channel in a set of channels (R54). -/
theorem getLsbD_foldl_channels (f : Channel → Bool) (c : Channel) (l : List Channel) (b : BitVec 16) :
    (l.foldl (fun b d => if f d then b ||| BitVec.twoPow 16 d.val else b) b).getLsbD c.val =
      (b.getLsbD c.val || (decide (c ∈ l) && f c)) := by
  induction l generalizing b with
  | nil => simp
  | cons d l ih =>
    have hc : c.val < 16 := c.isLt
    rw [List.foldl_cons, ih]
    by_cases hd : c = d
    · subst hd; cases hf : f c <;> simp [hc]
    · have hval : ¬c.val = d.val := fun h => hd (Fin.ext h)
      split <;> simp [hd, hval]

theorem mem_allChannels (c : Channel) : c ∈ allChannels := by revert c; decide

theorem getLsbD_channelBits (f : Channel → Bool) (c : Channel) : (channelBits f).getLsbD c.val = f c := by
  unfold channelBits
  rw [getLsbD_foldl_channels]
  simp [mem_allChannels]

theorem isUnconfirmed_iff (s : State) (c : Channel) :
    isUnconfirmed s c = true ↔ ∃ r, chan s c = some r ∧ r.conf = .unconfirmed := by
  unfold isUnconfirmed
  cases chan s c <;> simp

theorem isDisagree_iff (s : State) (c : Channel) :
    isDisagree s c = true ↔ ∃ r, chan s c = some r ∧ r.disagree = true := by
  unfold isDisagree
  cases chan s c <;> simp

/-! ## The SOF -/

theorem exec_transmitStart (h : RunsAt t s) : exec (.transmitStart t) s = .next (transmitStart (s.setNodeTime t)) := by
  have hexec : exec (.transmitStart t) s = .next (transmitStart (advance t s)) := rfl
  rw [hexec, h.taken]

theorem maySend_setNodeTime (h : RunsAt t s) :
    maySend (s.setNodeTime t) = true ↔ s.slc.line = .idle ∧ active .lineSuppressed s = false := by
  have hsup : suppressed (s.setNodeTime t) = active .lineSuppressed s := rfl
  simp [maySend, h.running, hsup]

/-- Settles O13: the SOF by whether one may start, and STATUS field by field. -/
theorem transmitStartSendsTheFirstEntry : Obligations.TransmitStartSendsTheFirstEntry := by
  unfold Obligations.TransmitStartSendsTheFirstEntry
  refine ⟨fun t s h => ⟨fun e rest hq hl hx => ?sends, fun hnot => ?waits⟩,
    fun s => ⟨rfl, fun c => ?unconfirmed, fun c => ?disagree⟩⟩
  case sends =>
    have hq' : (s.setNodeTime t).slc.queue = e :: rest := hq
    rw [exec_transmitStart h, transmitStart, if_pos ((maySend_setNodeTime h).mpr ⟨hl, hx⟩), hq']
    cases e <;> rfl
  case waits =>
    rw [exec_transmitStart h, transmitStart]
    by_cases hs : maySend (s.setNodeTime t) = true
    · obtain ⟨hl, hx⟩ := (maySend_setNodeTime h).mp hs
      have hq : (s.setNodeTime t).slc.queue = [] := by
        rcases hnot with hl' | hx' | hq
        · exact absurd hl hl'
        · rw [hx] at hx'; cases hx'
        · exact hq
      rw [if_pos hs, hq]; rfl
    · rw [if_neg hs]; rfl
  case unconfirmed =>
    have hbits : (composeStatus s).unconfirmed = channelBits (isUnconfirmed s) := rfl
    rw [hbits, getLsbD_channelBits, isUnconfirmed_iff]
  case disagree =>
    have hbits : (composeStatus s).disagree = channelBits (isDisagree s) := rfl
    rw [hbits, getLsbD_channelBits, isDisagree_iff]

/-! ## An attempt that fails -/

theorem exec_arbitrationLost (h : RunsAt t s) :
    exec (.arbitrationLost t) s = .next (arbitrationLost (s.setNodeTime t)) := by
  have hexec : exec (.arbitrationLost t) s = .next (arbitrationLost (advance t s)) := rfl
  rw [hexec, h.taken]

theorem exec_bitError (h : RunsAt t s) : exec (.bitError t) s = .next (bitError (s.setNodeTime t)) := by
  have hexec : exec (.bitError t) s = .next (bitError (advance t s)) := rfl
  rw [hexec, h.taken]

/-- An error at a score below 120 raises it by 8 and begins no suppression (R39, R40). -/
theorem scoreUp_low (kind : ErrKind) (h : s.slc.score < 120) :
    scoreUp kind s = s.setSlc { s.slc with score := s.slc.score + 8, lastError := kind } := by
  have hmin : min 255 (s.slc.score + 8) = s.slc.score + 8 := by omega
  have hlow : ¬128 ≤ s.slc.score + 8 := by omega
  unfold scoreUp
  simp only [hmin, State.setSlc_slc, hlow, and_false, if_false]

theorem failAttempt_of_some {a : Attempt} (h : s.slc.inFlight = some a) :
    failAttempt s = s.setSlc { s.slc with queue := queueAfterFailure a s.slc.queue, inFlight := none } := by
  unfold failAttempt; rw [h]

/-- A RELEASE tied to a CLAIM in flight leaves the queue with the attempt, and otherwise the queue stands (R49). -/
theorem queueAfterFailure_eq (a : Attempt) (q : List TxEntry) : queueAfterFailure a q =
    if a.releaseTied = true then
      match a.copy.body with
      | .claim p => q.filter (fun e => match e with | .release n _ => n != p.number | _ => true)
      | _ => q
    else q := by
  unfold queueAfterFailure
  cases a.releaseTied <;> cases a.copy.body <;> rfl

/-- Settles O14. -/
theorem attemptThatFails : Obligations.AttemptThatFails := by
  unfold Obligations.AttemptThatFails
  intro t a s h hl hf left
  have hleft : left = queueAfterFailure a s.slc.queue := (queueAfterFailure_eq a s.slc.queue).symm
  have hl' : (s.setNodeTime t).slc.line = .sending := hl
  have hf' : (s.setNodeTime t).slc.inFlight = some a := hf
  rw [hleft]
  refine ⟨?lost, fun hlow => ?error⟩
  case lost => rw [exec_arbitrationLost h, arbitrationLost, if_pos hl', failAttempt_of_some hf']; rfl
  case error =>
    rw [exec_bitError h, bitError, if_pos hl', failAttempt_of_some hf', scoreUp_low .bit (by exact hlow)]; rfl

/-! ## Errors that begin suppression -/

theorem exec_receiveError (h : RunsAt t s) (hl : s.slc.line = .receiving) (kind : RxError) :
    exec (.receiveError t kind) s =
      .next (claimReceiveError (scoreUp (rxErrKind kind) (setLine .seeking (s.setNodeTime t)))) := by
  have hexec : exec (.receiveError t kind) s = .next (receiveErrorEvent kind (advance t s)) := rfl
  have hrun : s.phase = .running := h.1
  rw [hexec, h.taken]
  simp [receiveErrorEvent, takeReceiveError, lineUp, running, setLine, hl, hrun]

theorem claimReceiveError_eq (s : State) : claimReceiveError s =
    s.setIcu { s.icu with settleError := s.icu.settleError || s.icu.own == .settling } := by
  unfold claimReceiveError
  split
  case isTrue h => simp [h]
  case isFalse h =>
    have hno : (s.icu.own == .settling) = false := beq_eq_false_iff_ne.mpr h
    rw [hno, Bool.or_false]; rfl

/-- An error at a score of 120 or more (R40). -/
structure BeginsSuppression (kind : ErrKind) (t : Nat) (s u : State) : Prop where
  around : SameAround s u
  time : u.nodeTime = t
  line : u.slc.line = .seeking
  score : u.slc.score = min 255 (s.slc.score + 8)
  suppressed : active .lineSuppressed u = true
  silent : maySend u = false
  kind : u.slc.lastError = kind

theorem arrivalKept_scoreUp (kind : ErrKind) (s : State) :
    arrivalKept (scoreUp kind s) = arrivalKept (s.setSlc { s.slc with lastError := kind }) := by
  unfold scoreUp raiseLineFault; dsimp only; split
  · rw [arrivalKept_of_voteKept (voteKept_of_zoneKept (zoneKept_lineChange _ _)), raiseFault_eq]; rfl
  · rfl

theorem scoreUp_beginsSuppression (kind : ErrKind) {v : State} (hv : v.slc.line = .seeking)
    (hs : 120 ≤ v.slc.score) : BeginsSuppression kind v.nodeTime v (scoreUp kind v) := by
  obtain ⟨hline, hscore, -, hsup⟩ := scoreUp_line kind v
  have kept := arrivalKept_scoreUp kind v
  have hidle : ((scoreUp kind v).slc.line == .idle) = false := by rw [hline, hv]; rfl
  exact {
    around := ⟨(congrArg (fun x => x.pins) kept :), (congrArg (fun x => x.phase) kept :),
      (congrArg (fun x => x.pending) kept :)⟩
    time := (congrArg (fun x => x.nodeTime) kept :)
    line := hline.trans hv
    score := hscore
    suppressed := by
      refine Eq.trans hsup ?_
      rw [decide_eq_true (by omega), Bool.or_true]
    silent := by rw [maySend, hidle, Bool.and_false, Bool.false_and]
    kind := (congrArg (fun x => x.slc.lastError) kept :) }

/-- Settles O15: below 120 by the score alone, from 120 on by the suppression that begins. -/
theorem errorsRaiseTheScore : Obligations.ErrorsRaiseTheScore := by
  unfold Obligations.ErrorsRaiseTheScore
  refine ⟨fun t kind s h hl hlow => ?low, fun t kind s h hl hs => ?received, fun t s h hl hs => ?sent⟩
  case low =>
    rw [exec_receiveError h hl, scoreUp_low _ (by exact hlow), claimReceiveError_eq]
    cases kind <;> rfl
  case received =>
    obtain ⟨around, time, line, score, hsup, silent, hkind⟩ := scoreUp_beginsSuppression (rxErrKind kind)
      (v := setLine .seeking (s.setNodeTime t)) rfl (by exact hs)
    refine ⟨_, exec_receiveError h hl kind, ?_⟩
    rw [claimReceiveError_eq]
    exact ⟨around, time, line, score, hsup, silent, hkind.trans (by cases kind <;> rfl)⟩
  case sent =>
    have hl' : (s.setNodeTime t).slc.line = .sending := hl
    obtain ⟨l, hfail, hscore'⟩ : ∃ l : LineCtl, failAttempt (s.setNodeTime t) = (s.setNodeTime t).setSlc l ∧
      l.score = s.slc.score := ⟨_, failAttempt_eq _, rfl⟩
    obtain ⟨around, time, line, score, hsup, silent, hkind⟩ := scoreUp_beginsSuppression .bit
      (v := setLine .seeking ((s.setNodeTime t).setSlc l)) rfl (hscore' ▸ hs)
    refine ⟨_, exec_bitError h, ?_⟩
    rw [bitError, if_pos hl', hfail]
    exact ⟨around, time, line, hscore' ▸ score, hsup, silent, hkind⟩

/-! ## A frame that completes -/

theorem scoreDown_free (h : active .lineSuppressed s = false) :
    scoreDown s = s.setSlc { s.slc with score := s.slc.score - 1 } := by
  have hsup : suppressed (s.setSlc { s.slc with score := s.slc.score - 1 }) = false := h
  unfold scoreDown
  simp only [hsup, Bool.false_eq_true, false_and, if_false]

theorem exec_frameCompleted (h : RunsAt t s) :
    exec (.frameCompleted t) s = .next (frameCompleted (s.setNodeTime t)) := by
  have hexec : exec (.frameCompleted t) s = .next (frameCompleted (advance t s)) := rfl
  rw [hexec, h.taken]

/-- The line after the completion of an attempt at a node that is not suppressed (R39, R43, R47). -/
def lineCompleted (t : Nat) (a : Attempt) (l : LineCtl) : LineCtl :=
  { l with
    line := .counting, tEnd := t, score := l.score - 1, inFlight := none
    queue := if a.fate = .unchanged then dropClass (bodyClass a.copy.body) l.queue else l.queue }

theorem exec_frameCompleted_free {a : Attempt} (h : RunsAt t s) (hl : s.slc.line = .sending)
    (hf : s.slc.inFlight = some a) (hx : active .lineSuppressed s = false) :
    exec (.frameCompleted t) s =
      .next (reportCompletion (some a) { s with nodeTime := t, slc := lineCompleted t a s.slc }) := by
  have hl' : (s.setNodeTime t).slc.line = .sending := hl
  rw [exec_frameCompleted h, frameCompleted, if_pos hl']
  dsimp only
  rw [scoreDown_free (by exact hx)]
  unfold completeAttempt
  simp only [State.setSlc_slc, State.setNodeTime_slc, hf]
  rfl

/-- A completed CLAIM that is still wanted settles (R159). -/
theorem claimCompleted_wanted {n tEnd : Nat} (hown : s.icu.own = .queued) (hn : n = s.icu.lastNumber) :
    claimCompleted n tEnd s = s.setIcu { s.icu with
      list := s.icu.list.filter (fun e => e.station != s.rcp.stationId) ++
        [{ station := s.rcp.stationId, number := n, weight := s.icu.weight, completion := tEnd,
           expiry := tEnd + s.icu.duration * 1000 }]
      own := .settling, settleDue := some (tEnd + (cfg s).ts), settleError := false
      ownExpiry := some (tEnd + s.icu.duration * 1000) } := if_pos ⟨hown, hn⟩

theorem claimCompleted_unwanted {n tEnd : Nat} (h : s.icu.own ≠ .queued ∨ n ≠ s.icu.lastNumber) :
    claimCompleted n tEnd s = s := by
  refine if_neg fun hw => ?_
  rcases h with h | h
  · exact h hw.1
  · exact h hw.2

/-- A completion of any other frame, or of a CLAIM that is no longer wanted, is no event of the ICU (R43, R159). -/
theorem reportCompletion_unwanted {a : Attempt}
    (h : ∀ p, a.copy.body = .claim p → s.icu.own ≠ .queued ∨ p.number ≠ s.icu.lastNumber) :
    reportCompletion (some a) s = s := by
  unfold reportCompletion
  dsimp only
  split
  case h_1 p hp => exact claimCompleted_unwanted (h p hp)
  all_goals rfl

theorem reportCompletion_claim {a : Attempt} {p : ClaimPayload} (h : a.copy.body = .claim p) :
    reportCompletion (some a) s = claimCompleted p.number s.nodeTime s := by
  unfold reportCompletion
  dsimp only
  rw [h]

/-- Settles O16: the completion of an attempt, then its report to the ICU by whether the claim is still wanted. -/
theorem frameThatCompletes : Obligations.FrameThatCompletes := by
  unfold Obligations.FrameThatCompletes
  intro t a s h hl hf hx after
  rw [exec_frameCompleted_free h hl hf hx]
  refine ⟨fun hnot => ?unwanted, fun p hp hown hn => ?wanted⟩
  case unwanted =>
    rw [reportCompletion_unwanted (by exact hnot)]
    rfl
  case wanted =>
    rw [reportCompletion_claim hp, claimCompleted_wanted (by exact hown) (by exact hn)]
    rfl

end Sys2Proof.Machine

/-! What the zone, a vote and a trip leave of the queue, of Ta and of the site's presence: facts about every operation
that is made of the zone's own elementary changes. -/

namespace Sys2Proof.Machine

/-- The entries of a class, in their order. -/
def ofClass (c : Nat) (q : List TxEntry) : List TxEntry := q.filter (fun e => entryClass e == c)

theorem mem_ofClass (e : TxEntry) (c : Nat) (q : List TxEntry) : e ∈ ofClass c q ↔ e ∈ q ∧ entryClass e = c := by
  simp [ofClass]

theorem ofClass_insertEntry {c : Nat} {e : TxEntry} (h : entryClass e ≠ c) (q : List TxEntry) :
    ofClass c (insertEntry e q) = ofClass c q := by
  induction q with
  | nil => simp [insertEntry, ofClass, h]
  | cons x xs ih =>
    unfold insertEntry
    split
    · simp [ofClass, h]
    · unfold ofClass at ih ⊢
      rw [List.filter_cons, List.filter_cons, ih]

theorem ofClass_dropClass {c d : Nat} (h : d ≠ c) (q : List TxEntry) : ofClass c (dropClass d q) = ofClass c q := by
  unfold ofClass dropClass
  rw [List.filter_filter]
  refine List.filter_congr fun x _ => ?_
  by_cases hx : entryClass x = c
  · simp [hx, h.symm]
  · simp [hx]

theorem ofClass_replaceEntry {c : Nat} {e : TxEntry} (h : entryClass e ≠ c) (q : List TxEntry) :
    ofClass c (replaceEntry e q) = ofClass c q := by
  induction q with
  | nil => rfl
  | cons x xs ih =>
    unfold ofClass replaceEntry at ih ⊢
    rw [List.map_cons, List.filter_cons, List.filter_cons, ih]
    by_cases hx : entryClass x = entryClass e
    · simp [hx, h]
    · simp [hx]

/-- Placing a frame leaves the entries of every other class but STATUS, which an overflow displaces (R51). -/
theorem ofClass_place {c : Nat} {e : TxEntry} (h : entryClass e ≠ c) (hc : c ≠ 5) (s : State) :
    ofClass c (place e s).slc.queue = ofClass c s.slc.queue := by
  unfold place
  repeat' split
  · exact ofClass_replaceEntry h _
  · exact ofClass_insertEntry h _
  · exact (ofClass_insertEntry h _).trans (ofClass_dropClass hc.symm _)
  · rfl

theorem ofClass_queueRelease {c : Nat} (h : c ≠ 2) (h' : c ≠ 3) (hc : c ≠ 5) (n : Nat) (r : ReleaseReason) (s : State) :
    ofClass c (queueRelease n r s).slc.queue = ofClass c s.slc.queue := by
  unfold queueRelease
  repeat' split
  · exact (ofClass_place (e := .release n r) h'.symm hc _).trans (ofClass_dropClass h.symm _)
  · exact ofClass_dropClass h.symm _
  · exact ofClass_place (e := .release n r) h'.symm hc _

/-- Following a fault changes the HM and nothing else. -/
theorem followFault_eq (f : FaultId) (b : Bool) (s : State) : followFault f b s = s.setHm (followFault f b s).hm := by
  unfold followFault; repeat' split
  · rfl
  · exact raiseFault_eq f s
  · exact clearFault_eq f s
  · rfl

namespace ZoneMoves

variable {s u : State}

theorem kept (h : ZoneMoves s u) : zoneKept u = zoneKept s := by
  induction h with
  | refl => rfl
  | byZs _ _ _ _ ih | byCd _ _ ih | byIcu _ _ ih => exact ih
  | byUnconfirmed v _ ih => rw [zoneKept_followFault]; exact ih
  | byStatus _ ih => rw [zoneKept_queueStatus]; exact ih
  | byClaim n w d _ ih => rw [zoneKept_place]; exact ih
  | byRelease n r _ ih => rw [zoneKept_queueRelease]; exact ih
  | byClose _ ih => rw [zoneKept_rcpClose]; exact ih

/-- Ta and the console hold stand (R131, R148). -/
theorem ta_consoleHold (h : ZoneMoves s u) : u.zs.ta = s.zs.ta ∧ u.zs.consoleHold = s.zs.consoleHold := by
  induction h with
  | refl => exact ⟨rfl, rfl⟩
  | byZs _ ht hc _ ih => exact ⟨ht.trans ih.1, hc.trans ih.2⟩
  | byCd _ _ ih | byIcu _ _ ih => exact ih
  | byUnconfirmed v _ ih => rw [followFault_eq]; exact ih
  | byStatus _ ih => unfold queueStatus; rw [place_eq]; exact ih
  | byClaim n w d _ ih => rw [place_eq]; exact ih
  | byRelease n r _ ih => rw [queueRelease_eq]; exact ih
  | byClose _ ih => rw [rcpClose_eq]; exact ih

/-- The zone never goes back to UNCONFIGURED (R115). -/
theorem configured (h : ZoneMoves s u) (hs : s.zs.st ≠ .unconfigured) : u.zs.st ≠ .unconfigured := by
  induction h with
  | refl => exact hs
  | byZs _ _ _ hz ih => exact hz.elim (fun h => h ▸ ih) id
  | byCd _ _ ih | byIcu _ _ ih => exact ih
  | byUnconfirmed v _ ih => rw [followFault_eq]; exact ih
  | byStatus _ ih => unfold queueStatus; rw [place_eq]; exact ih
  | byClaim n w d _ ih => rw [place_eq]; exact ih
  | byRelease n r _ ih => rw [queueRelease_eq]; exact ih
  | byClose _ ih => rw [rcpClose_eq]; exact ih

/-- The zone queues and removes neither TRIP nor OBSERVE. -/
theorem queue (h : ZoneMoves s u) {c : Nat} (hc : c ≤ 1) : ofClass c u.slc.queue = ofClass c s.slc.queue := by
  induction h with
  | refl => rfl
  | byZs _ _ _ _ ih | byCd _ _ ih | byIcu _ _ ih => exact ih
  | byUnconfirmed v _ ih => rw [followFault_eq]; exact ih
  | byStatus _ ih => exact (ofClass_place (e := .status) (show 5 ≠ c by omega) (by omega) _).trans ih
  | byClaim n w d _ ih => exact (ofClass_place (e := .claim n w d) (show 2 ≠ c by omega) (by omega) _).trans ih
  | byRelease n r _ ih => exact (ofClass_queueRelease (by omega) (by omega) (by omega) n r _).trans ih
  | byClose _ ih => rw [rcpClose_eq]; exact ih

end ZoneMoves

end Sys2Proof.Machine

/-! Votes and trips: what each of them does to the flag, the queue, Ta and the record, whatever the zone then does
(sections 4.1 to 4.6). -/

namespace Sys2Proof.Machine

variable {s u v : State}

namespace ZoneMoves

theorem lastTripReq (h : ZoneMoves s u) : u.rcp.lastTripReq = s.rcp.lastTripReq := by
  induction h with
  | refl => rfl
  | byZs _ _ _ _ ih | byCd _ _ ih | byIcu _ _ ih => exact ih
  | byUnconfirmed v _ ih => rw [followFault_eq]; exact ih
  | byStatus _ ih => unfold queueStatus; rw [place_eq]; exact ih
  | byClaim n w d _ ih => rw [place_eq]; exact ih
  | byRelease n r _ ih => rw [queueRelease_eq]; exact ih
  | byClose _ ih =>
    refine Eq.trans ?_ ih
    unfold rcpClose; repeat' split
    · exact takeClose_lastTripReq _
    · rfl
    · exact takeClose_lastTripReq _

theorem nodeTime (h : ZoneMoves s u) : u.nodeTime = s.nodeTime := (zoneKept_fields h.kept).1

/-- Behind a trip request of now no close waits (R196). -/
theorem closed (h : ZoneMoves s u) (hl : s.rcp.lastTripReq = some s.nodeTime) (hs : s.rcp.closeWaits = false) :
    u.rcp.closeWaits = false := by
  induction h with
  | refl => exact hs
  | byZs _ _ _ _ ih | byCd _ _ ih | byIcu _ _ ih => exact ih
  | byUnconfirmed v _ ih => rw [followFault_eq]; exact ih
  | byStatus _ ih => unfold queueStatus; rw [place_eq]; exact ih
  | byClaim n w d _ ih => rw [place_eq]; exact ih
  | byRelease n r _ ih => rw [queueRelease_eq]; exact ih
  | @byClose u h _ =>
    have hvoid : u.rcp.lastTripReq = some u.nodeTime := h.lastTripReq.trans (hl.trans (congrArg some h.nodeTime.symm))
    have hnot : ¬(u.rcp.record.isOpen = true ∧ u.rcp.lastTripReq ≠ some u.nodeTime) := fun hw => hw.2 hvoid
    rw [rcpClose, if_neg hnot]
    exact takeClose_closeWaits u

end ZoneMoves

/-! ## The trip of the zone and the request of the record -/

/-- Ta and the site grade as a trip leaves them (R90, R131, R133). -/
def tripZone (g : Nat) (s : State) : State :=
  s.setZs { s.zs with ta := max s.zs.ta s.nodeTime, grade := max s.zs.grade g }

theorem zsTrip_unconfigured (h : s.zs.st = .unconfigured) (g : Nat) : zsTrip g s = s := if_pos h

theorem zsTrip_configured (h : s.zs.st ≠ .unconfigured) (g : Nat) : zsTrip g s = tripEffect (tripZone g s) := if_neg h

theorem zsTrip_moves (h : s.zs.st ≠ .unconfigured) (g : Nat) : ZoneMoves (tripZone g s) (zsTrip g s) := by
  rw [zsTrip_configured h]
  exact ZoneMoves.refl.hasTripEffect

/-- What a trip of the zone does, in whichever state: Ta is now, and the rest is the zone's own. -/
theorem zsTrip_facts (g : Nat) (s : State) :
    (∀ c ≤ 1, ofClass c (zsTrip g s).slc.queue = ofClass c s.slc.queue) ∧
      (s.zs.st ≠ .unconfigured → (zsTrip g s).zs.st ≠ .unconfigured ∧ (zsTrip g s).zs.ta = max s.zs.ta s.nodeTime) ∧
      (zsTrip g s).rcp.lastTripReq = s.rcp.lastTripReq := by
  by_cases h : s.zs.st = .unconfigured
  · rw [zsTrip_unconfigured h]; exact ⟨fun _ _ => rfl, fun hn => absurd h hn, rfl⟩
  · have moves := zsTrip_moves h g
    exact ⟨fun c hc => moves.queue hc, fun _ => ⟨moves.configured h, moves.ta_consoleHold.1⟩, moves.lastTripReq⟩

/-- A trip request changes the record alone, and is held as the last one (R91, R196). -/
theorem rcpTrip_facts (own origin : Cause) (votes grade : Nat) (l : List StationId) (s : State) :
    rcpTrip own origin votes grade l s = s.setRcp (rcpTrip own origin votes grade l s).rcp ∧
      (rcpTrip own origin votes grade l s).rcp.lastTripReq = some s.nodeTime ∧
      (rcpTrip own origin votes grade l s).rcp.record =
        { recordAfterTrip own origin votes grade l s.rcp.record with
          sequence := (rcpTrip own origin votes grade l s).rcp.record.sequence } ∧
      (rcpTrip own origin votes grade l s).rcp.closeWaits = s.rcp.closeWaits := by
  refine ⟨rcpTrip_eq .., ?_⟩
  unfold rcpTrip
  obtain ⟨hr, hw, hl⟩ := setRecord_rcp (recordAfterTrip own origin votes grade l s.rcp.record)
    (s.setRcp { s.rcp with lastTripReq := some s.nodeTime })
  exact ⟨hl, hr, hw⟩

/-! ## A trip in ARMED mode -/

/-- `s` with the flag cleared, the TRIP queued and the drive started, before a trip is handed on (R83, R88, R89). -/
def tripSent (own origin : Cause) (votes grade : Nat) (s : State) : State :=
  let s1 := place (.trip own origin votes grade s.nodeTime) (disarm s)
  drawn (if own = .wire then s1 else startDrive s1)

theorem tripArmed_eq (own origin : Cause) (votes received : Nat) (s : State) :
    ∃ first, tripArmed own origin votes received s =
      settleClose (inEitherOrder first (zsTrip (tripGrade received s))
        (rcpTrip own origin votes (tripGrade received s) (countedSet s))
        (tripSent own origin votes (tripGrade received s) s)) := ⟨_, rfl⟩

/-- The VTU after a trip in ARMED mode (R83, R89). -/
def vtuTripped (own : Cause) (s : State) : VoteState :=
  { s.vtu with
    armed := false, lastTrip := some s.nodeTime, rearmDue := some (s.nodeTime + (cfg s).hw)
    driving := if own = .wire then s.vtu.driving else true
    driveDue := if own = .wire then s.vtu.driveDue else some (s.nodeTime + (cfg s).hw) }

/-- Placing a frame changes the line's record alone, and reads nothing else. -/
theorem place_setSlc (e : TxEntry) (s : State) : place e s = s.setSlc (place e s).slc := by
  unfold place
  repeat' split
  all_goals rfl

theorem place_slc (e : TxEntry) (h : u.slc = s.slc) : (place e u).slc = (place e s).slc := by
  unfold place
  rw [h]
  repeat' split
  · rfl
  · rfl
  · rfl
  · exact h

/-- Sending a trip changes the VTU, the queue and the count of draws, and nothing else. -/
theorem tripSent_eq (own origin : Cause) (votes grade : Nat) (s : State) :
    tripSent own origin votes grade s = (drawn (place (.trip own origin votes grade s.nodeTime) s)).setVtu
      (vtuTripped own s) := by
  have hslc := place_slc (.trip own origin votes grade s.nodeTime) (u := disarm s) (s := s) rfl
  unfold tripSent
  rw [place_setSlc, hslc, place_setSlc _ s]
  by_cases h : own = .wire
  · simp only [vtuTripped, if_pos h]; rfl
  · simp only [vtuTripped, if_neg h]; rfl

theorem inEitherOrder_of {P : State → Prop} {f g : State → State} (first : Bool) (hfg : P (g (f s))) (hgf : P (f (g s))) :
    P (inEitherOrder first f g s) := by
  unfold inEitherOrder
  split
  · exact hfg
  · exact hgf

/-- A trip request of now has been taken, with Ta at now and the frames of the queue as `s` has them (R90, R91). -/
structure HandedOn (s u : State) : Prop where
  kept : zoneKept u = zoneKept s
  request : u.rcp.lastTripReq = some s.nodeTime
  queue : ∀ c ≤ 1, ofClass c u.slc.queue = ofClass c s.slc.queue
  zone : s.zs.st ≠ .unconfigured → u.zs.st ≠ .unconfigured ∧ u.zs.ta = max s.zs.ta s.nodeTime

theorem HandedOn.ofOrders (g : Nat) (own origin : Cause) (votes : Nat) (l : List StationId) (first : Bool) (s : State) :
    HandedOn s (inEitherOrder first (zsTrip g) (rcpTrip own origin votes g l) s) := by
  refine inEitherOrder_of first ?zoneFirst ?recordFirst
  case zoneFirst =>
    obtain ⟨hqueue, hzone, -⟩ := zsTrip_facts g s
    obtain ⟨heq, hlast, -⟩ := rcpTrip_facts own origin votes g l (zsTrip g s)
    have htime : (zsTrip g s).nodeTime = s.nodeTime := (zoneKept_fields (zoneKept_zsTrip g s)).1
    refine ⟨by rw [zoneKept_rcpTrip, zoneKept_zsTrip], hlast.trans (congrArg some htime), ?_, ?_⟩
    · rw [heq]; exact hqueue
    · rw [heq]; exact hzone
  case recordFirst =>
    obtain ⟨heq, hlast, -⟩ := rcpTrip_facts own origin votes g l s
    obtain ⟨hqueue, hzone, hreq⟩ := zsTrip_facts g (rcpTrip own origin votes g l s)
    refine ⟨by rw [zoneKept_zsTrip, zoneKept_rcpTrip], hreq.trans hlast, ?_, ?_⟩
    · rw [heq] at hqueue ⊢; exact hqueue
    · rw [heq] at hzone ⊢; exact hzone

theorem takeWaitingClose_lastTripReq (s : State) : (takeWaitingClose s).rcp.lastTripReq = s.rcp.lastTripReq := by
  unfold takeWaitingClose
  split
  · exact takeClose_lastTripReq s
  · rfl

/-- A close that still waits is void behind the trip request, and hands over no more than a grade (R196). -/
theorem HandedOn.settlesClose {x : State} (h : HandedOn s x) :
    HandedOn s (settleClose x) ∧ (settleClose x).rcp.closeWaits = false := by
  unfold settleClose
  split
  case isFalse hw => exact ⟨h, by simpa using hw⟩
  case isTrue =>
    have moves : ZoneMoves (takeWaitingClose x) (recomputeHold (takeWaitingClose x)) := ZoneMoves.refl.recomputesHold
    have htime : (takeWaitingClose x).nodeTime = s.nodeTime := by
      rw [takeWaitingClose_eq]; exact (zoneKept_fields h.kept).1
    have hreq : (takeWaitingClose x).rcp.lastTripReq = some s.nodeTime := (takeWaitingClose_lastTripReq x).trans h.request
    refine ⟨⟨?_, moves.lastTripReq.trans hreq, fun c hc => ?_, fun hs => ⟨?_, ?_⟩⟩,
      moves.closed (hreq.trans (congrArg some htime.symm)) (takeWaitingClose_closeWaits x)⟩
    · rw [moves.kept, zoneKept_takeWaitingClose, h.kept]
    · rw [moves.queue hc, takeWaitingClose_eq]; exact h.queue c hc
    · refine moves.configured ?_
      rw [takeWaitingClose_eq]; exact (h.zone hs).1
    · rw [moves.ta_consoleHold.1, takeWaitingClose_eq]; exact (h.zone hs).2

/-- What every trip in ARMED mode does, whatever the holds are (R83, R88 to R91, R196). -/
structure TripTaken (own origin : Cause) (votes grade : Nat) (s u : State) : Prop where
  kept : voteKept u = voteKept s
  vtu : u.vtu = vtuTripped own s
  queued : queueOk s = true → .trip own origin votes grade s.nodeTime ∈ u.slc.queue
  observes : ofClass 1 u.slc.queue = ofClass 1 s.slc.queue
  zone : s.zs.st ≠ .unconfigured → u.zs.st ≠ .unconfigured ∧ u.zs.ta = max s.zs.ta s.nodeTime
  request : u.rcp.lastTripReq = some s.nodeTime
  closed : u.rcp.closeWaits = false

theorem tripArmed_taken (own origin : Cause) (votes received : Nat) (s : State) :
    TripTaken own origin votes (tripGrade received s) s (tripArmed own origin votes received s) := by
  obtain ⟨first, htrip⟩ := tripArmed_eq own origin votes received s
  obtain ⟨⟨hkept, hrequest, hqueue, hzone⟩, hclosed⟩ := (HandedOn.ofOrders (tripGrade received s) own origin votes
    (countedSet s) first (tripSent own origin votes (tripGrade received s) s)).settlesClose
  rw [← htrip] at hkept hrequest hqueue hzone hclosed
  have hsent := tripSent_eq own origin votes (tripGrade received s) s
  have hslc : (tripSent own origin votes (tripGrade received s) s).slc =
      (place (.trip own origin votes (tripGrade received s) s.nodeTime) s).slc := by rw [hsent]; rfl
  have hrest := place_setSlc (.trip own origin votes (tripGrade received s) s.nodeTime) s
  refine ⟨voteKept_tripArmed .., ?_, fun hq => ?_, ?_, ?_, ?_, hclosed⟩
  · rw [(zoneKept_fields hkept).2.2.2.1, hsent]; rfl
  · have hmem : TxEntry.trip own origin votes (tripGrade received s) s.nodeTime ∈
        ofClass 0 (place (.trip own origin votes (tripGrade received s) s.nodeTime) s).slc.queue :=
      (mem_ofClass _ _ _).mpr ⟨(mem_place _ ((queueOk_iff s).mp hq)).resolve_right nofun, rfl⟩
    rw [← hslc, ← hqueue 0 (by omega)] at hmem
    exact ((mem_ofClass _ _ _).mp hmem).1
  · rw [hqueue 1 (Nat.le_refl 1), hslc]
    exact ofClass_place (e := .trip own origin votes _ s.nodeTime) (show 0 ≠ 1 by omega) (by omega) s
  · rw [hsent, hrest] at hzone; exact hzone
  · rw [hrequest, hsent, hrest]; rfl

/-! ## Trip occasions and votes -/

theorem tripOccasion_armed (hw : working s = true) (ha : s.vtu.armed = true) (hm : s.hm.mode = .armed)
    (own origin : Cause) (votes received : Nat) :
    tripOccasion own origin votes received s = tripArmed own origin votes received s := by
  unfold tripOccasion; rw [hw, ha, hm]; rfl

theorem tripOccasion_listen (hw : working s = true) (ha : s.vtu.armed = true) (hm : s.hm.mode = .listen)
    (own origin : Cause) (votes received : Nat) : tripOccasion own origin votes received s = tripListen s := by
  unfold tripOccasion; rw [hw, ha, hm]; rfl

theorem tripOccasion_none (h : working s = false ∨ s.vtu.armed = false) (own origin : Cause) (votes received : Nat) :
    tripOccasion own origin votes received s = s := by
  unfold tripOccasion
  rcases h with h | h <;> simp [h]

theorem tripOccasion_cases (own origin : Cause) (votes received : Nat) (s : State) :
    tripOccasion own origin votes received s = s ∨ tripOccasion own origin votes received s = tripListen s ∨
      tripOccasion own origin votes received s = tripArmed own origin votes received s := by
  unfold tripOccasion
  repeat' split
  · exact .inr (.inr rfl)
  · exact .inr (.inl rfl)
  · exact .inl rfl

/-- What a vote does to the rest of the node, whether it trips or not: V and the wire stand, no OBSERVE comes or goes,
and Ta stands or is now. -/
structure VoteMoves (s u : State) : Prop where
  kept : voteKept u = voteKept s
  votes : u.vtu.votes = s.vtu.votes
  observes : ofClass 1 u.slc.queue = ofClass 1 s.slc.queue
  zone : s.zs.st ≠ .unconfigured →
    u.zs.st ≠ .unconfigured ∧ (u.zs.ta = s.zs.ta ∨ u.zs.ta = max s.zs.ta s.nodeTime)

theorem VoteMoves.refl (s : State) : VoteMoves s s := ⟨rfl, rfl, rfl, fun h => ⟨h, .inl rfl⟩⟩

theorem VoteMoves.trans (h : VoteMoves s v) (g : VoteMoves v u) : VoteMoves s u where
  kept := g.kept.trans h.kept
  votes := g.votes.trans h.votes
  observes := g.observes.trans h.observes
  zone hs := by
    obtain ⟨hv, hta⟩ := h.zone hs
    obtain ⟨hu, gta⟩ := g.zone hv
    have htime : v.nodeTime = s.nodeTime := (voteKept_fields h.kept).1
    rw [htime] at gta
    refine ⟨hu, ?_⟩
    rcases hta with hta | hta <;> rcases gta with gta | gta <;> simp [gta, hta]

theorem tripOccasion_votes (own origin : Cause) (votes received : Nat) (s : State) :
    VoteMoves s (tripOccasion own origin votes received s) := by
  rcases tripOccasion_cases own origin votes received s with h | h | h <;> rw [h]
  · exact .refl s
  · exact ⟨rfl, rfl, rfl, fun h => ⟨h, .inl rfl⟩⟩
  · obtain ⟨hkept, hvtu, -, hobs, hzone, -, -⟩ := tripArmed_taken own origin votes received s
    exact ⟨hkept, by rw [hvtu]; rfl, hobs, fun hs => ⟨(hzone hs).1, .inr (hzone hs).2⟩⟩

theorem armingEval_votes (s : State) : VoteMoves s (armingEval s) := by
  unfold armingEval; split
  · exact ⟨rfl, rfl, rfl, fun h => ⟨h, .inl rfl⟩⟩
  · exact .refl s

theorem soloTest_votes (s : State) : VoteMoves s (soloTest s) := by
  unfold soloTest; split
  · exact tripOccasion_votes ..
  · exact .refl s

/-- `s` with V taken from the counted set by a working node, and as it stands by any other (R75, R85). -/
def voteTaken (s : State) : State :=
  if working s then s.setVtu { s.vtu with votes := (countedSet s).length } else s

theorem voteTaken_eq (s : State) : voteTaken s = s.setVtu (voteTaken s).vtu := by unfold voteTaken; split <;> rfl

theorem voteTest_votes (s : State) : VoteMoves (voteTaken s) (voteTest s) := by
  unfold voteTest voteTaken
  dsimp only
  split
  · split
    · exact tripOccasion_votes ..
    · exact armingEval_votes _
  · exact .refl s

theorem reportToVtu_votes (raised : Bool) (s : State) : VoteMoves (voteTaken s) (reportToVtu raised s) := by
  unfold reportToVtu
  split
  · exact (voteTest_votes s).trans (soloTest_votes _)
  · exact voteTest_votes s

/-- The counted set reads the Peer View, node time, the configuration and the exclusion alone (R71). -/
theorem countedSet_of_voteKept (h : voteKept u = voteKept s) : countedSet u = countedSet s := by
  have hpv : ∀ i, peer u i = peer s i := fun i => congrArg (fun x => x.pv.entries[i.val]) h
  have htime : u.nodeTime = s.nodeTime := congrArg (fun x => x.nodeTime) h
  have hcfg : cfg u = cfg s := congrArg (fun x => x.rcp.config.getD defaultConfig) h
  have hown : ownId u = ownId s := congrArg (fun x => x.rcp.stationId) h
  have hex : excluded u = excluded s := (viewKept_line (viewKept_of_voteKept h)).1
  refine List.filter_congr fun i _ => ?_
  unfold counted
  rw [hpv, htime, hcfg, hown, hex]

end Sys2Proof.Machine

/-! Activity and own reports: what each leaves of the queue and of Ta, and what a report writes (R22, R23, R132). -/

namespace Sys2Proof.Machine

variable {s u v : State}

/-! ## Activity -/

theorem activity_unconfigured (h : s.zs.st = .unconfigured) (t g : Nat) (b : Bool) : activity t g b s = s := if_pos h

theorem activity_moves (h : s.zs.st ≠ .unconfigured) (t g : Nat) (b : Bool) :
    ZoneMoves (takeActivity t g s) (activity t g b s) := by
  unfold activity
  rw [if_neg h]
  dsimp only
  split
  · exact ZoneMoves.refl.hasActivityEffect b
  · exact ZoneMoves.refl.recomputesHold.hasActivityEffect b

/-- Ta, the grade and a raise of the record's grade are all that steps 1 and 2 of an activity report take (R132). -/
theorem takeActivity_eq (t g : Nat) (s : State) : takeActivity t g s =
    (s.setZs { s.zs with ta := max s.zs.ta t, grade := (takeActivity t g s).zs.grade }).setRcp
      (takeActivity t g s).rcp := by
  unfold takeActivity
  dsimp only
  split
  · rw [rcpRaise_eq]; rfl
  · rfl

/-- An activity report queues and removes neither TRIP nor OBSERVE. -/
theorem activity_queue (t g : Nat) (b : Bool) (s : State) {c : Nat} (hc : c ≤ 1) :
    ofClass c (activity t g b s).slc.queue = ofClass c s.slc.queue := by
  by_cases h : s.zs.st = .unconfigured
  · rw [activity_unconfigured h]
  · rw [(activity_moves h t g b).queue hc, takeActivity_eq]; rfl

/-- An activity report moves Ta forward (R131, R132). -/
theorem activity_ta (h : s.zs.st ≠ .unconfigured) (t g : Nat) (b : Bool) :
    (activity t g b s).zs.st ≠ .unconfigured ∧ (activity t g b s).zs.ta = max s.zs.ta t := by
  have moves := activity_moves h t g b
  refine ⟨moves.configured ?_, moves.ta_consoleHold.1.trans ?_⟩
  · rw [takeActivity_eq]; exact h
  · rw [takeActivity_eq]; rfl

theorem activity_vtu (t g : Nat) (b : Bool) (s : State) : (activity t g b s).vtu = s.vtu :=
  (zoneKept_fields (zoneKept_activity t g b s)).2.2.2.1

theorem working_of_voteKept (h : voteKept u = voteKept s) : working u = working s := by
  have hphase : u.phase = s.phase := congrArg (fun x => x.phase) h
  have hconf : u.rcp.config = s.rcp.config := congrArg (fun x => x.rcp.config) h
  unfold working running configured
  rw [hphase, hconf]

/-- What the VTU and the ZS do with an event that is handed to both (R23, R68): V is taken, no OBSERVE comes or goes,
and Ta is the event's time. -/
structure HandedToBoth (s u : State) : Prop where
  kept : voteKept u = voteKept s
  votes : working s = true → u.vtu.votes = (countedSet u).length
  observes : ofClass 1 u.slc.queue = ofClass 1 s.slc.queue
  zone : s.zs.st ≠ .unconfigured → u.zs.st ≠ .unconfigured ∧ u.zs.ta = max s.zs.ta s.nodeTime

theorem HandedToBoth.ofOrders {f : State → State} (hf : ∀ x, VoteMoves (voteTaken x) (f x)) (g : Nat) (b : Bool)
    (first : Bool) (s : State) : HandedToBoth s (inEitherOrder first f (activity s.nodeTime g b) s) := by
  have taken (x : State) : voteKept (voteTaken x) = voteKept x := by rw [voteTaken_eq]; rfl
  have votes (x : State) (hx : working x = true) : (f x).vtu.votes = (countedSet x).length := by
    rw [(hf x).votes, voteTaken, if_pos hx]
    rfl
  have kept (x : State) : voteKept (f x) = voteKept x := (hf x).kept.trans (taken x)
  refine inEitherOrder_of first ?voteFirst ?zoneFirst
  case voteFirst =>
    have hkept : voteKept (activity s.nodeTime g b (f s)) = voteKept s := by rw [voteKept_activity, kept]
    refine ⟨hkept, fun hw => ?_, ?_, fun hs => ?_⟩
    · rw [activity_vtu, votes s hw, countedSet_of_voteKept hkept]
    · rw [activity_queue _ _ _ _ (Nat.le_refl 1), (hf s).observes, voteTaken_eq]; rfl
    · obtain ⟨hst, hta⟩ := (hf s).zone (by rw [voteTaken_eq]; exact hs)
      rw [voteTaken_eq] at hta
      refine ⟨(activity_ta hst ..).1, (activity_ta hst ..).2.trans ?_⟩
      rcases hta with hta | hta <;> simp [hta]
  case zoneFirst =>
    have hkept : voteKept (f (activity s.nodeTime g b s)) = voteKept s := by rw [kept, voteKept_activity]
    refine ⟨hkept, fun hw => ?_, ?_, fun hs => ?_⟩
    · rw [votes _ ((working_of_voteKept (voteKept_activity ..)).trans hw), countedSet_of_voteKept hkept,
        countedSet_of_voteKept (voteKept_activity ..)]
    · rw [(hf _).observes, voteTaken_eq]; exact activity_queue _ _ _ _ (Nat.le_refl 1)
    · obtain ⟨hst, hta⟩ := activity_ta hs s.nodeTime g b
      obtain ⟨hst', hta'⟩ := (hf (activity s.nodeTime g b s)).zone (by rw [voteTaken_eq]; exact hst)
      rw [voteTaken_eq] at hta'
      refine ⟨hst', ?_⟩
      have htime : (activity s.nodeTime g b s).nodeTime = s.nodeTime := (voteKept_fields (voteKept_activity ..)).1
      rcases hta' with hta' | hta' <;> simp [hta', hta, htime]

/-! ## Storing an observation -/

/-- Storing an observation changes the entry of its station alone (R66, R69). -/
theorem storeObservation_eq (i : StationId) (o : Observation) (s : State) :
    storeObservation i o s = s.setPv (storeObservation i o s).pv := by
  unfold storeObservation
  dsimp only
  repeat' split
  all_goals rfl

theorem peer_storeObservation_other {i j : StationId} (h : j ≠ i) (o : Observation) (s : State) :
    peer (storeObservation i o s) j = peer s j := by
  unfold storeObservation
  dsimp only
  repeat' split
  all_goals exact peer_setPeer_other h.symm _ _

/-- An observation is written whole but for the onset, which an update of the same event keeps (R66, R67). -/
theorem observation_storeObservation (i : StationId) (o : Observation) (s : State) :
    ∃ on, (peer (storeObservation i o s) i).observation = some { o with onset := on } ∧
      ((∀ held, (peer s i).observation = some held → held.event ≠ o.event) → on = o.onset) := by
  unfold storeObservation
  dsimp only
  split
  case h_1 held hobs =>
    split
    case isTrue he =>
      exact ⟨held.onset, by rw [peer_setPeer_same], fun hnew => absurd he (hnew held hobs)⟩
    case isFalse => exact ⟨o.onset, by rw [peer_setPeer_same], fun _ => rfl⟩
  case h_2 => exact ⟨o.onset, by rw [peer_setPeer_same], fun _ => rfl⟩

/-! ## A report -/

/-- A report of the own event, from the state whose MP carries the event, with the report taken (R22, R23). -/
structure Reported (phase : ReportPhase) (s u : State) : Prop where
  around : SameAround s u
  time : u.nodeTime = s.nodeTime
  mp : u.mp = { s.mp with phase := ownPhaseOf phase, strongReached := s.mp.strongReached || phase == .strong }
  faults : ∀ f, f ≠ .channelUnconfirmed → f ≠ .configMismatch → active f u = active f s
  own : ∃ o, (peer u (ownId s)).observation = some o ∧ o.event = s.mp.event ∧ o.phase = phase ∧ o.peak = s.mp.pmg ∧
    o.grade = s.mp.grade ∧ ((∀ held, (peer s (ownId s)).observation = some held → held.event ≠ s.mp.event) →
      o.onset = some s.mp.onsetTime)
  queued : queueOk s = true → s.hm.mode = .armed → excluded s = false →
    .observe s.mp.event phase s.mp.onsetTime s.mp.pmg s.mp.grade ∈ u.slc.queue
  withheld : s.hm.mode = .listen ∨ excluded s = true → ofClass 1 u.slc.queue = ofClass 1 s.slc.queue
  votes : working s = true → u.vtu.votes = (countedSet u).length
  ta : s.zs.st ≠ .unconfigured → u.zs.ta = max s.zs.ta s.nodeTime

/-- The observation that a report writes (R69). -/
def ownObservation (phase : ReportPhase) (m : MotionState) : Observation :=
  { event := m.event, phase := phase, onset := some m.onsetTime, peak := m.pmg, grade := m.grade }

/-- `s` with a report stored in the own entry and queued, before it is handed on (R23). -/
def reportSent (phase : ReportPhase) (s : State) : State :=
  let s1 := storeObservation (ownId s) (ownObservation phase s.mp) s
  if s.hm.mode = .armed ∧ excluded s = false then
    place (.observe s.mp.event phase s.mp.onsetTime s.mp.pmg s.mp.grade) s1 else s1

theorem handReport_eq (phase : ReportPhase) (raised aftershock : Bool) (s : State) :
    ∃ first, handReport phase raised aftershock s = inEitherOrder first (reportToVtu raised)
      (activity (drawn (reportSent phase s)).nodeTime (if raised then s.mp.grade else 0) aftershock)
      (drawn (reportSent phase s)) := by
  have hstore := storeObservation_eq (ownId s) (ownObservation phase s.mp) s
  have hsame : (storeObservation (ownId s) (ownObservation phase s.mp) s).hm.mode = s.hm.mode ∧
      excluded (storeObservation (ownId s) (ownObservation phase s.mp) s) = excluded s := by
    rw [hstore]; exact ⟨rfl, rfl⟩
  have hsent : reportSent phase s = (if (storeObservation (ownId s) (ownObservation phase s.mp) s).hm.mode = .armed ∧
      excluded (storeObservation (ownId s) (ownObservation phase s.mp) s) = false then
      place (.observe s.mp.event phase s.mp.onsetTime s.mp.pmg s.mp.grade)
        (storeObservation (ownId s) (ownObservation phase s.mp) s)
      else storeObservation (ownId s) (ownObservation phase s.mp) s) := by
    rw [hsame.1, hsame.2]; rfl
  rw [hsent]
  exact ⟨_, rfl⟩

/-- Sending a report changes the Peer View and the queue alone. -/
theorem reportSent_eq (phase : ReportPhase) (s : State) :
    reportSent phase s = (s.setPv (storeObservation (ownId s) (ownObservation phase s.mp) s).pv).setSlc
      (reportSent phase s).slc := by
  unfold reportSent
  dsimp only
  split
  · rw [place_setSlc, storeObservation_eq]; rfl
  · rw [storeObservation_eq]; rfl

theorem reportSent_queue (phase : ReportPhase) (s : State) :
    (queueOk s = true → s.hm.mode = .armed → excluded s = false →
      .observe s.mp.event phase s.mp.onsetTime s.mp.pmg s.mp.grade ∈ (reportSent phase s).slc.queue) ∧
    (s.hm.mode = .listen ∨ excluded s = true → (reportSent phase s).slc.queue = s.slc.queue) := by
  have hslc : (storeObservation (ownId s) (ownObservation phase s.mp) s).slc = s.slc := by
    rw [storeObservation_eq]; rfl
  refine ⟨fun hq hm hx => ?_, fun h => ?_⟩
  · have hin : InOrder (storeObservation (ownId s) (ownObservation phase s.mp) s).slc.queue := by
      rw [hslc]; exact (queueOk_iff s).mp hq
    rw [reportSent, if_pos ⟨hm, hx⟩]
    exact (mem_place _ hin).resolve_right nofun
  · have hnot : ¬(s.hm.mode = .armed ∧ excluded s = false) := by
      rintro ⟨hm, hx⟩
      rcases h with h | h
      · rw [hm] at h; cases h
      · rw [hx] at h; cases h
    rw [reportSent, if_neg hnot, hslc]

theorem handReport_reported (phase : ReportPhase) (raised aftershock : Bool) (s : State)
    (hm : s.mp.phase = ownPhaseOf phase) (hs : (s.mp.strongReached || phase == .strong) = s.mp.strongReached) :
    Reported phase s (handReport phase raised aftershock s) := by
  obtain ⟨first, heq⟩ := handReport_eq phase raised aftershock s
  have view := viewKept_handReport phase raised aftershock s
  obtain ⟨hkept, hvotes, hobs, hzone⟩ := HandedToBoth.ofOrders (reportToVtu_votes raised)
    (if raised then s.mp.grade else 0) aftershock first (drawn (reportSent phase s))
  rw [← heq] at hkept hvotes hobs hzone
  obtain ⟨htime, hmp, hpins, hphase, hpending, -⟩ := viewKept_fields view
  have hpv : (handReport phase raised aftershock s).pv =
      (storeObservation (ownId s) (ownObservation phase s.mp) s).pv := by
    rw [(voteKept_fields hkept).2.2.1, reportSent_eq]; rfl
  obtain ⟨on, hon, hnew⟩ := observation_storeObservation (ownId s) (ownObservation phase s.mp) s
  have sent := reportSent_eq phase s
  refine ⟨⟨hpins, hphase, hpending⟩, htime, ?mp, viewKept_active view,
    ⟨{ ownObservation phase s.mp with onset := on }, ?own, rfl, rfl, rfl, rfl, hnew⟩, ?queued, ?withheld, ?votes, ?ta⟩
  case mp => rw [hmp, hs, ← hm]
  case own => unfold peer; rw [hpv]; exact hon
  case queued =>
    intro hq hmode hx
    have hmem := (mem_ofClass _ 1 _).mpr ⟨(reportSent_queue phase s).1 hq hmode hx, rfl⟩
    have hobs' : ofClass 1 (reportSent phase s).slc.queue =
      ofClass 1 (handReport phase raised aftershock s).slc.queue := hobs.symm
    rw [hobs'] at hmem
    exact ((mem_ofClass _ _ _).mp hmem).1
  case withheld =>
    intro h
    rw [hobs]
    exact congrArg (ofClass 1) ((reportSent_queue phase s).2 h)
  case votes => rw [sent] at hvotes; exact hvotes
  case ta =>
    rw [sent] at hzone
    exact fun hs => (hzone hs).2

theorem issueReport_reported (phase : ReportPhase) (raised aftershock : Bool) (s : State) :
    Reported phase s (issueReport phase raised aftershock s) := by
  unfold issueReport
  obtain ⟨around, time, mp, faults, own, queued, withheld, votes, ta⟩ := handReport_reported phase raised aftershock
    (s.setMp { s.mp with phase := ownPhaseOf phase, strongReached := s.mp.strongReached || phase == .strong }) rfl
    (by cases phase <;> simp)
  refine ⟨around, time, ?_, faults, own, queued, withheld, votes, ta⟩
  rw [mp]
  cases phase <;> simp

end Sys2Proof.Machine

/-! Samples in an own event: the onset, the samples in EVENT and the end (sections 1.3 and 1.5). -/

namespace Sys2Proof.Machine

variable {s u : State} {t : Nat} {x y z : RawCount}

/-! ## A data-ready arrival -/

/-- `s` at a data-ready arrival at `t`, before the sample is taken (R4, R5). -/
def dataArrived (t : Nat) (s : State) : State :=
  { s with nodeTime := t, mp := { s.mp with missingCount := 0, missingDue := some (t + 100) } }

theorem exec_dataReady (hadv : advance t s = s.setNodeTime t) (hs : sampling s = true) (x y z : RawCount) :
    exec (.dataReady t x y z) s = .next (countRecovery (pipeline (sampleOf x y z) (dataArrived t s))) := by
  have hexec : exec (.dataReady t x y z) s = .next (dataReady x y z (advance t s)) := rfl
  rw [hexec, hadv, dataReady, if_pos (by exact hs)]
  rfl

theorem RunsAt.sampling (h : RunsAt t s) : sampling s = true := by
  obtain ⟨hrun, -⟩ := h
  simp [Machine.sampling, hrun]

/-- While SENSOR-LOST is clear no sample counts toward recovery (R7). -/
theorem countRecovery_awake (h : active .sensorLost u = false) : countRecovery u = u := by
  unfold countRecovery
  simp [h]

theorem mem_of_ofClass {c : Nat} {q q' : List TxEntry} (h : ofClass c q' = ofClass c q) :
    ∀ e ∈ q', entryClass e = c → e ∈ q := by
  intro e he hclass
  have hmem := (mem_ofClass e c q').mpr ⟨he, hclass⟩
  rw [h] at hmem
  exact ((mem_ofClass e c q).mp hmem).1

/-! ## The onset -/

/-- The MP behind an onset sample, before its report (R17, R20). -/
def onsetMotion (p : Sample) (s : State) : MotionState :=
  addFigures (cfg s) s.rcp.range16 (sampleH p s.mp) (sampleU p s.mp) (zeroFigures { updateBaselines p s.mp with
    sta := average (cfg s).ks (sampleU p s.mp) s.mp.sta, event := (s.mp.event + 1) % 256, onsetTime := s.nodeTime
    endHold := 0, det := .event, inProgress := true, strongReached := false })

/-- The phase of an onset's report (R22). -/
def onsetPhase (c : NodeConfig) (grade : Nat) : ReportPhase := if c.gs ≤ grade then .strong else .onset

theorem quietSample_onset {p : Sample} (h : onsetTest (cfg s).onsetRatio (cfg s).lmin
    (average (cfg s).ks (sampleU p s.mp) s.mp.sta) s.mp.lta = true) :
    quietSample p s = issueReport (onsetPhase (cfg s) (onsetMotion p s).grade) true true (s.setMp (onsetMotion p s)) := by
  unfold quietSample
  dsimp only
  rw [if_pos h]
  rfl

theorem onsetTest_iff (ratio lmin : Nat) (sta lta : Int) :
    onsetTest ratio lmin sta lta = true ↔ (ratio : Int) * max lta (16 * (lmin : Int)) ≤ 8 * sta := by
  unfold onsetTest effectiveLta
  exact decide_eq_true_iff

/-- CI on an onset sample counts from 0 (R17). -/
theorem nextCi_zero (uci mg : Nat) : nextCi uci mg 0 = if uci < mg then min 4294967295 (mg - uci) else 0 := by
  simp [nextCi_eq]

theorem excluded_of_awake (h : active .sensorLost s = false) : excluded s = active .selftestFail s := by
  simp [excluded, h]

theorem working_of_run (h : RunsAt t s) (hc : configured s = true) : working s = true := by
  obtain ⟨hrun, -⟩ := h
  simp [working, running, hrun, hc]

/-- Settles O7: an onset is one report, from the state in which the event's figures are set. -/
theorem onsetOpensAnEvent : Obligations.OnsetOpensAnEvent := by
  unfold Obligations.OnsetOpensAnEvent
  intro t x y z s h hdet hlost m p c sta ci pmg g honset
  have hdet' : (dataArrived t s).mp.det = .quiet := hdet
  have hopen : quietSample p (dataArrived t s) = _ := quietSample_onset ((onsetTest_iff ..).mpr honset)
  obtain ⟨around, time, mp, faults, own, queued, withheld, votes, ta⟩ := issueReport_reported
    (onsetPhase (cfg (dataArrived t s)) (onsetMotion p (dataArrived t s)).grade) true true
    ((dataArrived t s).setMp (onsetMotion p (dataArrived t s)))
  rw [← hopen] at around time mp faults own queued withheld votes ta
  have hawake : active .sensorLost (quietSample p (dataArrived t s)) = false :=
    (faults .sensorLost (by decide) (by decide)).trans hlost
  have hpmg : milliG s.rcp.range16 (max 0 (sampleH p m)) = pmg := by rw [Nat.zero_max]
  have hci : nextCi c.uci (milliG s.rcp.range16 (sampleU p m)) 0 = ci := nextCi_zero _ _
  have hmotion : onsetMotion p (dataArrived t s) = { m with
      baseX := nextBaseline (clampCount x) m.baseX, baseY := nextBaseline (clampCount y) m.baseY
      baseZ := nextBaseline (clampCount z) m.baseZ, sta := sta, missingCount := 0, missingDue := some (t + 100)
      det := .event, endHold := 0, event := (m.event + 1) % 256, onsetTime := t, inProgress := true
      peak := sampleH p m, ci := ci, pmg := pmg, grade := g, strongReached := false } := by
    have hgrade : g = eventGrade c (milliG s.rcp.range16 (max 0 (sampleH p m)))
        (nextCi c.uci (milliG s.rcp.range16 (sampleU p m)) 0) := by rw [hpmg, hci]
    rw [hgrade, ← hpmg, ← hci, ← Nat.zero_max (sampleH p m)]
    rfl
  have hphase : onsetPhase (cfg (dataArrived t s)) (onsetMotion p (dataArrived t s)).grade =
      if c.gs ≤ g then .strong else .onset := by rw [hmotion]; rfl
  rw [hphase, hmotion] at mp own queued
  refine ⟨quietSample p (dataArrived t s), ?_, around, time, ?_, own, ?_,
    fun hc => votes (working_of_run (s := s) h hc), ?_, ta⟩
  · rw [exec_dataReady h.taken h.sampling, pipeline, hdet']
    exact congrArg _ (countRecovery_awake hawake)
  · rw [mp]
    by_cases hg : c.gs ≤ g <;> simp [hg, ownPhaseOf]
  · intro hq hmode hfail
    exact queued hq hmode ((excluded_of_awake hlost).trans hfail)
  · exact fun hmode => mem_of_ofClass (withheld (hmode.imp_right fun hfail => (excluded_of_awake hlost).trans hfail))

/-! ## The samples in EVENT -/

theorem quietTest_iff (ratio lmin : Nat) (sta lta : Int) :
    quietTest ratio lmin sta lta = true ↔ 8 * sta < (ratio : Int) * max lta (16 * (lmin : Int)) := by
  unfold quietTest effectiveLta
  exact decide_eq_true_iff

theorem eventEnds_iff (p : Sample) (s : State) : eventEnds p s = true ↔
    (cfg s).endHold ≤ (eventMotion p s).endHold ∨ (cfg s).emax * 10000 ≤ s.nodeTime - s.mp.onsetTime := by
  simp [eventEnds]

theorem exec_eventSample (h : RunsAt t s) (hdet : s.mp.det = .event) (hlost : active .sensorLost s = false)
    (hkeeps : active .sensorLost (eventSample (sampleOf x y z) (dataArrived t s)) = active .sensorLost s) :
    exec (.dataReady t x y z) s = .next (eventSample (sampleOf x y z) (dataArrived t s)) := by
  have hdet' : (dataArrived t s).mp.det = .event := hdet
  rw [exec_dataReady h.taken h.sampling, pipeline, hdet']
  exact congrArg _ (countRecovery_awake (hkeeps.trans hlost))

/-- The phase of a report within an event: STRONG the first time the grade reaches Gs, else UPDATE (R22, R23). -/
def withinPhase (c : NodeConfig) (m : MotionState) : ReportPhase :=
  if c.gs ≤ m.grade ∧ m.strongReached = false then .strong else .update

theorem eventSample_over {p : Sample} (h : eventEnds p s = true) : ∃ raised, eventSample p s =
    issueReport .ended raised false (s.setMp { eventMotion p s with det := .quiet, inProgress := false }) :=
  ⟨_, (eventSample_eq p s).trans (if_pos h)⟩

theorem eventSample_raised {p : Sample} (h : ¬eventEnds p s = true) (hr : s.mp.grade < (eventMotion p s).grade) :
    eventSample p s = issueReport (withinPhase (cfg s) (eventMotion p s)) true false (s.setMp (eventMotion p s)) :=
  ((eventSample_eq p s).trans (if_neg h)).trans (if_pos (decide_eq_true hr))

theorem eventSample_level {p : Sample} (h : ¬eventEnds p s = true) (hr : ¬s.mp.grade < (eventMotion p s).grade) :
    eventSample p s = activity s.nodeTime 0 false (s.setMp (eventMotion p s)) :=
  ((eventSample_eq p s).trans (if_neg h)).trans (if_neg (by simpa using hr))

/-- Settles O8: the sample ends the event, reports within it, or is an activity report alone. -/
theorem eventSampleMovesOrEndsTheEvent : Obligations.EventSampleMovesOrEndsTheEvent := by
  unfold Obligations.EventSampleMovesOrEndsTheEvent
  intro t x y z s h hdet hlost m p c sta hold long isOver figures strong raised
  have hex := excluded_of_awake hlost
  have hhold : (eventMotion p (dataArrived t s)).endHold = hold := by
    have hquiet := quietTest_iff c.endRatio c.lmin sta m.lta
    exact ite_cond_congr (propext hquiet)
  have hlta : (eventMotion p (dataArrived t s)).lta = if long then sta else m.lta := eventMotion_lta p (dataArrived t s)
  have hover : eventEnds p (dataArrived t s) = true ↔ isOver := by rw [eventEnds_iff, hhold]; rfl
  have hmotion : eventMotion p (dataArrived t s) = { m with
      baseX := nextBaseline (clampCount x) m.baseX, baseY := nextBaseline (clampCount y) m.baseY
      baseZ := nextBaseline (clampCount z) m.baseZ, sta := sta, lta := if long then sta else m.lta, endHold := hold
      missingCount := 0, missingDue := some (t + 100), peak := figures.peak, ci := figures.ci, pmg := figures.pmg
      grade := figures.grade } := by rw [← hhold, ← hlta]; rfl
  have hgrade : (eventMotion p (dataArrived t s)).grade = figures.grade := rfl
  by_cases hisOver : isOver
  case pos =>
    obtain ⟨raisedAtEnd, hsample⟩ := eventSample_over (hover.mpr hisOver)
    obtain ⟨around, time, mp, faults, own, queued, withheld, votes, ta⟩ :=
      hsample.symm.subst (issueReport_reported .ended raisedAtEnd false _)
    obtain ⟨o, ho, hevent, hphase, hpeak, hgrade, -⟩ := own
    simp only [hisOver, true_or, not_true_eq_false, false_and, decide_false, Bool.or_false, if_true, true_implies,
      false_implies]
    exact ⟨_, exec_eventSample h hdet hlost (faults .sensorLost (by decide) (by decide)), around, time,
      by rw [mp, hmotion]; simp [ownPhaseOf], ⟨o, ho, hevent, hphase, hpeak, hgrade⟩,
      fun hq hm hf => queued hq hm (hex.trans hf), fun hm => mem_of_ofClass (withheld (hm.imp_right hex.trans)),
      fun hc => votes (working_of_run (s := s) h hc), trivial, ta⟩
  case neg =>
    have hover' := fun he => hisOver (hover.mp he)
    by_cases hraised : raised
    case pos =>
      have hsample := eventSample_raised hover' hraised
      obtain ⟨around, time, mp, faults, own, queued, withheld, votes, ta⟩ :=
        hsample.symm.subst (issueReport_reported _ true false _)
      obtain ⟨o, ho, hevent, hphase, hpeak, hgrade, -⟩ := own
      have hwithin : withinPhase (cfg (dataArrived t s)) (eventMotion p (dataArrived t s)) =
        if strong then .strong else .update := rfl
      simp only [hisOver, hraised, or_true, not_true_eq_false, not_false_eq_true, true_and, false_implies, if_false,
        if_true, true_implies]
      refine ⟨_, exec_eventSample h hdet hlost (faults .sensorLost (by decide) (by decide)), around, time, ?_,
        ⟨o, ho, hevent, hphase, hpeak, hgrade⟩, fun hq hm hf => queued hq hm (hex.trans hf),
        fun hm => mem_of_ofClass (withheld (hm.imp_right hex.trans)),
        fun hc => votes (working_of_run (s := s) h hc), ta⟩
      rw [mp, hwithin, hmotion]
      by_cases hs : strong <;> simp [hs, hdet, m, ownPhaseOf]
    case neg =>
      have hsample := eventSample_level hover' hraised
      have kept := zoneKept_activity t 0 false ((dataArrived t s).setMp (eventMotion p (dataArrived t s)))
      have hqueue := activity_queue t 0 false ((dataArrived t s).setMp (eventMotion p (dataArrived t s))) (c := 1)
        (by decide)
      have hta : s.zs.st ≠ .unconfigured → _ := fun hs => (activity_ta (t := t) (g := 0) (b := false)
        (s := (dataArrived t s).setMp (eventMotion p (dataArrived t s))) hs).2
      have htime : (dataArrived t s).nodeTime = t := rfl
      rw [htime] at hsample
      rw [← hsample] at kept hqueue hta
      obtain ⟨time, mp, pv, vtu, pins, phase, pending⟩ := zoneKept_fields kept
      simp only [hisOver, hraised, or_self, not_false_eq_true, false_and, and_false, false_implies, if_false,
        true_implies, true_and, decide_false, Bool.or_false]
      refine ⟨_, exec_eventSample h hdet hlost (zoneKept_active kept .sensorLost (by decide)), ⟨pins, phase, pending⟩,
        time, ?_, fun _ => mem_of_ofClass hqueue, ⟨pv, vtu⟩, hta⟩
      rw [mp, ← hdet]
      exact hmotion

end Sys2Proof.Machine

/-! Samples outside an own event, the self-test, the loss of the sensor and its recovery (sections 1.2 to 1.7). -/

namespace Sys2Proof.Machine

variable {s u : State} {t d : Nat} {x y z : RawCount}

/-! ## Faults behind an operation -/

theorem active_followFault_other {f g : FaultId} (h : f ≠ g) (b : Bool) (s : State) :
    active g (followFault f b s) = active g s := by
  unfold followFault
  split
  · split
    · rfl
    · exact active_raiseFault_other h s
  · split
    · exact active_clearFault_other h s
    · rfl

theorem sticky_raiseFault_other {f g : FaultId} (h : f ≠ g) (s : State) :
    hasFault g (raiseFault f s).hm.sticky = hasFault g s.hm.sticky := by
  simp [raiseFault, State.setHm, hasFault_putFault_other h]

/-- A fault that was clear and is raised is in the sticky set (R210). -/
theorem sticky_followFault_raised {f : FaultId} (h : active f s = false) :
    hasFault f (followFault f true s).hm.sticky = true := by
  simp [followFault, h]

/-- The sticky faults other than CHANNEL-UNCONFIRMED and CONFIG-MISMATCH are fixed by `viewKept`. -/
theorem viewKept_sticky (h : viewKept u = viewKept s) (f : FaultId) (hf : f ≠ .channelUnconfirmed)
    (hg : f ≠ .configMismatch) : hasFault f u.hm.sticky = hasFault f s.hm.sticky := by
  have h' : putFault .configMismatch false (putFault .channelUnconfirmed false u.hm.sticky) =
      putFault .configMismatch false (putFault .channelUnconfirmed false s.hm.sticky) :=
    congrArg (fun x => x.hm.sticky) h
  have h'' := congrArg (hasFault f) h'
  rwa [hasFault_putFault_other hg.symm, hasFault_putFault_other hf.symm, hasFault_putFault_other hg.symm,
    hasFault_putFault_other hf.symm] at h''

/-! ## The self-test due time -/

theorem canTest_iff (s : State) : canTest s = true ↔ s.mp.det = .quiet ∨
    (s.mp.det = .idle ∧ active .selftestFail s = true ∧ active .sensorLost s = false ∧ configured s = true) := by
  simp [canTest, and_assoc]

theorem due_of_le (h : d ≤ s.nodeTime) : due (some d) s = true := decide_eq_true h

/-- Settles O11: the due time runs in a running part alone, and is tested there. -/
theorem selfTestFallsDue : Obligations.SelfTestFallsDue := by
  unfold Obligations.SelfTestFallsDue
  intro t d s h hdue hlate may
  have hfalls : testFalls (s.setNodeTime t) = true := by
    have hd : due s.mp.testDue (s.setNodeTime t) = true := by rw [hdue]; exact due_of_le hlate
    rw [testFalls, h.running]
    exact hd
  have hexec : exec (.selftestDue t) s = .next (selftestDue (advance t s)) := rfl
  have hmay : canTest (s.setNodeTime t) = true ↔ may := canTest_iff (s.setNodeTime t)
  rw [hexec, h.taken, selftestDue, if_pos hfalls]
  constructor
  · intro hm
    rw [if_pos (hmay.mpr hm)]
    rfl
  · intro hm
    have hnext : Option.map (fun d => d + 36000000) (s.setNodeTime t).mp.testDue = some (d + 36000000) :=
      congrArg (Option.map _) hdue
    rw [if_neg (fun hc => hm (hmay.mp hc)), hnext]
    rfl

/-! ## Samples in IDLE, WARMUP and QUIET -/

/-- A sample of a part whose cold start is at step 2 or 3, or that runs. -/
theorem exec_sample (h : RunsAt t s ∨ ((s.phase = .readImage ∨ s.phase = .readRecord) ∧ s.nodeTime ≤ t ∧ t ≤ maxNodeTime))
    (x y z : RawCount) :
    exec (.dataReady t x y z) s = .next (countRecovery (pipeline (sampleOf x y z) (dataArrived t s))) := by
  rcases h with h | ⟨hp, hlate, hmax⟩
  · exact exec_dataReady h.taken h.sampling x y z
  · refine exec_dataReady (advance_starting ?_ ?_ hlate hmax) ?_ x y z
    all_goals rcases hp with hp | hp
    all_goals simp [sampling, hp]

theorem countRecovery_lost (h : active .sensorLost u = true) (hr : u.mp.recovery ≠ 399) :
    countRecovery u = u.setMp { u.mp with recovery := u.mp.recovery + 1 } := by
  unfold countRecovery
  rw [if_pos h, if_neg (by omega)]

theorem countRecovery_recovered (h : active .sensorLost u = true) (hr : u.mp.recovery = 399) :
    countRecovery u = afterRecovery (followExclusion (excluded u)
      (clearFault .sensorLost (u.setMp { u.mp with recovery := 0 }))) := by
  unfold countRecovery
  rw [if_pos h, if_pos (by omega)]

/-- A sample that changes the MP alone, while SENSOR-LOST is clear. -/
theorem countRecovery_arrived (h : active .sensorLost s = false) (t : Nat) (m : MotionState) :
    countRecovery ((dataArrived t s).setMp m) = (dataArrived t s).setMp m := countRecovery_awake h

theorem working_off (h : s.phase ≠ .running) : working s = false := by
  simp [working, Machine.running, h]

/-- Until the cold start is over the exclusion refreshes the own entry's window and no more (R70, R191). -/
theorem followExclusion_starting (h : s.phase ≠ .running) (before : Bool) :
    followExclusion before s = s.setPv (followExclusion before s).pv ∧
      ∀ j, j ≠ ownId s → peer (followExclusion before s) j = peer s j := by
  have hvote : voteTest (refreshOwnWindow s) = refreshOwnWindow s := by
    refine if_neg ?_
    rw [working_off (by exact h)]
    exact Bool.false_ne_true
  unfold followExclusion
  split
  · exact ⟨rfl, fun _ _ => rfl⟩
  · rw [hvote]
    exact ⟨rfl, fun j hj => peer_setPeer_other (Ne.symm hj) _ s⟩

/-- The 400th sample before the cold start is over clears SENSOR-LOST with the detector as it stands (R7, R187). -/
theorem countRecovery_starting (h : u.phase ≠ .running) (hlost : active .sensorLost u = true)
    (hr : u.mp.recovery = 399) : ∃ v, countRecovery u = v ∧ active .sensorLost v = false ∧
      (∀ f, f ≠ .sensorLost → active f v = active f u) ∧ v.hm.sticky = u.hm.sticky ∧
      (∀ j, j ≠ ownId u → peer v j = peer u j) ∧
      v = { u with mp := { u.mp with recovery := 0 }, pv := v.pv, hm := v.hm } := by
  have hsame := active_clearFault_same .sensorLost (u.setMp { u.mp with recovery := 0 })
  have hother := fun f (hf : f ≠ .sensorLost) =>
    active_clearFault_other (Ne.symm hf) (u.setMp { u.mp with recovery := 0 })
  have hsticky := sticky_clearFault .sensorLost (u.setMp { u.mp with recovery := 0 })
  rw [countRecovery_recovered hlost hr]
  rw [clearFault_eq] at hsame hother hsticky ⊢
  obtain ⟨hpv, hpeer⟩ := followExclusion_starting
    (s := (u.setMp { u.mp with recovery := 0 }).setHm (clearFault .sensorLost (u.setMp { u.mp with recovery := 0 })).hm)
    h (excluded u)
  rw [hpv] at hpeer ⊢
  refine ⟨_, if_neg ?_, hsame, hother, hsticky, hpeer, rfl⟩
  rw [working_off (by exact h)]
  simp

theorem seed_still (c : Int) : nextBaseline c (256 * c) = 256 * c := by
  unfold nextBaseline
  omega

theorem sampleU_seeded (p : Sample) (m : MotionState) : sampleU p (seedBaselines p m) = 0 := by
  have still (c : Int) : detrend c (256 * c) = 0 := by
    unfold detrend clamp16
    omega
  unfold sampleU seedBaselines
  simp [still, amplitude, horizontal]

theorem warmupSample_first (p : Sample) (h : s.mp.warmupCount = 0) : warmupSample p s = s.setMp { s.mp with
    baseX := 256 * p.cx, baseY := 256 * p.cy, baseZ := 256 * p.cz, sta := 0, lta := 0, warmupCount := 1
    det := if 2 ^ (cfg s).kl = 1 then .quiet else .warmup } := by
  unfold warmupSample
  simp only [h, beq_self_eq_true, if_true, sampleU_seeded, Nat.zero_add, Int.natCast_zero, Int.mul_zero,
    @eq_comm _ 1 (2 ^ _)]
  rw [updateBaselines, seedBaselines]
  dsimp only
  rw [seed_still, seed_still, seed_still]

theorem warmupSample_later (p : Sample) (h : s.mp.warmupCount ≠ 0) : warmupSample p s = s.setMp {
    updateBaselines p s.mp with
    sta := average (cfg s).ks (sampleU p s.mp) s.mp.sta, lta := average (cfg s).kl (sampleU p s.mp) s.mp.lta
    warmupCount := s.mp.warmupCount + 1
    det := if 2 ^ (cfg s).kl = s.mp.warmupCount + 1 then .quiet else .warmup } := by
  unfold warmupSample
  simp only [beq_eq_false_iff_ne.mpr h, Bool.false_eq_true, if_false, @eq_comm _ (s.mp.warmupCount + 1) (2 ^ _)]

/-- Settles O6. -/
theorem sampleOutsideAnEvent : Obligations.SampleOutsideAnEvent := by
  unfold Obligations.SampleOutsideAnEvent
  constructor
  · intro t x y z s h hdet idled
    have hdet' : (dataArrived t s).mp.det = .idle := hdet
    have hexec := exec_sample h x y z
    rw [pipeline, hdet'] at hexec
    rw [hexec]
    generalize hv : idleSample (sampleOf x y z) (dataArrived t s) = v
    have hlostv : active .sensorLost v = active .sensorLost s := by rw [← hv]; rfl
    have hrec : v.mp.recovery = s.mp.recovery := by rw [← hv]; rfl
    constructor
    · intro hnot
      by_cases hlost : active .sensorLost s = true
      case pos =>
        rw [countRecovery_lost (hlostv.trans hlost) (fun hr => hnot ⟨hlost, hrec.symm.trans hr⟩), if_pos hlost, ← hv]
        rfl
      case neg =>
        rw [countRecovery_awake (hlostv.trans (Bool.eq_false_iff.mpr hlost)), if_neg hlost, ← hv]
        rfl
    · intro hp hlost hr
      obtain ⟨w, hw, hclear, hother, hsticky, hpeer, heq⟩ :=
        countRecovery_starting (u := v) (by rw [← hv]; exact hp) (hlostv.trans hlost) (hrec.trans hr)
      rw [← hv] at hother hsticky hpeer heq
      exact ⟨w, congrArg _ hw, hclear, hother, hsticky, hpeer, heq⟩
  · intro t x y z s h m p
    have hexec := exec_dataReady h.taken h.sampling x y z
    refine ⟨fun hdet hlost hcount => ?_, fun hdet hlost hcount => ?_, fun hdet hlost hbelow => ?_⟩
    · have hdet' : (dataArrived t s).mp.det = .warmup := hdet
      rw [hexec, pipeline, hdet']
      dsimp only
      rw [warmupSample_first (s := dataArrived t s) _ hcount]
      exact congrArg _ (countRecovery_arrived hlost t _)
    · have hdet' : (dataArrived t s).mp.det = .warmup := hdet
      rw [hexec, pipeline, hdet']
      dsimp only
      rw [warmupSample_later (s := dataArrived t s) _ hcount]
      exact congrArg _ (countRecovery_arrived hlost t _)
    · have hdet' : (dataArrived t s).mp.det = .quiet := hdet
      have hno : ¬onsetTest (cfg s).onsetRatio (cfg s).lmin (average (cfg s).ks (sampleU p m) m.sta) m.lta = true := by
        rw [onsetTest_iff, Int.not_le]
        exact hbelow
      have hquiet : quietSample p (dataArrived t s) = _ := if_neg hno
      rw [hexec, pipeline, hdet']
      dsimp only
      rw [hquiet]
      exact congrArg _ (countRecovery_arrived hlost t _)

/-! ## The samples of a self-test -/

theorem measureSample_later (p : Sample) (h : s.mp.testCount ≠ 39) : measureSample p s = s.setMp { s.mp with
    testCount := s.mp.testCount + 1
    testSum := if 20 ≤ s.mp.testCount then s.mp.testSum + sampleAz p s.mp else s.mp.testSum } := by
  unfold measureSample
  dsimp only
  rw [if_neg (by omega)]
  simp only [Nat.lt_succ_iff]

theorem measureSample_last (p : Sample) (h : s.mp.testCount = 39) : measureSample p s = takeVerdict (s.setMp { s.mp with
    testCount := 40, testSum := s.mp.testSum + sampleAz p s.mp }) := by
  unfold measureSample
  simp [h]

theorem settleSample_later (p : Sample) (h : s.mp.settleCount ≠ 399) : settleSample p s =
    s.setMp { updateBaselines p s.mp with settleCount := s.mp.settleCount + 1 } := by
  unfold settleSample
  dsimp only
  rw [if_neg (by omega)]

theorem settleSample_last (p : Sample) (h : s.mp.settleCount = 399) : settleSample p s = endSettle (sampleU p s.mp)
    (s.setMp { updateBaselines p s.mp with settleCount := s.mp.settleCount + 1 }) := by
  unfold settleSample
  dsimp only
  rw [if_pos (by omega)]

theorem endSettle_quiet (v : Nat) (h : s.mp.testPart = .passed ∨ s.mp.testPart = .aborted)
    (hfrom : s.mp.testFromIdle = false) : endSettle v s = s.setMp { s.mp with
      testDue := nextTestDue s, det := .quiet, sta := 16 * (v : Int), lta := 16 * (v : Int) } := by
  unfold endSettle
  rcases h with h | h
  all_goals simp only [h, hfrom]

theorem endSettle_warmup (v : Nat) (h : s.mp.testPart = .passed) (hfrom : s.mp.testFromIdle = true) :
    endSettle v s = s.setMp { s.mp with testDue := nextTestDue s, det := .warmup, warmupCount := 0 } := by
  unfold endSettle
  simp only [h, hfrom]

theorem endSettle_idle (v : Nat) (h : s.mp.testPart = .failed ∨ (s.mp.testPart = .aborted ∧ s.mp.testFromIdle = true)) :
    endSettle v s = s.setMp { s.mp with testDue := nextTestDue s, det := .idle } := by
  unfold endSettle
  rcases h with h | ⟨h, hfrom⟩
  · simp only [h]
  · simp only [h, hfrom]

/-- The test's outcome on the sum of its last 20 samples (R26). -/
def testPasses (c : NodeConfig) (sum : Int) : Bool :=
  decide ((c.dmin : Int) ≤ sum / 20) && decide (sum / 20 ≤ (c.dmax : Int))

theorem testPasses_iff (c : NodeConfig) (sum : Int) :
    testPasses c sum = true ↔ (c.dmin : Int) ≤ sum / 20 ∧ sum / 20 ≤ (c.dmax : Int) := by
  simp [testPasses]

theorem takeVerdict_facts (s : State) : viewKept (takeVerdict s) = viewKept (followFault .selftestFail
      (!testPasses (cfg s) s.mp.testSum) (s.setMp { s.mp with
        deflection := false, settleCount := 0
        testPart := if testPasses (cfg s) s.mp.testSum then .passed else .failed })) :=
  viewKept_followExclusion _ _

/-- The verdict sets the outcome, with SELFTEST-FAIL as the outcome has it (R26). -/
theorem takeVerdict_outcome (s : State) (pass : Bool) (hpass : testPasses (cfg s) s.mp.testSum = pass) :
    SameAround s (takeVerdict s) ∧ (takeVerdict s).nodeTime = s.nodeTime ∧
      (takeVerdict s).mp = { s.mp with deflection := false, settleCount := 0
                                       testPart := if pass then .passed else .failed } ∧
      active .selftestFail (takeVerdict s) = !pass ∧ active .sensorLost (takeVerdict s) = active .sensorLost s ∧
      (pass = false → active .selftestFail s = false → hasFault .selftestFail (takeVerdict s).hm.sticky = true) := by
  have kept := takeVerdict_facts s
  rw [hpass] at kept
  obtain ⟨htime, hmp, hpins, hphase, hpending, -⟩ := viewKept_fields kept
  rw [followFault_eq] at htime hmp hpins hphase hpending
  refine ⟨⟨hpins, hphase, hpending⟩, htime, hmp, ?_, ?_, ?_⟩
  · rw [viewKept_active kept .selftestFail (by decide) (by decide), active_followFault]
  · rw [viewKept_active kept .sensorLost (by decide) (by decide), active_followFault_other (by decide)]
    rfl
  · intro hfail hclear
    rw [viewKept_sticky kept .selftestFail (by decide) (by decide), hfail]
    exact sticky_followFault_raised hclear

/-- Settles O9. -/
theorem selfTestSamplesAndVerdict : Obligations.SelfTestSamplesAndVerdict := by
  unfold Obligations.SelfTestSamplesAndVerdict
  constructor
  · intro t x y z s h hdet hlost m p settled due level
    have hexec := exec_dataReady h.taken h.sampling x y z
    have hdet' : (dataArrived t s).mp.det = .masked := hdet
    rw [pipeline, hdet'] at hexec
    rw [hexec]
    dsimp only
    have hsettle : m.testPart ≠ .measuring → maskedSample p (dataArrived t s) = settleSample p (dataArrived t s) :=
      fun hpart => if_neg hpart
    have hlast (hpart : m.testPart ≠ .measuring) (hcount : m.settleCount = 399) := (hsettle hpart).trans
      (settleSample_last (s := dataArrived t s) p hcount)
    refine ⟨fun hpart hcount => ?_, fun hpart hcount => ?_, fun hcount hpart hfrom => ?_, fun hcount hpart hfrom => ?_,
      fun hcount hpart => ?_⟩
    · have hmeasure : maskedSample p (dataArrived t s) = measureSample p (dataArrived t s) := if_pos hpart
      rw [hmeasure, measureSample_later (s := dataArrived t s) p hcount]
      exact congrArg _ (countRecovery_arrived hlost t _)
    · rw [hsettle hpart, settleSample_later (s := dataArrived t s) p hcount]
      exact congrArg _ (countRecovery_arrived hlost t _)
    · have hpart' : m.testPart ≠ .measuring := by rcases hpart with hp | hp <;> simp [hp]
      rw [hlast hpart' hcount, endSettle_quiet _ (by exact hpart) (by exact hfrom)]
      exact congrArg _ (countRecovery_arrived hlost t _)
    · rw [hlast (by simp [hpart]) hcount, endSettle_warmup _ (by exact hpart) (by exact hfrom)]
      exact congrArg _ (countRecovery_arrived hlost t _)
    · have hpart' : m.testPart ≠ .measuring := by rcases hpart with hp | ⟨hp, -⟩ <;> simp [hp]
      rw [hlast hpart' hcount, endSettle_idle _ (by exact hpart)]
      exact congrArg _ (countRecovery_arrived hlost t _)
  · intro t x y z s h hdet hpart hcount hlost sum pass
    have hdet' : (dataArrived t s).mp.det = .masked := hdet
    have hmeasure : maskedSample (sampleOf x y z) (dataArrived t s) = measureSample (sampleOf x y z) (dataArrived t s) :=
      if_pos hpart
    have hlast := measureSample_last (s := dataArrived t s) (sampleOf x y z) hcount
    have hpass : decide pass = testPasses (cfg s) sum := by
      rw [Bool.eq_iff_iff, decide_eq_true_iff, testPasses_iff]
    obtain ⟨around, time, mp, hfail, hlostu, hsticky⟩ := takeVerdict_outcome ((dataArrived t s).setMp {
      (dataArrived t s).mp with testCount := 40, testSum := sum }) (decide pass) hpass.symm
    refine ⟨_, ?_, around, time, ?_, ?_, ?_⟩
    · rw [exec_dataReady h.taken h.sampling, pipeline, hdet']
      dsimp only
      rw [hmeasure, hlast]
      exact congrArg _ (countRecovery_awake (hlostu.trans hlost))
    · have hpart : (if decide pass = true then TestPart.passed else .failed) = if pass then .passed else .failed := by
        simp only [decide_eq_true_eq]
      rw [mp, hpart]
      rfl
    · rw [hfail, decide_not]
    · exact fun hp hclear => hsticky (decide_eq_false hp) hclear

/-! ## The loss of the sensor and its recovery -/

theorem followExclusion_observation (b : Bool) (s : State) (j : StationId) :
    (peer (followExclusion b s) j).observation = (peer s j).observation := by
  unfold followExclusion
  split
  · rfl
  · have hpv : (voteTest (refreshOwnWindow s)).pv = (refreshOwnWindow s).pv :=
      (voteKept_fields (voteKept_voteTest _)).2.2.1
    have hpeer : peer (voteTest (refreshOwnWindow s)) j = peer (refreshOwnWindow s) j := by unfold peer; rw [hpv]
    rw [hpeer]
    by_cases hj : ownId s = j
    · subst hj
      change (peer (setPeer (ownId s) _ s) (ownId s)).observation = _
      rw [peer_setPeer_same]
    · exact congrArg PeerEntry.observation (peer_setPeer_other hj _ s)

/-- What the end of an own event or of a self-test by the loss of the sensor leaves alone (R6). -/
structure EndedByLoss (s u : State) : Prop where
  around : SameAround s u
  time : u.nodeTime = s.nodeTime
  missing : u.mp.missingCount = s.mp.missingCount ∧ u.mp.missingDue = s.mp.missingDue
  baselines : u.mp.baseX = s.mp.baseX ∧ u.mp.baseY = s.mp.baseY ∧ u.mp.baseZ = s.mp.baseZ
  averages : u.mp.sta = s.mp.sta ∧ u.mp.lta = s.mp.lta
  event : u.mp.event = s.mp.event ∧ u.mp.grade = s.mp.grade

theorem abortTest_endedByLoss (s : State) : EndedByLoss s (abortTest s) := by
  unfold abortTest
  split
  all_goals exact ⟨⟨rfl, rfl, rfl⟩, rfl, ⟨rfl, rfl⟩, ⟨rfl, rfl, rfl⟩, ⟨rfl, rfl⟩, rfl, rfl⟩

theorem endTestByLoss_endedByLoss (s : State) : EndedByLoss s (endTestByLoss s) := by
  obtain ⟨around, time, missing, baselines, averages, event⟩ := abortTest_endedByLoss s
  exact ⟨around, time, missing, baselines, averages, event⟩

/-- The END report of an own event that the loss of the sensor ends (R6). -/
theorem eventEnded_reported (h : s.mp.det = .event) :
    Reported .ended (s.setMp { s.mp with det := .event, inProgress := false }) (eventEnded s) := by
  rw [eventEnded, if_pos h]
  exact issueReport_reported ..

theorem eventEnded_endedByLoss (s : State) : EndedByLoss s (eventEnded s) := by
  by_cases h : s.mp.det = .event
  · obtain ⟨around, time, mp, -⟩ := eventEnded_reported h
    exact ⟨around, time, by rw [mp]; exact ⟨rfl, rfl⟩, by rw [mp]; exact ⟨rfl, rfl, rfl⟩, by rw [mp]; exact ⟨rfl, rfl⟩,
      by rw [mp]; exact ⟨rfl, rfl⟩⟩
  · rw [eventEnded, if_neg h]
    exact ⟨⟨rfl, rfl, rfl⟩, rfl, ⟨rfl, rfl⟩, ⟨rfl, rfl, rfl⟩, ⟨rfl, rfl⟩, rfl, rfl⟩

theorem EndedByLoss.trans {v : State} (h : EndedByLoss s u) (k : EndedByLoss u v) : EndedByLoss s v := by
  obtain ⟨⟨a1, a2, a3⟩, b, ⟨c1, c2⟩, ⟨d1, d2, d3⟩, ⟨e1, e2⟩, f1, f2⟩ := h
  obtain ⟨⟨a1', a2', a3'⟩, b', ⟨c1', c2'⟩, ⟨d1', d2', d3'⟩, ⟨e1', e2'⟩, f1', f2'⟩ := k
  exact ⟨⟨a1'.trans a1, a2'.trans a2, a3'.trans a3⟩, b'.trans b, ⟨c1'.trans c1, c2'.trans c2⟩,
    ⟨d1'.trans d1, d2'.trans d2, d3'.trans d3⟩, ⟨e1'.trans e1, e2'.trans e2⟩, f1'.trans f1, f2'.trans f2⟩

theorem beforeLoss_endedByLoss (s : State) : EndedByLoss s (beforeLoss s) := by
  have ended := eventEnded_endedByLoss s
  unfold beforeLoss
  split
  · exact ended.trans (endTestByLoss_endedByLoss _)
  · exact ended

/-- An own event in progress is ended, and no self-test with it. -/
theorem beforeLoss_event (h : s.mp.det = .event) : beforeLoss s = eventEnded s := by
  obtain ⟨-, -, mp, -⟩ := eventEnded_reported h
  exact if_neg (by rw [mp]; exact DetState.noConfusion)

/-- A self-test in its measuring samples is aborted with its notice (R28). -/
theorem beforeLoss_measuring (h : s.mp.det = .masked) (hpart : s.mp.testPart = .measuring) :
    (beforeLoss s).mp.deflection = false ∧ hasFault .selftestAborted (beforeLoss s).hm.sticky = true := by
  have hno : eventEnded s = s := if_neg (by rw [h]; decide)
  have hmeasuring : measuring s = true := by simp [measuring, h, hpart]
  have hb : beforeLoss s = endTestByLoss s := by rw [beforeLoss, hno, if_pos h]
  rw [hb, endTestByLoss, abortTest, if_pos hmeasuring]
  exact ⟨rfl, hasFault_putFault_same ..⟩

theorem loseSensor_kept (s : State) : viewKept (loseSensor s) = viewKept (raiseFault .sensorLost
    ((beforeLoss s).setMp { (beforeLoss s).mp with recovery := 0, det := .idle })) := by
  rw [loseSensor_eq]
  exact viewKept_followExclusion _ _

/-- The 40th missing sample raises SENSOR-LOST (R5, R6). -/
theorem countMissing_last (h : s.mp.missingCount = 39) : countMissing s = loseSensor (s.setMp { s.mp with
    missingCount := 40, recovery := 0, missingDue := s.mp.missingDue.map (fun d => d + 50) }) := by
  unfold countMissing
  simp [h]

theorem countMissing_early (h : s.mp.missingCount ≤ 40) (hn : s.mp.missingCount ≠ 39) : countMissing s = s.setMp {
    s.mp with missingCount := min 40 (s.mp.missingCount + 1), recovery := 0
              missingDue := s.mp.missingDue.map (fun d => d + 50) } :=
  if_neg (by omega)

theorem exec_missingDeadline (h : RunsAt t s) (hdue : s.mp.missingDue = some d) (hd : d ≤ t) :
    exec (.missingDeadline t) s = .next (countMissing (s.setNodeTime t)) := by
  have hfalls : missingFalls (s.setNodeTime t) = true := by
    have hd : due s.mp.missingDue (s.setNodeTime t) = true := by rw [hdue]; exact due_of_le hd
    rw [missingFalls, show sampling (s.setNodeTime t) = true from h.sampling]
    exact hd
  have hexec : exec (.missingDeadline t) s = .next (missingDeadline (advance t s)) := rfl
  rw [hexec, h.taken, missingDeadline, if_pos hfalls]

theorem afterRecovery_eq (h : u.phase = .running) : afterRecovery u = u.setMp { u.mp with
    det := if configured u = true ∧ active .selftestFail u = false then .warmup else u.mp.det
    warmupCount := if configured u = true ∧ active .selftestFail u = false then 0 else u.mp.warmupCount } := by
  have hwork : (working u && !active .selftestFail u) = true ↔ configured u = true ∧ active .selftestFail u = false := by
    simp [working, Machine.running, h]
  unfold afterRecovery
  by_cases hc : configured u = true ∧ active .selftestFail u = false
  · rw [if_pos (hwork.mpr hc), if_pos hc, if_pos hc]
  · rw [if_neg (fun hw => hc (hwork.mp hw)), if_neg hc, if_neg hc]
    rfl

/-- Settles O10. -/
theorem sensorLossAndRecovery : Obligations.SensorLossAndRecovery := by
  unfold Obligations.SensorLossAndRecovery
  refine ⟨?early, ?lost, ?recovered⟩
  case early =>
    intro t d s h hdue hd hcount hn
    rw [exec_missingDeadline h hdue hd, countMissing_early (by exact hcount) (by exact hn)]
    have hnext : Option.map (fun d => d + 50) (s.setNodeTime t).mp.missingDue = some (d + 50) :=
      congrArg (Option.map _) hdue
    rw [hnext]
    rfl
  case lost =>
    intro t d s h hdue hd hcount
    have hnext : Option.map (fun d => d + 50) (s.setNodeTime t).mp.missingDue = some (d + 50) :=
      congrArg (Option.map _) hdue
    have hexec := exec_missingDeadline h hdue hd
    rw [countMissing_last (by exact hcount), hnext] at hexec
    generalize hw : (s.setNodeTime t).setMp _ = w at hexec
    have hmp : w.mp = { s.mp with missingCount := 40, recovery := 0, missingDue := some (d + 50) } := by rw [← hw]; rfl
    have kept := loseSensor_kept w
    have hum := loseSensor_mp w
    obtain ⟨htime, -, hpins, hphase, hpending, -⟩ := viewKept_fields kept
    rw [raiseFault_eq] at htime hpins hphase hpending
    obtain ⟨⟨pins, phase, pending⟩, time, ⟨hmc, hmd⟩, ⟨bx, by', bz⟩, ⟨hsta, hlta⟩, hev, hgr⟩ := beforeLoss_endedByLoss w
    rw [hmp] at hmc hmd bx by' bz hsta hlta hev hgr
    have hws : w.nodeTime = t ∧ w.pins = s.pins ∧ w.phase = s.phase ∧ w.pending = s.pending ∧ ownId w = ownId s := by
      rw [← hw]; exact ⟨rfl, rfl, rfl, rfl, rfl⟩
    obtain ⟨wtime, wpins, wphase, wpending, wid⟩ := hws
    have hdet : w.mp.det = s.mp.det := by rw [hmp]
    refine ⟨_, hexec, ⟨(hpins.trans pins).trans wpins, (hphase.trans phase).trans wphase,
      (hpending.trans pending).trans wpending⟩, (htime.trans time).trans wtime, ?_, ?_, ?_, ?_, ?_, ?_, ?_, ?_, ?_, ?_,
      ?_, ?_, ?_, ?_, ?_⟩
    · rw [viewKept_active kept .sensorLost (by decide) (by decide), active_raiseFault_same]
    · rw [viewKept_sticky kept .sensorLost (by decide) (by decide), sticky_raiseFault_same]
    all_goals rw [hum]
    · exact hmc
    · exact hmd
    · exact bx
    · exact by'
    · exact bz
    · exact hsta
    · exact hlta
    · exact hev
    · exact hgr
    · intro hevent
      have hwe := hdet.trans hevent
      obtain ⟨-, -, mp, -, ⟨o, ho, he, hph, -, hg, -⟩, -⟩ := eventEnded_reported hwe
      rw [beforeLoss_event hwe, mp]
      refine ⟨rfl, rfl, o, ?_, ?_, hph, ?_⟩
      · rw [loseSensor_eq, followExclusion_observation, raiseFault_eq, beforeLoss_event hwe, ← wid]
        exact ho
      · exact he.trans (by rw [← hw]; rfl)
      · exact hg.trans (by rw [← hw]; rfl)
    · intro hmasked hpart
      obtain ⟨hdefl, hnotice⟩ := beforeLoss_measuring (hdet.trans hmasked) (by rw [hmp]; exact hpart)
      refine ⟨hdefl, ?_⟩
      rw [viewKept_sticky kept .selftestAborted (by decide) (by decide), sticky_raiseFault_other (by decide)]
      exact hnotice
  case recovered =>
    intro t x y z s h hdet hlost hr
    have hdet' : (dataArrived t s).mp.det = .idle := hdet
    have hexec := exec_dataReady h.taken h.sampling x y z
    rw [pipeline, hdet'] at hexec
    dsimp only at hexec
    rw [countRecovery_recovered (by exact hlost) (by exact hr)] at hexec
    generalize hv : idleSample (sampleOf x y z) (dataArrived t s) = v at hexec
    have kept := viewKept_followExclusion (excluded v) (clearFault .sensorLost (v.setMp { v.mp with recovery := 0 }))
    have hclear := viewKept_active kept .sensorLost (by decide) (by decide)
    rw [active_clearFault_same] at hclear
    have hfail := viewKept_active kept .selftestFail (by decide) (by decide)
    rw [active_clearFault_other (by decide)] at hfail
    rw [clearFault_eq] at kept hclear hfail hexec
    obtain ⟨htime, hmp, hpins, hphase, hpending, hconfig, -⟩ := viewKept_fields kept
    generalize followExclusion (excluded v) _ = w at *
    have hrun : w.phase = .running := hphase.trans (by rw [← hv]; exact h.1)
    have hconf : configured w = configured s := by unfold configured; rw [hconfig, ← hv]; rfl
    have hfail' : active .selftestFail w = active .selftestFail s := by rw [hfail, ← hv]; rfl
    rw [afterRecovery_eq hrun, hconf, hfail'] at hexec
    refine ⟨_, hexec, ⟨?_, ?_, ?_⟩, ?_, hclear, ?_, ?_, ?_, ?_⟩
    · rw [← hv] at hpins; exact hpins
    · rw [← hv] at hphase; exact hphase
    · rw [← hv] at hpending; exact hpending
    · rw [← hv] at htime; exact htime
    · exact congrArg MotionState.recovery hmp
    · rw [← hv] at hmp; exact congrArg MotionState.missingCount hmp
    · have hd : w.mp.det = .idle := by rw [hmp, ← hv]; exact hdet
      exact ite_congr rfl (fun _ => rfl) fun _ => hd
    · rw [← hv] at hmp; exact congrArg MotionState.baseZ hmp

end Sys2Proof.Machine

/-! The deadlines of the Zone Sequencer, the requests that the trip record takes, and the record's writes (sections 7.3
to 7.5, 9.3, 10.4 and 10.5). -/

namespace Sys2Proof.Machine

variable {s u : State} {t d : Nat}

/-! ## A deadline that falls due in a running part -/

/-- A deadline of a running part falls due at its time or later. -/
theorem RunsAt.falls (h : RunsAt t s) {o : Option Nat} (ho : o = some d) (hd : d ≤ t) :
    (Machine.running (s.setNodeTime t) && due o (s.setNodeTime t)) = true := by
  have hdue : due o (s.setNodeTime t) = true := by rw [ho]; exact due_of_le hd
  rw [h.running, hdue]
  rfl

theorem causesEmpty_iff (c : Causes) : causesEmpty c = true ↔ c = noCauses := by
  obtain ⟨a, b, c, d, e, f⟩ := c
  simp [causesEmpty, noCauses, and_assoc]

theorem leavePause_stays (h : s.zs.st ≠ .paused ∨ s.zs.pause ≠ noCauses) : leavePause s = s := by
  refine if_neg fun ⟨hst, hempty⟩ => ?_
  rcases h with h | h
  · exact h hst
  · exact h ((causesEmpty_iff _).mp hempty)

theorem leavePause_begins (hst : s.zs.st = .paused) (hpause : s.zs.pause = noCauses) : leavePause s = beginStage s :=
  if_pos ⟨hst, (causesEmpty_iff _).mpr hpause⟩

theorem holdFalls_watch (h : s.zs.st = .watch) : holdFalls s =
    if (cfg s).gpermit ≤ s.zs.grade ∨ recordPermit s = true then
      place .status (s.setZs { s.zs with st := .awaitPermit, holdDue := none })
    else beginStage s := by
  have hne : s.zs.st ≠ .awaitPermit := by rw [h]; decide
  have henter : enterState .awaitPermit (s.setZs { s.zs with holdDue := none }) =
      place .status (s.setZs { s.zs with st := .awaitPermit, holdDue := none }) := if_neg hne
  unfold holdFalls
  dsimp only
  rw [show (s.setZs { s.zs with holdDue := none }).zs.st = .watch from h, henter]
  rfl

theorem holdFalls_paused (h : s.zs.st = .paused) : holdFalls s = leavePause (s.setZs { s.zs with
    holdDue := none, pause := { s.zs.pause with aftershock := false } }) := by
  unfold holdFalls
  dsimp only
  rw [show (s.setZs { s.zs with holdDue := none }).zs.st = .paused from h]
  dsimp only
  rw [← h]
  rfl

/-- Settles O37. -/
theorem holdDeadline_holds : Obligations.HoldDeadline := by
  unfold Obligations.HoldDeadline
  intro t d s h hdue hd
  have hexec : exec (.holdDeadline t) s = .next (Machine.holdDeadline (advance t s)) := rfl
  have hfalls (hruns : holdRuns s = true) : exec (.holdDeadline t) s = .next (holdFalls (s.setNodeTime t)) := by
    have hboth := Bool.and_eq_true_iff.mp (h.falls hdue hd)
    have hf : holdTimeFalls (s.setNodeTime t) = true := by
      rw [holdTimeFalls, hboth.1, show holdRuns (s.setNodeTime t) = true from hruns]
      exact hboth.2
    rw [hexec, h.taken, Machine.holdDeadline, if_pos hf]
  have hwatch (hst : s.zs.st = .watch) : holdRuns s = true := by simp [holdRuns, hst]
  have hpaused (hst : s.zs.st = .paused) (hc : s.zs.pause.aftershock = true) : holdRuns s = true := by
    simp [holdRuns, hst, hc]
  refine ⟨fun hst hpermit => ?_, fun hst hbelow hno => ?_, fun hst hc hmore => ?_, fun hst hpause => ?_⟩
  · rw [hfalls (hwatch hst), holdFalls_watch (s := s.setNodeTime t) hst, if_pos (by exact hpermit)]
    rfl
  · have hnot : ¬((cfg (s.setNodeTime t)).gpermit ≤ (s.setNodeTime t).zs.grade ∨ recordPermit (s.setNodeTime t) = true) := by
      rintro (hg | hp)
      · exact absurd hbelow (Nat.not_lt.mpr hg)
      · exact absurd (hno.symm.trans hp) (by decide)
    rw [hfalls (hwatch hst), holdFalls_watch (s := s.setNodeTime t) hst, if_neg hnot]
  · have hstays : ({ s.zs.pause with aftershock := false } : Causes) ≠ noCauses := by
      intro hempty
      refine hmore ?_
      rw [← hempty, ← hc]
    rw [hfalls (hpaused hst hc), holdFalls_paused (s := s.setNodeTime t) hst, leavePause_stays (.inr hstays)]
    rfl
  · have hempty : ({ s.zs.pause with aftershock := false } : Causes) = noCauses := by rw [hpause]; rfl
    rw [hfalls (hpaused hst (by rw [hpause])), holdFalls_paused (s := s.setNodeTime t) hst,
      leavePause_begins (by exact hst) (by exact hempty)]
    rfl

/-- Settles O38. -/
theorem waitsBeginAStage : Obligations.WaitsBeginAStage := by
  unfold Obligations.WaitsBeginAStage
  intro t d s h hd
  refine ⟨fun hst hdue => ?_, fun hst hdue => ?_, fun hdue hst hpause => ?_, fun hdue hmore => ?_⟩
  · have hexec : exec (.startWait t) s = .next (startWait (advance t s)) := rfl
    have hboth := Bool.and_eq_true_iff.mp (h.falls hdue hd)
    have hf : startFalls (s.setNodeTime t) = true := by
      rw [startFalls, hboth.1, show ((s.setNodeTime t).zs.st == .starting) = true from beq_iff_eq.mpr hst]
      exact hboth.2
    rw [hexec, h.taken, startWait, if_pos hf]
  · have hexec : exec (.restartGapDeadline t) s = .next (restartGapDeadline (advance t s)) := rfl
    have hboth := Bool.and_eq_true_iff.mp (h.falls hdue hd)
    have hf : restartGapFalls (s.setNodeTime t) = true := by
      rw [restartGapFalls, hboth.1, show ((s.setNodeTime t).zs.st == .restarting) = true from beq_iff_eq.mpr hst]
      exact hboth.2
    rw [hexec, h.taken, restartGapDeadline, if_pos hf]
  all_goals
    have hexec : exec (.resetDeadline t) s = .next (resetDeadline (advance t s)) := rfl
    rw [hexec, h.taken, resetDeadline, if_pos (by exact h.falls hdue hd)]
  · have hempty : ({ s.zs.pause with reset := false } : Causes) = noCauses := by rw [hpause]; rfl
    rw [leavePause_begins (by exact hst) (by exact hempty)]
    rfl
  · rw [leavePause_stays hmore]
    rfl

end Sys2Proof.Machine

/-! The requests that the trip record takes, and the record's writes (sections 10.4 and 10.5). -/

namespace Sys2Proof.Machine

variable {s u : State} {t d : Nat}

/-! ## Writes -/

/-- The record state behind the start of a write (R197). -/
def writeStarted (again : Bool) (now : Nat) (r : RecordState) : RecordState :=
  let next := { r.record with sequence := (r.record.sequence + 1) % 65536 }
  { r with record := next, writeInFlight := true, rewritePending := false, retry := again
           attemptDue := some (now + 200), writeBytes := recordBytes next }

theorem startRewrite_eq (s : State) : startRewrite s =
    s.setRcp (if s.rcp.rewritePending then writeStarted false s.nodeTime s.rcp else s.rcp) := by
  unfold startRewrite
  by_cases h : s.rcp.rewritePending
  · rw [if_pos h, if_pos h]
    rfl
  · rw [if_neg h, if_neg h]
    rfl

theorem sticky_followFault_clear (f : FaultId) (s : State) : (followFault f false s).hm.sticky = s.hm.sticky := by
  unfold followFault
  rw [if_neg Bool.false_ne_true]
  split
  · exact sticky_clearFault f s
  · rfl

/-- RECORD-FAIL and RECORD-LOST as a completed write leaves them (R197). -/
theorem faultsAfterWrite (s : State) : ∃ hm, followFault .recordLost false (followFault .recordFail false s) = s.setHm hm ∧
    active .recordFail (s.setHm hm) = false ∧ active .recordLost (s.setHm hm) = false ∧ hm.sticky = s.hm.sticky := by
  have heq : followFault .recordLost false (followFault .recordFail false s) =
      s.setHm (followFault .recordLost false (followFault .recordFail false s)).hm := by
    rw [followFault_eq .recordLost, followFault_eq .recordFail]
    rfl
  refine ⟨_, heq, ?_, ?_, ?_⟩
  · rw [← heq, active_followFault_other (by decide), active_followFault]
  · rw [← heq, active_followFault]
  · rw [sticky_followFault_clear, sticky_followFault_clear]

/-- Settles O45. -/
theorem recordIsWritten : Obligations.RecordIsWritten := by
  unfold Obligations.RecordIsWritten
  intro t d s h hflight hdue next started idle
  have hflight' : (s.setNodeTime t).rcp.writeInFlight = true := hflight
  have hack : exec (.recordWriteAck t) s = .next (recordWriteAck (s.setNodeTime t)) := by
    rw [← h.taken]
    rfl
  have hattempt (hd : d ≤ t) : attemptFalls (s.setNodeTime t) = true := by
    have hboth := Bool.and_eq_true_iff.mp (h.falls hdue hd)
    rw [attemptFalls, hboth.1, hflight']
    exact hboth.2
  have hexec : exec (.attemptDeadline t) s = .next (attemptDeadline (s.setNodeTime t)) := by
    rw [← h.taken]
    rfl
  refine ⟨?_, fun hd hfailed => ?_, fun hfailed => ?_, fun hd hretry => ?_, fun hd hretry => ?_⟩
  · have hrun : Machine.running s = true := by simp [Machine.running, h.1]
    rw [writeTransfer, if_pos (by rw [hrun, hflight]; rfl)]
    rfl
  · have hopen : writeOpen (s.setNodeTime t) = true := by
      have hf : ((s.setNodeTime t).rcp.failedAt != some (s.setNodeTime t).nodeTime) = true := bne_iff_ne.mpr hfailed
      rw [writeOpen, h.running, hflight', hf, show (s.setNodeTime t).rcp.attemptDue = some d from hdue]
      exact decide_eq_true hd
    obtain ⟨hm, heq, hfail, hlost, hsticky⟩ := faultsAfterWrite ((s.setNodeTime t).setRcp {
      s.rcp with writeInFlight := false, attemptDue := none, retry := false })
    have hwritten : recordWriteAck (s.setNodeTime t) = _ := (if_pos hopen).trans ((congrArg _ heq).trans (startRewrite_eq _))
    refine ⟨_, hack.trans (congrArg _ hwritten), hfail, hlost, hsticky, rfl⟩
  · have hclosed : writeOpen (s.setNodeTime t) = false := by
      have hf : ((s.setNodeTime t).rcp.failedAt != some (s.setNodeTime t).nodeTime) = false := by
        rw [show (s.setNodeTime t).rcp.failedAt = some t from hfailed]
        exact bne_self_eq_false _
      rw [writeOpen, hf, Bool.and_false, Bool.false_and]
    rw [hack, recordWriteAck, if_neg (by rw [hclosed]; decide)]
    rfl
  · rw [hexec, attemptDeadline, if_pos (hattempt hd)]
    dsimp only
    rw [if_neg (by rw [show (s.setNodeTime t).rcp.retry = false from hretry]; decide)]
    rfl
  · have hraise := raiseFault_eq .recordFail ((s.setNodeTime t).setRcp { s.rcp with
      failedAt := some t, writeInFlight := false, attemptDue := none, retry := false })
    have hactive := active_raiseFault_same .recordFail ((s.setNodeTime t).setRcp { s.rcp with
      failedAt := some t, writeInFlight := false, attemptDue := none, retry := false })
    have hsticky := sticky_raiseFault_same .recordFail ((s.setNodeTime t).setRcp { s.rcp with
      failedAt := some t, writeInFlight := false, attemptDue := none, retry := false })
    have hfailed : attemptDeadline (s.setNodeTime t) = startRewrite (raiseFault .recordFail ((s.setNodeTime t).setRcp {
        s.rcp with failedAt := some t, writeInFlight := false, attemptDue := none, retry := false })) :=
      (if_pos (hattempt hd)).trans (if_pos hretry)
    rw [hraise] at hactive
    rw [hexec, hfailed, hraise, startRewrite_eq]
    exact ⟨_, rfl, hactive, hsticky, rfl⟩

/-! ## Requests -/

theorem setRecord_change {content : TripRecord} (h : content ≠ s.rcp.record) : setRecord content s = s.setRcp
    (if s.rcp.writeInFlight then { s.rcp with record := content, rewritePending := true }
     else writeStarted false s.nodeTime { s.rcp with record := content }) := by
  unfold setRecord writeChange
  rw [if_neg h]
  by_cases hw : s.rcp.writeInFlight
  · rw [if_pos (by exact hw), if_pos hw]
    rfl
  · rw [if_neg (by exact hw), if_neg hw]
    rfl

theorem setRecord_same (s : State) : setRecord s.rcp.record s = s := if_pos rfl

theorem takeClose_taken (h : s.rcp.lastTripReq ≠ some s.nodeTime) : takeClose s =
    if s.rcp.record.isOpen then setRecord (closedRecord s.rcp.record) (s.setRcp { s.rcp with closeWaits := false })
    else s.setRcp { s.rcp with closeWaits := false } := if_neg h

theorem takeClose_void (h : s.rcp.lastTripReq = some s.nodeTime) : takeClose s =
    (s.setRcp { s.rcp with closeWaits := false }).setZs { s.zs with grade := max s.zs.grade s.rcp.record.grade } :=
  if_pos h

theorem rcpClose_notOpen (h : s.rcp.record.isOpen = false ∨ s.rcp.lastTripReq = some s.nodeTime) :
    rcpClose s = takeClose s := by
  refine if_neg fun ⟨hopen, hreq⟩ => ?_
  rcases h with h | h
  · exact absurd (h.symm.trans hopen) Bool.false_ne_true
  · exact hreq h

theorem rcpClose_open (hopen : s.rcp.record.isOpen = true) (hreq : s.rcp.lastTripReq ≠ some s.nodeTime) :
    rcpClose s = takeClose (drawn s) ∨ rcpClose s = (drawn s).setRcp { s.rcp with closeWaits := true } := by
  unfold rcpClose
  rw [if_pos ⟨hopen, hreq⟩]
  split
  · exact .inl rfl
  · exact .inr rfl

/-- A command with a node time looks at the state through `advance` alone. -/
theorem exec_through_advance {c : Instr} (hc : commandTime c = some t) :
    ∃ f : State → State, ∀ s, exec c s = .next (f (advance t s)) := by
  cases c
  case coldReset => exact absurd hc (by simp [commandTime])
  all_goals
    obtain rfl := Option.some.inj hc
    exact ⟨_, fun _ => rfl⟩

/-- A close that waits is taken when node time moves on, before the command that moves it (R196). -/
theorem exec_takes_close {c : Instr} (hc : commandTime c = some t) (hp : s.phase = .running)
    (hw : s.rcp.closeWaits = true) (hlate : s.nodeTime < t) (hmax : t ≤ maxNodeTime) :
    exec c s = exec c ((takeClose s).setNodeTime t) := by
  obtain ⟨f, hf⟩ := exec_through_advance hc
  have hphase : (takeClose s).phase = .running := by rw [takeClose_eq]; exact hp
  have htaken : takeWaitingClose s = takeClose s := if_pos hw
  have hleave : leaveNodeTime t s = takeClose s := (if_pos ⟨hp, hlate⟩).trans htaken
  have hadv : advance t s = (takeClose s).setNodeTime t := by
    rw [advance_later (by rw [hp]; decide) (Nat.le_of_lt hlate) hmax, hleave]
  have hstands : advance t ((takeClose s).setNodeTime t) = (takeClose s).setNodeTime t :=
    advance_running hphase (Nat.le_refl t) hmax (.inr rfl)
  rw [hf, hf, hadv, hstands]

/-- Settles O44. -/
theorem recordTakesRequests : Obligations.RecordTakesRequests := by
  unfold Obligations.RecordTakesRequests
  intro s r
  refine ⟨fun content h => setRecord_change h, setRecord_same s, fun own origin votes grade stations => rfl, ?_,
    fun g => ?_, ?_, ⟨fun h => takeClose_taken h, fun h => takeClose_void h⟩, rcpClose_notOpen, rcpClose_open,
    fun c t hc hp hw hlate hmax => exec_takes_close hc hp hw hlate hmax⟩
  · rfl
  · rfl
  · unfold rcpPermit
    by_cases hopen : recordOpen s = true
    case neg => rw [if_neg hopen, if_neg (fun h => hopen h.1)]
    case pos =>
      rw [if_pos hopen]
      by_cases hpermit : s.rcp.record.permit = true
      case pos =>
        have hsame : ({ s.rcp.record with permit := true } : TripRecord) = s.rcp.record := by rw [← hpermit]
        rw [if_neg (fun h => absurd (hpermit.symm.trans h.2) (by decide)), hsame, setRecord_same]
      case neg => rw [if_pos ⟨hopen, Bool.eq_false_iff.mpr hpermit⟩]

end Sys2Proof.Machine

/-! Stage commands, and the start of a restart stage (sections 5.4, 8.2, 9.2 and 9.3). -/

namespace Sys2Proof.Machine

variable {s u : State} {t d : Nat} {c : Channel} {cmd : ChanCmd} {named : List Channel}

/-! ## A stage command -/

theorem followUnconfirmed_eq (s : State) : followUnconfirmed s = s.setHm (followUnconfirmed s).hm := followFault_eq _ _ s

theorem stageCommand_eq (named : List Channel) (cmd : ChanCmd) (s : State) : stageCommand named cmd s =
    (s.setCd { runs := commandRuns named cmd s }).setHm (stageCommand named cmd s).hm := followUnconfirmed_eq _

theorem chan_stageCommand (named : List Channel) (cmd : ChanCmd) (s : State) (c : Channel) :
    chan (stageCommand named cmd s) c =
      if c ∈ named then (chan s c).map (commandChannel (chanCfg s c) cmd s.nodeTime) else chan s c := by
  rw [stageCommand_eq]
  have hchan : chan ((s.setCd { runs := commandRuns named cmd s }).setHm (stageCommand named cmd s).hm) c =
      (commandRuns named cmd s)[c.val]'c.isLt := rfl
  rw [hchan]
  simp [commandRuns]

theorem commandChannel_cmd (k : ChannelConfig) (cmd : ChanCmd) (now : Nat) (r : ChanRun) :
    (commandChannel k cmd now r).cmd = cmd := by
  unfold commandChannel
  split
  next h => exact h
  · unfold takeConfirmation
    split
    · rfl
    · split <;> rfl

theorem commandChannel_same {r : ChanRun} (h : r.cmd = cmd) (k : ChannelConfig) (now : Nat) :
    commandChannel k cmd now r = r := if_pos h

/-- The level of an acknowledge input fits a command (R103). -/
theorem levelMatches_iff (cmd : ChanCmd) (reads : Bool) : levelMatches cmd reads = true ↔ reads = decide (cmd = .shut) := by
  cases cmd <;> simp [levelMatches]

/-- A command other than the one that stands is confirmed at once when no level contradicts it, and pending for its full
timeout otherwise (R104, R105). -/
theorem commandChannel_other {r : ChanRun} (h : r.cmd ≠ cmd) (k : ChannelConfig) (now : Nat) :
    commandChannel k cmd now r = { r with
      cmd := cmd, disagree := false, since := now
      conf := if k.ackUsed = false ∨ r.readsShut = decide (cmd = .shut) then .confirmed else .pending
      ackDue := if k.ackUsed = false ∨ r.readsShut = decide (cmd = .shut) then none
        else some (now + k.ackTimeout * 1000) } := by
  unfold commandChannel
  rw [if_neg h]
  unfold takeConfirmation
  by_cases hused : k.ackUsed = true
  case neg =>
    have hu := Bool.eq_false_iff.mpr hused
    rw [if_pos (by rw [hu]; rfl), if_pos (.inl hu), if_pos (.inl hu)]
  case pos =>
    rw [if_neg (by rw [hused]; decide)]
    by_cases hfits : r.readsShut = decide (cmd = .shut)
    · rw [if_pos (by exact (levelMatches_iff ..).mpr hfits), if_pos (.inr hfits), if_pos (.inr hfits)]
    · have hno : ¬(k.ackUsed = false ∨ r.readsShut = decide (cmd = .shut)) := by
        rw [hused]; exact fun ho => ho.elim nofun hfits
      rw [if_neg (fun hm => hfits ((levelMatches_iff ..).mp hm)), if_neg hno, if_neg hno]

/-- CHANNEL-UNCONFIRMED follows the unconfirmed set (R110). -/
theorem active_followUnconfirmed (s : State) : active .channelUnconfirmed (followUnconfirmed s) = true ↔
    ∃ c r, chan (followUnconfirmed s) c = some r ∧ r.conf = .unconfirmed := by
  have hchan (c : Channel) : chan (followUnconfirmed s) c = chan s c := by rw [followUnconfirmed_eq]; rfl
  have hactive : active .channelUnconfirmed (followUnconfirmed s) = allChannels.any (isUnconfirmed s) :=
    active_followFault ..
  rw [hactive, List.any_eq_true]
  simp only [hchan]
  constructor
  · rintro ⟨c, -, hc⟩
    obtain ⟨r, hr, hu⟩ := (isUnconfirmed_iff s c).mp hc
    exact ⟨c, r, hr, hu⟩
  · rintro ⟨c, r, hr, hu⟩
    exact ⟨c, mem_allChannels c, (isUnconfirmed_iff s c).mpr ⟨r, hr, hu⟩⟩

theorem pendingFor_iff (cmd : ChanCmd) (s : State) (c : Channel) : pendingFor cmd s c = true ↔
    ∃ r, chan s c = some r ∧ r.conf = .pending ∧ r.cmd = cmd := by
  unfold pendingFor
  split
  next r hr => simp [hr]
  next hr => simp [hr]

theorem mem_pendingSet (named : List Channel) (cmd : ChanCmd) (s : State) (c : Channel) :
    c ∈ pendingSet named cmd s ↔ c ∈ named ∧ pendingFor cmd s c = true := List.mem_filter

theorem hasCmd_iff (cmd : ChanCmd) (s : State) (c : Channel) : hasCmd cmd s c = true ↔
    ∃ r, chan s c = some r ∧ r.cmd = cmd := by
  unfold hasCmd
  split
  next r hr => simp [hr]
  next hr => simp [hr]

theorem outputOf_some {r : ChanRun} (h : chan s c = some r) : outputOf s c =
    match (chanCfg s c).kind, r.cmd with
    | .permit, .run => .pairToggling r.since
    | .permit, .shut => .pairLow
    | .request, .run => .line false
    | .request, .shut => .line true := by
  unfold outputOf
  rw [h]
  cases (chanCfg s c).kind <;> cases hcmd : r.cmd <;> simp [hcmd]

/-- Settles O32. -/
theorem stageCommandChangesNamedChannels : Obligations.StageCommandChangesNamedChannels := by
  unfold Obligations.StageCommandChangesNamedChannels
  intro named cmd s
  have heq := stageCommand_eq named cmd s
  have hchan := chan_stageCommand named cmd s
  have hunconf : active .channelUnconfirmed (stageCommand named cmd s) = true ↔
    ∃ c r, chan (stageCommand named cmd s) c = some r ∧ r.conf = .unconfirmed := active_followUnconfirmed _
  generalize stageCommand named cmd s = u at heq hchan hunconf ⊢
  obtain ⟨runs, heq⟩ : ∃ cd, u = (s.setCd cd).setHm u.hm := ⟨_, heq⟩
  have hcfg (c : Channel) : chanCfg u c = chanCfg s c := by rw [heq]; rfl
  refine ⟨?_, fun c hc => (hchan c).trans (if_neg hc), ?_, ?_, ?_, ?_, hunconf, ?_⟩
  · rw [heq]; rfl
  · intro c hc
    rw [hchan, hc]
    exact ite_self _
  · intro c r hc hr hcmd
    rw [hchan, if_pos hc, hr, Option.map_some, commandChannel_same hcmd]
  · intro c r hc hr hcmd fits
    rw [hchan, if_pos hc, hr, Option.map_some, commandChannel_other hcmd]
  · intro c
    rw [mem_pendingSet, pendingFor_iff]
  · intro c r hr
    have hout := outputOf_some hr
    rw [hcfg] at hout
    exact hout

/-! ## The start of a restart stage -/

theorem enterState_eq (q : SeqState) (s : State) :
    enterState q s = (s.setZs { s.zs with st := q }).setSlc (enterState q s).slc := by
  unfold enterState
  split
  next h => rw [← h]; rfl
  · rw [queueStatus, place_setSlc]
    rfl

theorem enterState_same {q : SeqState} (h : s.zs.st = q) : enterState q s = s := if_pos h

theorem enterState_other {q : SeqState} (h : s.zs.st ≠ q) :
    enterState q s = place .status (s.setZs { s.zs with st := q }) := if_neg h

theorem mem_shutInRestart (r : Nat) (s : State) (c : Channel) : c ∈ shutInRestart r s ↔
    (∃ q, chan s c = some q ∧ q.cmd = .shut) ∧ (chanCfg s c).restartStage = r := by
  simp [shutInRestart, mem_allChannels, hasCmd_iff]

/-- What the start of restart stage `r` makes of the zone (R178). -/
structure StageRuns (r : Nat) (s u : State) : Prop where
  zs : ∃ waiver, u.zs = { s.zs with
    st := .restarting, restartStage := some r, unconfMark := false, waiver := waiver, runPending := u.zs.runPending
    inrushDue := some (s.nodeTime + irOf (cfg s) r * 1000) }
  icu : u.icu = s.icu
  rcp : u.rcp = s.rcp
  named : ∀ c ∈ shutInRestart r s, hasCmd .run u c = true
  others : ∀ c, c ∉ shutInRestart r s → chan u c = chan s c
  pending : ∀ c, c ∈ u.zs.runPending ↔ c ∈ shutInRestart r s ∧ pendingFor .run u c = true

/-- `s` with restart stage `r` entered, before its stage command (R178). -/
def stageEntered (r : Nat) (s : State) : State :=
  let s1 := enterState .restarting s
  s1.setZs { s1.zs with restartStage := some r, unconfMark := false
                        waiver := if s1.zs.waiver = some r then none else s1.zs.waiver }

theorem stageEntered_eq (r : Nat) (s : State) : ∃ slc w, stageEntered r s = (s.setSlc slc).setZs { s.zs with
    st := .restarting, restartStage := some r, unconfMark := false, waiver := w } := by
  unfold stageEntered
  rw [enterState_eq]
  exact ⟨_, _, rfl⟩

theorem runStage_eq (r : Nat) (s : State) : runStage r s =
    let s1 := stageCommand (shutInRestart r s) .run (stageEntered r s)
    s1.setZs { s1.zs with runPending := pendingSet (shutInRestart r s) .run s1
                          inrushDue := some (s.nodeTime + irOf (cfg s) r * 1000) } := by
  unfold runStage stageEntered
  dsimp only

theorem runStage_runs (r : Nat) (s : State) : StageRuns r s (runStage r s) := by
  rw [runStage_eq]
  dsimp only
  obtain ⟨slc, w, hentered⟩ := stageEntered_eq r s
  have hchan := chan_stageCommand (shutInRestart r s) .run (stageEntered r s)
  have heq := stageCommand_eq (shutInRestart r s) .run (stageEntered r s)
  have hchan0 (c : Channel) : chan (stageEntered r s) c = chan s c := by rw [hentered]; rfl
  generalize stageCommand (shutInRestart r s) .run (stageEntered r s) = v at hchan heq ⊢
  obtain ⟨cd, heq⟩ : ∃ cd, v = ((stageEntered r s).setCd cd).setHm v.hm := ⟨_, heq⟩
  rw [hentered] at heq
  have hzs : v.zs = { s.zs with st := .restarting, restartStage := some r, unconfMark := false, waiver := w } := by
    rw [heq]; rfl
  refine ⟨⟨w, by rw [hzs]; rfl⟩, ?_, ?_, fun c hc => ?_, fun c hc => ?_, mem_pendingSet _ _ v⟩
  · have hicu : v.icu = s.icu := by rw [heq]; rfl
    exact hicu
  · have hrcp : v.rcp = s.rcp := by rw [heq]; rfl
    exact hrcp
  · obtain ⟨⟨q, hq, -⟩, -⟩ := (mem_shutInRestart r s c).mp hc
    have hnew := hchan c
    rw [if_pos hc, hchan0, hq, Option.map_some] at hnew
    exact (hasCmd_iff .run v c).mpr ⟨_, hnew, commandChannel_cmd ..⟩
  · exact ((hchan c).trans (if_neg hc)).trans (hchan0 c)

/-! ## The verdict on a claim -/

theorem settles (h : RunsAt t s) (hown : s.icu.own = .settling) (hdue : s.icu.settleDue = some d) (hd : d ≤ t) :
    exec (.settleDeadline t) s = .next (if verdictConfirms (s.setNodeTime t) then
      zsConfirm ((s.setNodeTime t).setIcu { s.icu with own := .inForce, settleDue := none })
      else withdrawAtSettle (s.setNodeTime t)) := by
  have hexec : exec (.settleDeadline t) s = .next (settleDeadline (advance t s)) := rfl
  have hboth := Bool.and_eq_true_iff.mp (h.falls hdue hd)
  have hf : settleFalls (s.setNodeTime t) = true := by
    rw [settleFalls, hboth.1, show ((s.setNodeTime t).icu.own == .settling) = true from beq_iff_eq.mpr hown]
    exact hboth.2
  rw [hexec, h.taken, settleDeadline, if_pos hf]
  rfl

theorem verdictConfirms_iff (s : State) : verdictConfirms s = true ↔
    s.icu.settleError = false ∧ claimPrefixSum s ≤ (cfg s).b := by
  simp [verdictConfirms]

/-- Settles O40. -/
theorem claimVerdict : Obligations.ClaimVerdict := by
  unfold Obligations.ClaimVerdict
  intro t d s h hown hdue hd own sum
  have hconfirms : verdictConfirms (s.setNodeTime t) = true ↔ s.icu.settleError = false ∧ sum ≤ (cfg s).b :=
    verdictConfirms_iff (s.setNodeTime t)
  rw [settles h hown hdue hd]
  constructor
  · intro herr hsum
    rw [if_pos (hconfirms.mpr ⟨herr, hsum⟩)]
    have hicu : ∃ v, v = (s.setNodeTime t).setIcu { s.icu with own := .inForce, settleDue := none } := ⟨_, rfl⟩
    obtain ⟨v, hv⟩ := hicu
    rw [← hv]
    have kept := zoneKept_zsConfirm v
    obtain ⟨htime, hmp, hpv, hvtu, hpins, hphase, hpending⟩ := zoneKept_fields kept
    have hvs : v.nodeTime = t ∧ v.zs = s.zs ∧ v.cd = s.cd ∧ v.rcp = s.rcp ∧ shutInRestart s.zs.nextRestart v =
      shutInRestart s.zs.nextRestart s ∧ cfg v = cfg s := by rw [hv]; exact ⟨rfl, rfl, rfl, rfl, rfl, rfl⟩
    obtain ⟨vtime, vzs, vcd, vrcp, vshut, vcfg⟩ := hvs
    have hvicu : v.icu = { s.icu with own := .inForce, settleDue := none } := by rw [hv]; rfl
    by_cases hst : s.zs.st = .claiming
    case pos =>
      have hrun : zsConfirm v = runStage s.zs.nextRestart v := by
        rw [zsConfirm, if_pos (by rw [vzs]; exact hst), vzs]
      obtain ⟨⟨w, hzs⟩, hicu, hrcp, hnamed, hothers, hpend⟩ := runStage_runs s.zs.nextRestart v
      rw [vshut] at hnamed hothers hpend
      rw [vtime, vcfg] at hzs
      rw [hrun] at htime hmp hpv hvtu hpins hphase hpending ⊢
      generalize runStage s.zs.nextRestart v = u at *
      have hsame : v.mp = s.mp ∧ v.pv = s.pv ∧ v.vtu = s.vtu ∧ v.pins = s.pins ∧ v.phase = s.phase ∧
        v.pending = s.pending := by rw [hv]; exact ⟨rfl, rfl, rfl, rfl, rfl, rfl⟩
      obtain ⟨vmp, vpv, vvtu, vpins, vphase, vpending⟩ := hsame
      have hvchan (c : Channel) : chan v c = chan s c := by unfold chan; rw [vcd]
      refine ⟨u, rfl, ⟨hpins.trans vpins, hphase.trans vphase, hpending.trans vpending⟩, htime.trans vtime,
        hicu.trans hvicu, hmp.trans vmp, hpv.trans vpv, hvtu.trans vvtu, hrcp.trans vrcp,
        fun _ => ⟨?_, ?_, ?_, ?_, hnamed, fun c hc => (hothers c hc).trans (hvchan c), hpend⟩, fun hn => absurd hst hn⟩
      all_goals rw [hzs]
    case neg =>
      have hstay : zsConfirm v = v := if_neg (by rw [vzs]; exact hst)
      rw [hstay]
      refine ⟨v, rfl, ?_, vtime, hvicu, ?_, ?_, ?_, vrcp, fun h => absurd h hst, fun _ => ⟨vzs, vcd⟩⟩
      all_goals rw [hv]
      · exact ⟨rfl, rfl, rfl⟩
      all_goals rfl
  · intro hno
    have hnot : ¬verdictConfirms (s.setNodeTime t) = true := fun hc => by
      obtain ⟨herr, hsum⟩ := hconfirms.mp hc
      rcases hno with hno | hno
      · exact absurd (herr.symm.trans hno) (by decide)
      · exact absurd hsum (Nat.not_le.mpr hno)
    rw [if_neg hnot]
    rfl

end Sys2Proof.Machine

/-! The beginning of a restart stage (sections 9.2 and 9.3). -/

namespace Sys2Proof.Machine

variable {s u : State} {r : Nat}

/-! ## The restart stage to run -/

theorem nextStageToRun_some (hlow : 1 ≤ r) (hhigh : r ≤ 8) (hnext : s.zs.nextRestart ≤ r) (hshut : shutInRestart r s ≠ [])
    (hleast : ∀ j, 1 ≤ j → s.zs.nextRestart ≤ j → j < r → shutInRestart j s = []) : nextStageToRun s = some r := by
  have hr : (decide (s.zs.nextRestart ≤ r) && !(shutInRestart r s).isEmpty) = true := by simp [hnext, hshut]
  have hbelow (j : Nat) (hj : 1 ≤ j) (hlt : j < r) :
      (decide (s.zs.nextRestart ≤ j) && !(shutInRestart j s).isEmpty) = false := by
    by_cases hn : s.zs.nextRestart ≤ j
    · rw [hleast j hj hn hlt]
      exact Bool.and_false _
    · rw [decide_eq_false hn, Bool.false_and]
  have hfind : allStages.find? (fun r => decide (s.zs.nextRestart ≤ r) && !(shutInRestart r s).isEmpty) = some r := by
    have hsplit : allStages = List.range' 1 (r - 1) ++ r :: List.range' (r + 1) (8 - r) := by
      have hcases : ∀ r : Nat, r < 9 → 1 ≤ r → allStages = List.range' 1 (r - 1) ++ r :: List.range' (r + 1) (8 - r) := by decide
      exact hcases r (by omega) (by omega)
    rw [hsplit, List.find?_append, List.find?_eq_none.mpr, Option.none_or]
    · exact List.find?_cons_of_pos hr
    · intro j hj
      obtain ⟨hj1, hj2⟩ := List.mem_range'_1.mp hj
      rw [hbelow j hj1 (by omega)]
      exact Bool.false_ne_true
  exact hfind

theorem nextStageToRun_none (h : ∀ r, 1 ≤ r → r ≤ 8 → s.zs.nextRestart ≤ r → shutInRestart r s = []) :
    nextStageToRun s = none := by
  refine List.find?_eq_none.mpr fun r hr => ?_
  have hbounds : 1 ≤ r ∧ r ≤ 8 := by
    have hmem : ∀ k ∈ allStages, 1 ≤ k ∧ k ≤ 8 := by decide
    exact hmem r hr
  by_cases hn : s.zs.nextRestart ≤ r
  · simp [h r hbounds.1 hbounds.2 hn]
  · simp [hn]

theorem precheck_iff (r : Nat) (s : State) : precheck r s = true ↔ ∀ c ∈ shutInRestart r s,
    (chanCfg s c).ackUsed = true → ∀ q, chan s c = some q → q.readsShut = true := by
  have hruns (c : Channel) : runsInPrecheck s c = false ↔
      ((chanCfg s c).ackUsed = true → ∀ q, chan s c = some q → q.readsShut = true) := by
    unfold runsInPrecheck
    split
    next q hq => simp [hq]
    next hq => simp [hq]
  simp [precheck, hruns]

/-! ## The four ends of a beginning -/

/-- `s` with the state that a restart stage begins from left (R174). -/
def stageLeft (s : State) : State :=
  s.setZs { s.zs with holdDue := none, startDue := none, restartGap := none, pause := noCauses }

theorem pauseWith_eq (c : Causes) (s : State) :
    ∃ slc, pauseWith c s = (s.setZs { s.zs with pause := c, st := .paused }).setSlc slc := by
  unfold pauseWith
  rw [enterState_eq]
  exact ⟨_, rfl⟩

theorem beginStage_console (h : s.zs.consoleHold = true) :
    beginStage s = pauseWith { noCauses with console := true } (stageLeft s) := if_pos h

theorem beginStage_reset (h : s.zs.consoleHold = false) (hr : s.zs.resetDue.isSome = true) :
    beginStage s = pauseWith { noCauses with reset := true } (stageLeft s) :=
  (if_neg fun ht => absurd (h.symm.trans ht) (by decide)).trans (if_pos hr)

theorem beginStage_free (h : s.zs.consoleHold = false ∧ s.zs.resetDue = none) : beginStage s =
    match nextStageToRun (stageLeft s) with
    | some r => beginPrecheck r ((stageLeft s).setZs { (stageLeft s).zs with nextRestart := r })
    | none => completeRestart (stageLeft s) :=
  (if_neg fun ht => absurd (h.1.symm.trans ht) (by decide)).trans
    (if_neg (by rw [Option.not_isSome_iff_eq_none]; exact h.2))

/-- The deadlines that a beginning cancels are cancelled (R135, R138, R181). -/
def Cancelled (s : State) : Prop := s.zs.holdDue = none ∧ s.zs.startDue = none ∧ s.zs.restartGap = none

theorem cancelled_stageLeft (s : State) : Cancelled (stageLeft s) := ⟨rfl, rfl, rfl⟩

theorem Cancelled.pauses (h : Cancelled s) (c : Causes) : Cancelled (pauseWith c s) := by
  obtain ⟨slc, heq⟩ := pauseWith_eq c s
  rw [heq]
  exact h

theorem Cancelled.runsStage (h : Cancelled s) (r : Nat) : Cancelled (runStage r s) := by
  obtain ⟨⟨w, hzs⟩, -⟩ := runStage_runs r s
  rw [Cancelled, hzs]
  exact h

theorem requestClaim_eq (w d : Nat) (s : State) : requestClaim w d s = (s.setIcu { s.icu with
    own := .queued, lastNumber := (s.icu.lastNumber + 1) % 256, weight := w, duration := d, backoffDue := none }).setSlc
      (requestClaim w d s).slc := by
  unfold requestClaim makeClaim
  dsimp only
  rw [place_setSlc]
  rfl

theorem Cancelled.beginsClaim (h : Cancelled s) (r : Nat) : Cancelled (beginClaim r s) := by
  have h1 : Cancelled (s.setZs { s.zs with stageWeight := weightOfStage r s }) := h
  unfold beginClaim
  dsimp only
  split
  · exact h1.runsStage r
  · split
    · rw [requestClaim_eq, enterState_eq]
      exact h
    · split
      · exact h1.runsStage r
      · exact h1.pauses _

theorem Cancelled.beginsPrecheck (h : Cancelled s) (r : Nat) : Cancelled (beginPrecheck r s) := by
  unfold beginPrecheck
  split
  · exact h.beginsClaim r
  · split
    · exact Cancelled.beginsClaim (s := s.setZs { s.zs with checkedStage := none }) h r
    · exact Cancelled.pauses (s := s.setZs { s.zs with checkedStage := some r }) h _

theorem cancelled_beginStage (s : State) : Cancelled (beginStage s) := by
  have left := cancelled_stageLeft s
  cases hconsole : s.zs.consoleHold with
  | true => rw [beginStage_console hconsole]; exact left.pauses _
  | false =>
    cases hreset : s.zs.resetDue with
    | some d => rw [beginStage_reset hconsole (by rw [hreset]; rfl)]; exact left.pauses _
    | none =>
      rw [beginStage_free ⟨hconsole, hreset⟩]
      cases nextStageToRun (stageLeft s) with
      | some r =>
        have next : Cancelled ((stageLeft s).setZs { (stageLeft s).zs with nextRestart := r }) := left
        exact next.beginsPrecheck r
      | none =>
        dsimp only
        rw [completeRestart, rcpClose_eq, enterState_eq]
        exact left

/-! ## A stage to run -/

/-- `s` with restart stage `r` chosen and weighed (R175 to R177). -/
def stageWeighed (r : Nat) (checked : Option Nat) (s : State) : State :=
  s.setZs { s.zs with holdDue := none, startDue := none, restartGap := none, pause := noCauses, nextRestart := r
                      checkedStage := checked, stageWeight := weightOfStage r s }

/-- What a weighed stage comes to (R177): it runs at once, it is claimed, or it waits for the line. -/
theorem beginClaim_weighed (r : Nat) (checked : Option Nat) (s : State) :
    beginClaim r ((stageLeft s).setZs { (stageLeft s).zs with nextRestart := r, checkedStage := checked }) =
      if weightOfStage r s = 0 then runStage r (stageWeighed r checked s)
      else if lineUsable s then
        requestClaim (weightOfStage r s) (irOf (cfg s) r) (enterState .claiming (stageWeighed r checked s))
      else if weightOfStage r s ≤ (cfg s).a then runStage r (stageWeighed r checked s)
      else pauseWith { noCauses with line := true } (stageWeighed r checked s) := rfl

section

variable (hfree : s.zs.consoleHold = false ∧ s.zs.resetDue = none) (hnext : nextStageToRun s = some r)

include hfree hnext

theorem beginStage_chosen :
    beginStage s = beginPrecheck r ((stageLeft s).setZs { (stageLeft s).zs with nextRestart := r }) := by
  rw [beginStage_free hfree, show nextStageToRun (stageLeft s) = some r from hnext]

theorem beginStage_fails (hw : s.zs.waiver ≠ some r) (hcheck : precheck r s ≠ true) : beginStage s =
    pauseWith { noCauses with precheck := true } ((stageLeft s).setZs {
      (stageLeft s).zs with nextRestart := r, checkedStage := some r }) := by
  rw [beginStage_chosen hfree hnext]
  exact (if_neg hw).trans (if_neg hcheck)

theorem beginStage_passes (h : s.zs.waiver = some r ∨ precheck r s = true) : ∃ checked, beginStage s =
    beginClaim r ((stageLeft s).setZs { (stageLeft s).zs with nextRestart := r, checkedStage := checked }) := by
  rw [beginStage_chosen hfree hnext]
  by_cases hw : s.zs.waiver = some r
  · exact ⟨s.zs.checkedStage, if_pos hw⟩
  · exact ⟨none, (if_neg hw).trans (if_pos (h.resolve_left hw))⟩

end

/-! ## No stage left -/

theorem completeRestart_eq (s : State) : ∃ slc, completeRestart s = rcpClose ((s.setZs { s.zs with
    st := .running, grade := 0, currentStage := 0, nextRestart := 1, checkedStage := none, waiver := none }).setSlc slc) := by
  unfold completeRestart
  rw [enterState_eq]
  exact ⟨_, rfl⟩

theorem setRecord_zs (r : TripRecord) (s : State) : (setRecord r s).zs = s.zs := by rw [setRecord_eq]; rfl

/-- A close that is not void: the record is closed, or its close waits (R182, R196). -/
theorem rcpClose_closes (h : s.rcp.lastTripReq ≠ some s.nodeTime) : (rcpClose s).zs.grade = s.zs.grade ∧
    recordOpen (rcpClose s) = false ∧
    (s.rcp.record.isOpen = true →
      ((rcpClose s).rcp.closeWaits = false ∧ (rcpClose s).rcp.record = { s.rcp.record with
        isOpen := false, permit := false, grade := 0, sequence := (rcpClose s).rcp.record.sequence }) ∨
      (rcpClose s).rcp = { s.rcp with closeWaits := true }) ∧
    (s.rcp.record.isOpen = false → (rcpClose s).rcp = { s.rcp with closeWaits := false }) := by
  cases hopen : s.rcp.record.isOpen with
  | false =>
    have hshut : takeClose s = s.setRcp { s.rcp with closeWaits := false } :=
      (takeClose_taken h).trans (if_neg (by rw [hopen]; decide))
    rw [rcpClose_notOpen (.inl hopen), hshut]
    refine ⟨rfl, ?_, nofun, fun _ => rfl⟩
    simp [recordOpen, State.setRcp, hopen]
  | true =>
    rcases rcpClose_open hopen h with heq | heq
    · have htaken : takeClose (drawn s) = setRecord (closedRecord s.rcp.record) ((drawn s).setRcp {
          s.rcp with closeWaits := false }) := (takeClose_taken (s := drawn s) h).trans (if_pos hopen)
      obtain ⟨hrecord, hwaits, -⟩ := setRecord_rcp (closedRecord s.rcp.record) ((drawn s).setRcp {
        s.rcp with closeWaits := false })
      rw [heq, htaken]
      refine ⟨congrArg _ (setRecord_zs ..), ?_, fun _ => .inl ⟨hwaits, hrecord⟩, nofun⟩
      rw [recordOpen, hrecord]
      rfl
    · rw [heq]
      refine ⟨rfl, ?_, fun _ => .inr rfl, nofun⟩
      simp [recordOpen, State.setRcp]

theorem rcpClose_void (h : s.rcp.lastTripReq = some s.nodeTime) :
    (rcpClose s).zs.grade = max s.zs.grade s.rcp.record.grade ∧ (rcpClose s).rcp = { s.rcp with closeWaits := false } := by
  rw [rcpClose_notOpen (.inr h), takeClose_void h]
  exact ⟨rfl, rfl⟩

theorem inOrder_enterState (q : SeqState) (h : InOrder s.slc.queue) : InOrder (enterState q s).slc.queue := by
  unfold enterState
  split
  · exact h
  · exact InOrder.place (s := s.setZs { s.zs with st := q }) h .status

/-- A claim requested is in the queue (R158). -/
theorem mem_requestClaim (w d : Nat) (h : InOrder s.slc.queue) :
    .claim ((s.icu.lastNumber + 1) % 256) w d ∈ (requestClaim w d s).slc.queue := by
  rcases mem_place (.claim ((s.icu.lastNumber + 1) % 256) w d) (s := s.setIcu { s.icu with
    own := .queued, lastNumber := (s.icu.lastNumber + 1) % 256, weight := w, duration := d, backoffDue := none }) h with
    hmem | ⟨hno, -⟩
  · exact hmem
  · cases hno

/-- Which of the three ends a weighed stage comes to (R177). -/
theorem weighed_cases {v x y z : State} {w a : Nat} {usable : Bool}
    (h : v = if w = 0 then x else if usable then y else if w ≤ a then x else z) :
    (v = x ∧ (w = 0 ∨ (usable = false ∧ w ≤ a))) ∨ (v = y ∧ w ≠ 0 ∧ usable = true) ∨
      (v = z ∧ w ≠ 0 ∧ usable = false ∧ a < w) := by
  by_cases hw : w = 0
  · exact .inl ⟨by rw [h, if_pos hw], .inl hw⟩
  · rw [if_neg hw] at h
    cases usable with
    | true => exact .inr (.inl ⟨h, hw, rfl⟩)
    | false =>
      by_cases ha : w ≤ a
      · exact .inl ⟨by rw [h, if_neg Bool.false_ne_true, if_pos ha], .inr ⟨rfl, ha⟩⟩
      · exact .inr (.inr ⟨by rw [h, if_neg Bool.false_ne_true, if_neg ha], hw, rfl, Nat.not_le.mp ha⟩)

/-- Settles O42. -/
theorem restartStageBegins : Obligations.RestartStageBegins := by
  unfold Obligations.RestartStageBegins
  intro s u free
  obtain ⟨htime, hmp, hpv, hvtu, hpins, hphase, hpending⟩ := zoneKept_fields (zoneKept_beginStage s)
  obtain ⟨hhold, hstart, hgap⟩ := cancelled_beginStage s
  have hta : u.zs.ta = s.zs.ta := (ZoneMoves.refl.beginsStage : ZoneMoves s (beginStage s)).ta_consoleHold.1
  refine ⟨hmp, hpv, hvtu, ⟨hpins, hphase, hpending⟩, htime, hhold, hstart, hgap, hta, fun hconsole => ?_,
    fun hconsole hreset => ?_, fun hfree r hlow hhigh hnext hshut hleast => ?_, fun hfree hnone => ?_⟩
  · obtain ⟨slc, heq⟩ := pauseWith_eq { noCauses with console := true } (stageLeft s)
    have hu : u = _ := (beginStage_console hconsole).trans heq
    rw [hu]
    exact ⟨rfl, rfl, rfl, rfl, rfl⟩
  · obtain ⟨slc, heq⟩ := pauseWith_eq { noCauses with reset := true } (stageLeft s)
    have hu : u = _ := (beginStage_reset hconsole hreset).trans heq
    rw [hu]
    exact ⟨rfl, rfl, rfl, rfl, rfl⟩
  · have hchosen := nextStageToRun_some hlow hhigh hnext hshut hleast
    intro w passes
    have hpasses : passes ↔ s.zs.waiver = some r ∨ precheck r s = true := or_congr Iff.rfl (precheck_iff r s).symm
    by_cases hp : passes
    case neg =>
      have hno := not_or.mp (fun ho => hp (hpasses.mpr ho))
      obtain ⟨slc, heq⟩ := pauseWith_eq { noCauses with precheck := true } ((stageLeft s).setZs {
        (stageLeft s).zs with nextRestart := r, checkedStage := some r })
      have hu : u = _ := (beginStage_fails hfree hchosen hno.1 hno.2).trans heq
      rw [hu]
      exact ⟨rfl, rfl, fun _ => ⟨rfl, rfl, rfl, rfl, rfl⟩, fun h => absurd h hp, fun h => absurd h hp,
        fun h => absurd h hp⟩
    case pos =>
      obtain ⟨checked, hbegin⟩ := beginStage_passes hfree hchosen (hpasses.mp hp)
      have hends : u = _ := hbegin.trans (beginClaim_weighed r checked s)
      rcases weighed_cases hends with ⟨hu, hwhen⟩ | ⟨hu, hw, hline⟩ | ⟨hu, hw, hline, hmore⟩
      · obtain ⟨⟨waiver, hzs⟩, hicu, hrcp, hnamed, hothers, -⟩ := runStage_runs r (stageWeighed r checked s)
        rw [← hu] at hzs hicu hrcp hnamed hothers
        have hst : u.zs.st = .restarting ∧ u.zs.pause = noCauses ∧ u.zs.restartStage = some r ∧ u.zs.stageWeight = w ∧
            u.zs.inrushDue = some (s.nodeTime + irOf (cfg s) r * 1000) ∧ u.zs.nextRestart = r := by
          rw [hzs]
          exact ⟨rfl, rfl, rfl, rfl, rfl, rfl⟩
        obtain ⟨hst, hpause, hstage, hweight, hinrush, hnextu⟩ := hst
        refine ⟨hnextu, hrcp, fun h => absurd hp h,
          fun _ _ => ⟨hst, hpause, hstage, hweight, hinrush, hicu, hnamed, hothers⟩, ?_, ?_⟩
        · intro _ hw hline
          rcases hwhen with h0 | ⟨hl, -⟩
          · exact absurd h0 hw
          · exact absurd (hl.symm.trans hline) Bool.false_ne_true
        · intro _ hline hmore hw
          rcases hwhen with h0 | ⟨-, hle⟩
          · exact absurd h0 hw
          · exact absurd hmore (Nat.not_lt.mpr hle)
      · have hclaims := mem_requestClaim w (irOf (cfg s) r) (s := enterState .claiming (stageWeighed r checked s))
        have hicu : (enterState .claiming (stageWeighed r checked s)).icu = s.icu := by rw [enterState_eq]; rfl
        rw [hicu, ← show u = requestClaim w _ _ from hu] at hclaims
        have horder (hq : queueOk s = true) := inOrder_enterState .claiming (s := stageWeighed r checked s)
          ((queueOk_iff s).mp hq)
        rw [requestClaim_eq, enterState_eq] at hu
        have hfacts : u.zs.st = .claiming ∧ u.zs.pause = noCauses ∧ u.zs.stageWeight = w ∧ u.cd = s.cd ∧
            u.icu = { s.icu with own := .queued, lastNumber := (s.icu.lastNumber + 1) % 256, weight := w
                                 duration := irOf (cfg s) r, backoffDue := none } ∧
            u.zs.nextRestart = r ∧ u.rcp = s.rcp := by
          rw [hu]
          exact ⟨rfl, rfl, rfl, rfl, rfl, rfl, rfl⟩
        obtain ⟨hst, hpause, hweight, hcd, hicu, hnextu, hrcp⟩ := hfacts
        refine ⟨hnextu, hrcp, fun h => absurd hp h, fun _ hrun => ?_,
          fun _ _ _ => ⟨hst, hpause, hweight, hcd, hicu, fun hq => hclaims (horder hq)⟩,
          fun _ hl => absurd (hl.symm.trans hline) Bool.false_ne_true⟩
        rcases hrun with h0 | ⟨hl, -⟩
        · exact absurd h0 hw
        · exact absurd (hl.symm.trans hline) Bool.false_ne_true
      · obtain ⟨slc, heq⟩ := pauseWith_eq { noCauses with line := true } (stageWeighed r checked s)
        rw [heq] at hu
        rw [hu]
        refine ⟨rfl, rfl, fun h => absurd hp h, fun _ hrun => ?_, fun _ _ hl => absurd (hline.symm.trans hl) Bool.false_ne_true,
          fun _ _ _ _ => ⟨rfl, rfl, rfl, rfl⟩⟩
        rcases hrun with h0 | ⟨-, hle⟩
        · exact absurd h0 hw
        · exact absurd hmore (Nat.not_lt.mpr hle)
  · have hu : u = completeRestart (stageLeft s) := by
      rw [show u = beginStage s from rfl, beginStage_free hfree,
        show nextStageToRun (stageLeft s) = none from nextStageToRun_none hnone]
    obtain ⟨slc, heq⟩ := completeRestart_eq (stageLeft s)
    rw [hu, heq]
    generalize hv : ((stageLeft s).setZs _).setSlc slc = v
    have hcloses := rcpClose_closes (s := v)
    have hvoid := rcpClose_void (s := v)
    have heqv := rcpClose_eq v
    generalize rcpClose v = x at hcloses hvoid heqv ⊢
    rw [← hv] at hcloses hvoid
    have hfacts : x.zs.st = .running ∧ x.zs.currentStage = 0 ∧ x.zs.nextRestart = 1 ∧ x.zs.pause = noCauses ∧
        x.zs.checkedStage = none ∧ x.zs.waiver = none ∧ x.cd = s.cd ∧ x.icu = s.icu := by
      rw [heqv, ← hv]
      exact ⟨rfl, rfl, rfl, rfl, rfl, rfl, rfl, rfl⟩
    obtain ⟨hst, hcur, hnext, hpause, hchecked, hwaiver, hcd, hicu⟩ := hfacts
    refine ⟨hst, hcur, hnext, hpause, hchecked, hwaiver, hcd, hicu, hcloses, fun hreq => ?_⟩
    obtain ⟨hgrade, hrcp⟩ := hvoid hreq
    exact ⟨hgrade.trans (Nat.zero_max _), hrcp⟩

end Sys2Proof.Machine

/-! The acknowledge inputs and their deadlines, the reports that a channel has left PENDING, and the end of a restart
stage (sections 5.3 to 5.5, 6.3, 7.6 and 9.3). -/

namespace Sys2Proof.Machine

variable {s u : State} {t d k : Nat} {c : Channel} {r : ChanRun}

/-! ## The raw level -/

theorem setChan_self (h : chan s c = some r) : setChan c (some r) s = s := by
  have hset : s.cd.runs.set c.val (some r) c.isLt = s.cd.runs := by
    rw [← h]
    exact Vector.set_getElem_self ..
  unfold setChan
  rw [hset]
  rfl

/-- Settles O31. -/
theorem acknowledgeInputIsFiltered : Obligations.AcknowledgeInputIsFiltered := by
  unfold Obligations.AcknowledgeInputIsFiltered
  intro t c high s h moved reads
  have hexec : exec (.ackInputChange t c high) s = .next (ackInputChange c high (s.setNodeTime t)) := by
    rw [← h.taken]
    rfl
  have hread (r : ChanRun) (hr : chan s c = some r) (hused : (chanCfg s c).ackUsed = true) (hraw : rawAck s c ≠ high) :
      ackInputChange c high (s.setNodeTime t) = setChan c (some (filterChange reads t r)) moved := by
    have hchan : chan (setAckPin c high (s.setNodeTime t)) c = some r := hr
    have hcond : (Machine.running (s.setNodeTime t) && (chanCfg (s.setNodeTime t) c).ackUsed &&
        rawAck (s.setNodeTime t) c != high) = true := by
      rw [h.running, show (chanCfg (s.setNodeTime t) c).ackUsed = true from hused,
        show (rawAck (s.setNodeTime t) c != high) = true from bne_iff_ne.mpr hraw]
      rfl
    unfold ackInputChange
    dsimp only
    rw [if_pos hcond, hchan]
    rfl
  rw [hexec]
  refine ⟨fun r hr hused hraw hne hdue => ?_, fun r d hr hused hraw hne hdue => ?_, fun r hr hused hraw heq => ?_,
    fun hnot => ?_⟩
  · rw [hread r hr hused hraw, filterChange, if_neg hne, hdue]
  · have hsame : setChan c (some r) moved = moved := setChan_self hr
    rw [hread r hr hused hraw, filterChange, if_neg hne, hdue]
    exact congrArg _ hsame
  · rw [hread r hr hused hraw, filterChange, if_pos heq]
  · unfold ackInputChange
    dsimp only
    split
    next hcond =>
      simp only [Bool.and_eq_true, bne_iff_ne] at hcond
      obtain ⟨⟨-, hused⟩, hraw⟩ := hcond
      have hnone : chan s c = none := by
        rcases hnot with hn | hn | hn
        · exact absurd (hn.symm.trans hused) Bool.false_ne_true
        · exact hn
        · exact absurd hn hraw
      rw [show chan (setAckPin c high (s.setNodeTime t)) c = none from hnone]
      rfl
    · rfl

/-! ## The hold that runs on -/

theorem place_setZs (e : TxEntry) (z : SeqRecord) (s : State) : place e (s.setZs z) = (s.setSlc (place e s).slc).setZs z := by
  rw [place_setSlc, place_slc e (u := s.setZs z) (s := s) rfl]
  rfl

theorem place_of_slc (e : TxEntry) (h : u.slc = s.slc) : place e u = u.setSlc (place e s).slc := by
  rw [place_setSlc, place_slc e h]

/-- A hold that has not run out moves the deadline where it runs (R135). -/
theorem recomputeHold_later (h : s.nodeTime < holdEnd s) : recomputeHold s =
    if holdRuns s then s.setZs { s.zs with holdDue := some (holdEnd s) } else s := by
  unfold recomputeHold
  rw [if_neg (Nat.not_le.mpr h)]

/-- Entry to WATCH with a hold that has not run out (R123, R136). -/
theorem enterWatch_later {v : State} (hslc : s.slc = v.slc) (hst : s.zs.st ≠ .watch) (h : s.nodeTime < holdEnd s) :
    enterWatch s = (s.setSlc (place .status v).slc).setZs {
      s.zs with st := .watch, holdDue := some (holdEnd s) } := by
  have hend : holdEnd ((s.setSlc (place .status v).slc).setZs { s.zs with st := .watch }) = holdEnd s := rfl
  rw [enterWatch, enterState_other hst, place_setZs, place_slc .status hslc,
    recomputeHold_later (by rw [hend]; exact h), hend]
  rfl

/-- PAUSED entered with causes while a hold for AFTERSHOCK has not run out (R135, R139). -/
theorem enterPaused_later {v : State} (hslc : s.slc = v.slc) (causes : Causes) (hst : s.zs.st ≠ .paused)
    (h : causes.aftershock = true → s.nodeTime < holdEnd s) : enterPaused causes s =
    (s.setSlc (place .status v).slc).setZs { s.zs with
      st := .paused, pause := causes, holdDue := if causes.aftershock then some (holdEnd s) else s.zs.holdDue } := by
  have hpause : pauseWith causes s =
      (s.setSlc (place .status v).slc).setZs { s.zs with st := .paused, pause := causes } := by
    rw [pauseWith, enterState_other (by exact hst), place_setZs, place_slc .status (by exact hslc)]
    rfl
  rw [enterPaused, hpause]
  unfold recomputeHold
  cases hc : causes.aftershock with
  | true =>
    have hruns : holdRuns ((s.setSlc (place .status v).slc).setZs { s.zs with st := .paused, pause := causes }) = true := by
      simp [holdRuns, State.setZs, hc]
    rw [if_pos hruns, if_neg (by exact Nat.not_le.mpr (h hc))]
    rfl
  | false =>
    have hruns : holdRuns ((s.setSlc (place .status v).slc).setZs { s.zs with st := .paused, pause := causes }) = false := by
      simp [holdRuns, State.setZs, hc]
    rw [if_neg (by rw [hruns]; decide)]
    rfl

/-! ## Reports that a channel has left PENDING -/

theorem stageHasChannels_iff (s : State) (k : Nat) : stageHasChannels s k = true ↔
    ∃ c, (chan s c).isSome = true ∧ (chanCfg s c).shutdownStage = k := by
  simp [stageHasChannels, shutdownChannels, List.filter_eq_nil_iff, mem_allChannels]

theorem mem_stagesAfter (j k : Nat) : j ∈ stagesAfter k ↔ 1 ≤ j ∧ j ≤ 8 ∧ k < j := by
  have hmem : j ∈ allStages ↔ 1 ≤ j ∧ j ≤ 8 := by
    simp only [allStages, List.mem_cons, List.not_mem_nil, or_false]
    omega
  rw [stagesAfter, List.mem_filter, hmem, decide_eq_true_iff, and_assoc]

/-- A later shutdown stage has channels (R121). -/
theorem later_iff (s : State) (k : Nat) : (stagesAfter k).any (stageHasChannels s) = true ↔
    ∃ j e, k < j ∧ j ≤ 8 ∧ (chan s e).isSome = true ∧ (chanCfg s e).shutdownStage = j := by
  simp only [List.any_eq_true, mem_stagesAfter, stageHasChannels_iff]
  constructor
  · rintro ⟨j, ⟨-, hj8, hkj⟩, e, he, hs⟩
    exact ⟨j, e, hkj, hj8, he, hs⟩
  · rintro ⟨j, e, hkj, hj8, he, hs⟩
    exact ⟨j, ⟨by omega, hj8, hkj⟩, e, he, hs⟩

/-- Shutdown stages of which none has channels come to WATCH at once (R121). -/
theorem runShutdown_none {l : List Nat} (h : l.any (stageHasChannels s) = false) : runShutdown l s = enterWatch s := by
  induction l with
  | nil => rfl
  | cons k ks ih =>
    rw [List.any_cons, Bool.or_eq_false_iff] at h
    rw [runShutdown, if_neg (by rw [h.1]; decide), ih h.2]

/-- Outside SHUTTING and RESTARTING the zone takes no report that a channel has left PENDING (R120, R179). -/
theorem leftPending_elsewhere (c : Channel) (b : Bool) (hshut : s.zs.st ≠ .shutting) (hrestart : s.zs.st ≠ .restarting) :
    leftPending c b s = s := by
  unfold leftPending
  split
  next h => exact absurd h hshut
  next h => exact absurd h hrestart
  all_goals rfl

section

variable (hst : s.zs.st = .shutting) (hstage : s.zs.stage = some k)

include hst hstage

theorem leftPending_shutting (b : Bool) (hmem : c ∈ s.zs.shutPending) : leftPending c b s =
    if (s.zs.shutPending.filter (fun e => e != c)).isEmpty then
      completeShutdownStage k (s.setZs { s.zs with shutPending := s.zs.shutPending.filter (fun e => e != c) })
    else s.setZs { s.zs with shutPending := s.zs.shutPending.filter (fun e => e != c) } := by
  unfold leftPending
  rw [hst]
  unfold shutdownReport
  rw [hstage]
  dsimp only
  rw [if_pos hmem]
  rfl

theorem leftPending_stageWaits (b : Bool) (hmem : c ∈ s.zs.shutPending) (hothers : ∃ e, e ∈ s.zs.shutPending ∧ e ≠ c) :
    leftPending c b s = s.setZs { s.zs with shutPending := s.zs.shutPending.filter (fun e => e != c) } := by
  obtain ⟨e, he, hec⟩ := hothers
  have hleft : e ∈ s.zs.shutPending.filter (fun e => e != c) := List.mem_filter.mpr ⟨he, bne_iff_ne.mpr hec⟩
  rw [leftPending_shutting hst hstage b hmem, if_neg]
  intro hempty
  rw [List.isEmpty_iff.mp hempty] at hleft
  exact List.not_mem_nil hleft

theorem leftPending_last (b : Bool) (hlast : s.zs.shutPending = [c]) :
    leftPending c b s = completeShutdownStage k (s.setZs { s.zs with shutPending := [] }) := by
  have hleft : s.zs.shutPending.filter (fun e => e != c) = [] := by simp [hlast]
  rw [leftPending_shutting hst hstage b (by simp [hlast]), hleft]
  rfl

theorem leftPending_gap (b : Bool) (hlast : s.zs.shutPending = [c]) (hacted : s.zs.acted = true)
    (hlater : (stagesAfter k).any (stageHasChannels s) = true) : leftPending c b s = s.setZs { s.zs with
      shutPending := [], currentStage := k, stage := none
      gapDue := some (s.nodeTime + (cfg s).shutdownGap * 1000) } := by
  rw [leftPending_last hst hstage b hlast]
  exact if_pos ⟨hacted, hlater⟩

theorem leftPending_watch (b : Bool) (hlast : s.zs.shutPending = [c])
    (hno : (stagesAfter k).any (stageHasChannels s) = false) (hhold : s.nodeTime < holdEnd s) :
    leftPending c b s = (s.setSlc (place .status s).slc).setZs { s.zs with
      shutPending := [], currentStage := k, stage := none, st := .watch, holdDue := some (holdEnd s) } := by
  rw [leftPending_last hst hstage b hlast]
  unfold completeShutdownStage
  dsimp only
  rw [if_neg (fun h => absurd (hno.symm.trans h.2) Bool.false_ne_true)]
  have hnowatch : s.zs.st ≠ .watch := by rw [hst]; decide
  rw [runShutdown_none (by exact hno), enterWatch_later (v := s) (by exact rfl) (by exact hnowatch) (by exact hhold)]
  rfl

end

section

variable (hst : s.zs.st = .restarting) (hstage : s.zs.restartStage = some k)

include hstage

theorem endIfOver_on (hon : s.zs.runPending ≠ [] ∨ s.zs.inrushDue ≠ none) : endIfOver s = s := by
  unfold endIfOver
  rw [hstage]
  refine if_neg fun h => ?_
  rcases hon with hon | hon
  · exact hon (List.isEmpty_iff.mp h.1)
  · exact hon h.2

/-- The end of a restart stage that no cause pauses (R181). -/
theorem endIfOver_gap (hleft : s.zs.runPending = []) (hdue : s.zs.inrushDue = none)
    (hcauses : causesAtStageEnd s = noCauses) : endIfOver s = s.setZs { s.zs with
      restartStage := none, nextRestart := k + 1, held := noCauses, inrushDue := none
      restartGap := some (s.nodeTime + (cfg s).restartGap * 1000) } := by
  have hend : endIfOver s = endRestartStage k s := by
    unfold endIfOver
    rw [hstage]
    exact if_pos ⟨by rw [hleft]; rfl, hdue⟩
  rw [hend]
  exact if_pos ((causesEmpty_iff _).mpr hcauses)

include hst

/-- The end of a restart stage that a cause pauses (R146, R181). -/
theorem endIfOver_pauses {v : State} (hslc : s.slc = v.slc) (hleft : s.zs.runPending = []) (hdue : s.zs.inrushDue = none)
    (hcauses : causesAtStageEnd s ≠ noCauses) : endIfOver s = (s.setSlc (place .status v).slc).setZs { s.zs with
      st := .paused, pause := causesAtStageEnd s, restartStage := none, nextRestart := k + 1, held := noCauses
      inrushDue := none, holdDue := if (causesAtStageEnd s).aftershock then some (holdEnd s) else s.zs.holdDue } := by
  have hend : endIfOver s = endRestartStage k s := by
    unfold endIfOver
    rw [hstage]
    exact if_pos ⟨by rw [hleft]; rfl, hdue⟩
  have hne : s.zs.st ≠ .paused := by rw [hst]; decide
  have hhold (ha : (causesAtStageEnd s).aftershock = true) : s.nodeTime < holdEnd s :=
    of_decide_eq_true (Bool.and_eq_true_iff.mp ha).2
  have hpauses : endRestartStage k s = enterPaused (causesAtStageEnd s) (s.setZs { s.zs with
      restartStage := none, nextRestart := k + 1, held := noCauses, inrushDue := none }) :=
    if_neg (fun hc => hcauses ((causesEmpty_iff _).mp hc))
  rw [hend, hpauses, enterPaused_later (v := v) (by exact hslc) _ (by exact hne) (by exact hhold)]
  rfl

theorem leftPending_restarting (b : Bool) (hmem : c ∈ s.zs.runPending) : leftPending c b s = endIfOver (s.setZs { s.zs with
    runPending := s.zs.runPending.filter (fun e => e != c), unconfMark := s.zs.unconfMark || b }) := by
  unfold leftPending
  rw [hst]
  unfold restartReport
  rw [hstage]
  dsimp only
  rw [if_pos hmem]

theorem leftPending_runsOn (b : Bool) (hmem : c ∈ s.zs.runPending)
    (hon : s.zs.runPending.filter (fun e => e != c) ≠ [] ∨ s.zs.inrushDue ≠ none) : leftPending c b s = s.setZs { s.zs with
      runPending := s.zs.runPending.filter (fun e => e != c), unconfMark := s.zs.unconfMark || b } := by
  rw [leftPending_restarting hst hstage b hmem, endIfOver_on (by exact hstage) (by exact hon)]

end

theorem causesAtStageEnd_eq (s : State) : causesAtStageEnd s = { s.zs.held with
    aftershock := s.zs.held.aftershock && decide (s.nodeTime < s.zs.ta + holdSeconds (cfg s) s.zs.grade * 10000)
    reset := s.zs.held.reset && (match s.zs.resetDue with | some d => decide (s.nodeTime < d) | none => false)
    channel := s.zs.held.channel || s.zs.unconfMark } := by
  have hreset : (s.zs.resetDue.isSome && !due s.zs.resetDue s) =
      (match s.zs.resetDue with | some d => decide (s.nodeTime < d) | none => false) := by
    cases s.zs.resetDue with
    | none => rfl
    | some d =>
      rw [Bool.eq_iff_iff]
      simp [due]
  unfold causesAtStageEnd
  rw [Bool.and_assoc, hreset]
  rfl

/-- An acknowledge deadline that falls due (R107). -/
theorem exec_ackDeadline (h : RunsAt t s) (hr : chan s c = some r) (hconf : r.conf = .pending) (hdue : r.ackDue = some d)
    (hd : d ≤ t) : exec (.ackDeadline t c) s = .next (leftPending c true (followUnconfirmed
      (setChan c (some { r with conf := .unconfirmed, ackDue := none }) (s.setNodeTime t)))) := by
  have hexec : exec (.ackDeadline t c) s = .next (ackDeadline c (advance t s)) := rfl
  have hchan : chan (s.setNodeTime t) c = some r := hr
  have hboth := Bool.and_eq_true_iff.mp (h.falls hdue hd)
  have hf : ackFalls c (s.setNodeTime t) = true := by
    rw [ackFalls, hboth.1, hchan]
    dsimp only
    rw [hconf, hboth.2]
    rfl
  rw [hexec, h.taken, ackDeadline, if_pos hf, hchan]

/-- A channel's fields taken, with the unconfirmed set reported (R110). -/
theorem followUnconfirmed_setChan (c : Channel) (q : ChanRun) (s : State) :
    ∃ hm, followUnconfirmed (setChan c (some q) s) = (setChan c (some q) s).setHm hm ∧
      (active .channelUnconfirmed ((setChan c (some q) s).setHm hm) = true ↔
        ∃ e p, chan (setChan c (some q) s) e = some p ∧ p.conf = .unconfirmed) ∧
      (active .channelUnconfirmed s = false → q.conf = .unconfirmed → hasFault .channelUnconfirmed hm.sticky = true) := by
  have heq := followUnconfirmed_eq (setChan c (some q) s)
  have hactive := active_followUnconfirmed (setChan c (some q) s)
  refine ⟨_, heq, ?_, fun hclear hunconf => ?_⟩
  · rw [heq] at hactive
    exact hactive
  · have hany : allChannels.any (isUnconfirmed (setChan c (some q) s)) = true :=
      List.any_eq_true.mpr ⟨c, mem_allChannels c, (isUnconfirmed_iff ..).mpr ⟨q, chan_setChan_same .., hunconf⟩⟩
    unfold followUnconfirmed
    rw [hany]
    exact sticky_followFault_raised hclear

/-- An acknowledge deadline, with what it reports (R107, R110). -/
theorem ackDeadline_reports (h : RunsAt t s) (hr : chan s c = some r) (hconf : r.conf = .pending)
    (hdue : r.ackDue = some d) (hd : d ≤ t) :
    ∃ hm, exec (.ackDeadline t c) s = .next (leftPending c true
        ((setChan c (some { r with conf := .unconfirmed, ackDue := none }) (s.setNodeTime t)).setHm hm)) ∧
      hasFault .channelUnconfirmed hm.active = true ∧
      (active .channelUnconfirmed s = false → hasFault .channelUnconfirmed hm.sticky = true) := by
  obtain ⟨hm, heq, hactive, hsticky⟩ := followUnconfirmed_setChan c { r with conf := .unconfirmed, ackDue := none }
    (s.setNodeTime t)
  refine ⟨hm, ?_, hactive.mpr ⟨c, _, chan_setChan_same .., rfl⟩, fun hclear => hsticky hclear rfl⟩
  rw [exec_ackDeadline h hr hconf hdue hd, heq]

theorem chan_changed (c : Channel) (q : Option ChanRun) (s : State) {v : State} (h : v.cd = (setChan c q s).cd) :
    chan v c = q ∧ ∀ e, e ≠ c → chan v e = chan s e := by
  have hchan (e : Channel) : chan v e = chan (setChan c q s) e := by unfold chan; rw [h]
  exact ⟨(hchan c).trans (chan_setChan_same ..), fun e he => (hchan e).trans (chan_setChan_other (Ne.symm he) ..)⟩

/-- Settles O34. -/
theorem acknowledgeTimesOut : Obligations.AcknowledgeTimesOut := by
  unfold Obligations.AcknowledgeTimesOut
  intro t d c r s h hr hconf hdue hd
  obtain ⟨hm, hexec, hactive, hsticky⟩ := ackDeadline_reports h hr hconf hdue hd
  rw [hexec]
  generalize hv : (setChan c (some { r with conf := .unconfirmed, ackDue := none }) (s.setNodeTime t)).setHm hm = v
  have hchan (u : State) (hu : u.cd = v.cd) : chan u c = some { r with conf := .unconfirmed, ackDue := none } ∧
      ∀ e, e ≠ c → chan u e = chan s e := by
    rw [← hv] at hu
    exact chan_changed c _ (s.setNodeTime t) hu
  have hlive (e : Channel) : (chan v e).isSome = (chan s e).isSome := by
    by_cases he : e = c
    · rw [he, (hchan v rfl).1, hr]; rfl
    · rw [(hchan v rfl).2 e he]
  have hact (u : State) (hu : u.hm = v.hm) : active .channelUnconfirmed u = true := by
    rw [← hv] at hu
    unfold active
    rw [hu]
    exact hactive
  have hvzs : v.zs = s.zs := by rw [← hv]; rfl
  have hlater (k : Nat) := later_iff v k
  simp only [hlive, show ∀ e, chanCfg v e = chanCfg s e from fun e => by rw [← hv]; rfl] at hlater
  refine ⟨fun hshut hrestart => ?_, fun k hst hstage hlast hacted hmore => ?_, ?_, fun hst hstage hmem hothers => ?_⟩
  · rw [leftPending_elsewhere c true (by rw [hvzs]; exact hshut) (by rw [hvzs]; exact hrestart)]
    exact ⟨v, rfl, (hchan v rfl).1, (hchan v rfl).2, hact v rfl, by rw [← hv]; exact hsticky, by rw [← hv]; rfl⟩
  · rw [leftPending_gap (s := v) (by rw [hvzs]; exact hst) (by rw [hvzs]; exact hstage) true (by rw [hvzs]; exact hlast)
      (by rw [hvzs]; exact hacted) ((hlater k).mpr hmore), hvzs]
    exact ⟨_, rfl, (hchan _ rfl).1, (hchan _ rfl).2, hact _ rfl, by rw [← hv]; rfl⟩
  · intro k hst hstage hlast hno hold hhold
    have hnolater : (stagesAfter k).any (stageHasChannels v) = false := by
      refine Bool.eq_false_iff.mpr fun hany => ?_
      obtain ⟨j, e, hkj, hj8, he, hs⟩ := (hlater k).mp hany
      exact hno j e hkj hj8 he hs
    have hend : holdEnd v = hold := by rw [← hv]; rfl
    have hvtime : v.nodeTime = t := by rw [← hv]; rfl
    rw [leftPending_watch (s := v) (by rw [hvzs]; exact hst) (by rw [hvzs]; exact hstage) true (by rw [hvzs]; exact hlast)
      hnolater (by rw [hend, hvtime]; exact hhold), hvzs, hend, place_slc .status (s := s) (by rw [← hv]; rfl)]
    exact ⟨_, rfl, (hchan _ rfl).1, (hchan _ rfl).2, hact _ rfl, by rw [← hv]; rfl⟩
  · obtain ⟨k, hk⟩ := Option.isSome_iff_exists.mp hstage
    obtain ⟨e, he, hec⟩ := hothers
    have hon : s.zs.runPending.filter (fun e => e != c) ≠ [] :=
      List.ne_nil_of_mem (List.mem_filter.mpr ⟨he, bne_iff_ne.mpr hec⟩)
    rw [leftPending_runsOn (s := v) (by rw [hvzs]; exact hst) (by rw [hvzs]; exact hk) true (by rw [hvzs]; exact hmem)
      (.inl (by rw [hvzs]; exact hon)), hvzs, Bool.or_true]
    exact ⟨_, rfl, (hchan _ rfl).1, (hchan _ rfl).2, hact _ rfl, by rw [← hv]; rfl⟩

/-! ## The end of a restart stage -/

/-- Settles O43. -/
theorem restartStageEnds : Obligations.RestartStageEnds := by
  unfold Obligations.RestartStageEnds
  intro t r s h hst hstage hold causes
  have hcauses : causesAtStageEnd ((s.setNodeTime t).setZs { s.zs with inrushDue := none }) = causes :=
    causesAtStageEnd_eq ((s.setNodeTime t).setZs { s.zs with inrushDue := none })
  have hinrush (d : Nat) (hdue : s.zs.inrushDue = some d) (hd : d ≤ t) : exec (.inrushDeadline t) s =
      .next (endIfOver ((s.setNodeTime t).setZs { s.zs with inrushDue := none })) := by
    have hexec : exec (.inrushDeadline t) s = .next (inrushDeadline (advance t s)) := rfl
    have hboth := Bool.and_eq_true_iff.mp (h.falls hdue hd)
    have hf : inrushFalls (s.setNodeTime t) = true := by
      rw [inrushFalls, hboth.1, show ((s.setNodeTime t).zs.st == .restarting) = true from beq_iff_eq.mpr hst,
        show (s.setNodeTime t).zs.restartStage = some r from hstage]
      exact hboth.2
    rw [hexec, h.taken, inrushDeadline, if_pos hf]
    rfl
  refine ⟨fun d hdue hd hpend => ?_, fun d hdue hd hpend hnone => ?_, fun d hdue hd hpend hsome => ?_,
    fun c q d hq hconf hdue hd hpend hover => ?_⟩
  · rw [hinrush d hdue hd, endIfOver_on (by exact hstage) (by exact .inl hpend)]
    rfl
  · rw [hinrush d hdue hd, endIfOver_gap (by exact hstage) (by exact hpend) (by exact rfl) (hcauses.trans hnone)]
    rfl
  · rw [hinrush d hdue hd, endIfOver_pauses (v := s) (by exact hst) (by exact hstage) (by exact rfl) (by exact hpend)
      (by exact rfl) (by rw [hcauses]; exact hsome), hcauses]
    refine congrArg _ (Eq.trans ?_ (place_of_slc .status (s := s) (by exact rfl)).symm)
    rfl
  · obtain ⟨hm, hexec, hactive, hsticky⟩ := ackDeadline_reports h hq hconf hdue hd
    generalize hv : (setChan c (some { q with conf := .unconfirmed, ackDue := none }) (s.setNodeTime t)).setHm hm = v at hexec
    have hvzs : v.zs = s.zs := by rw [← hv]; rfl
    have hleft : v.zs.runPending.filter (fun e => e != c) = [] := by simp [hvzs, hpend]
    rw [leftPending_restarting (by rw [hvzs]; exact hst) (by rw [hvzs]; exact hstage) true (by rw [hvzs, hpend]; simp),
      hleft, Bool.or_true, hvzs] at hexec
    have hend : causesAtStageEnd (v.setZs { s.zs with runPending := [], unconfMark := true }) =
        { causes with channel := true } := by
      rw [causesAtStageEnd_eq, ← hv]
      exact congrArg (fun b => ({ causes with channel := b } : Causes)) (Bool.or_true _)
    rw [endIfOver_pauses (v := s) (by exact hst) (by exact hstage) (by rw [← hv]; rfl) (by exact rfl)
      (by exact hover) (by rw [hend]; exact fun hc => Bool.false_ne_true (congrArg Causes.channel hc).symm), hend] at hexec
    have hcd : v.cd = (setChan c (some { q with conf := .unconfirmed, ackDue := none }) (s.setNodeTime t)).cd := by
      rw [← hv]; rfl
    refine ⟨_, hexec, ⟨?_, ?_, ?_⟩, ?_, (chan_changed c _ _ hcd).1, (chan_changed c _ _ hcd).2, ?_, rfl, rfl, rfl, rfl, ?_, ?_⟩
    all_goals rw [← hv]
    case refine_5 => exact hactive
    all_goals rfl

end Sys2Proof.Machine

/-! A filtered input change (sections 5.3 to 5.5). -/

namespace Sys2Proof.Machine

variable {s u : State} {t d k : Nat} {c : Channel} {r : ChanRun}

/-- One channel's fields behind a filtered input change (R106, R108, R109). -/
def filteredTo (level : Bool) (r : ChanRun) : ChanRun :=
  { r with
    readsShut := level, filterDue := none
    conf := if level = decide (r.cmd = .shut) then .confirmed else r.conf
    ackDue := if level = decide (r.cmd = .shut) ∧ r.conf = .pending then none else r.ackDue
    disagree := if r.conf = .confirmed then decide (¬level = decide (r.cmd = .shut)) else r.disagree }

theorem filteredChange_eq (level : Bool) (r : ChanRun) :
    { filteredChange level r with filterDue := none } = filteredTo level r := by
  have hfits := levelMatches_iff r.cmd level
  unfold filteredChange filteredTo
  cases hconf : r.conf with
  | pending =>
    by_cases h : level = decide (r.cmd = .shut)
    · have hm := hfits.mpr h
      simp only [hm, if_true]
      simp [h]
    · simp [mt hfits.mp h, h]
  | unconfirmed =>
    by_cases h : level = decide (r.cmd = .shut)
    · have hm := hfits.mpr h
      simp only [hm, if_true]
      simp [h]
    · simp [mt hfits.mp h, h]
  | confirmed =>
    by_cases h : level = decide (r.cmd = .shut)
    · have hm := hfits.mpr h
      simp only [hm, if_true]
      simp [h]
    · simp [mt hfits.mp h, h]

theorem precheckReport_elsewhere (b : Bool) (h : s.zs.st ≠ .paused ∨ s.zs.pause.precheck = false) :
    precheckReport b s = s := by
  unfold precheckReport
  split
  · refine if_neg fun ⟨hst, hpre, _⟩ => ?_
    rcases h with h | h
    · exact h hst
    · exact absurd (h.symm.trans hpre) Bool.false_ne_true
  · rfl

/-- In PAUSED the report removes PRECHECK exactly when the checked stage's result has come to pass (R142). -/
theorem precheckReport_paused (b : Bool) (hst : s.zs.st = .paused) : precheckReport b s =
    if s.zs.pause.precheck = true ∧ b = false ∧ ∃ k, s.zs.checkedStage = some k ∧ precheck k s = true then
      leavePause (s.setZs { s.zs with pause := { s.zs.pause with precheck := false } })
    else s := by
  unfold precheckReport
  cases hk : s.zs.checkedStage with
  | none => simp
  | some k => simp [hst]

section

variable (h : RunsAt t s) (hr : chan s c = some r) (hdue : r.filterDue = some d) (hd : d ≤ t)

include h hr hdue hd

theorem exec_filterDeadline : exec (.filterDeadline t c) s = .next
    (if (rawAck s c != (chanCfg s c).inverted) = r.readsShut then setChan c (some { r with filterDue := none }) (s.setNodeTime t)
     else takeFiltered c (rawAck s c != (chanCfg s c).inverted) r (s.setNodeTime t)) := by
  have hexec : exec (.filterDeadline t c) s = .next (filterDeadline c (advance t s)) := rfl
  have hchan : chan (s.setNodeTime t) c = some r := hr
  have hf : filterFalls c (s.setNodeTime t) = true := by
    rw [filterFalls, hchan]
    exact h.falls hdue hd
  rw [hexec, h.taken, filterDeadline, if_pos hf, hchan]
  rfl

/-- A filtered input change, up to what it reports to the ZS (R106 to R111). -/
theorem filterDeadline_reports (hne : (rawAck s c != (chanCfg s c).inverted) ≠ r.readsShut) :
    ∃ hm v, v = (setChan c (some (filteredTo (rawAck s c != (chanCfg s c).inverted) r)) (s.setNodeTime t)).setHm hm ∧
      exec (.filterDeadline t c) s = .next (precheckReport (checkedPasses s)
        (if r.conf = .pending ∧ (rawAck s c != (chanCfg s c).inverted) = decide (r.cmd = .shut) then
          leftPending c false v else v)) ∧
      (active .channelUnconfirmed v = true ↔ ∃ e p, chan v e = some p ∧ p.conf = .unconfirmed) := by
  obtain ⟨hm, heq, hactive, -⟩ := followUnconfirmed_setChan c (filteredTo (rawAck s c != (chanCfg s c).inverted) r)
    (s.setNodeTime t)
  refine ⟨hm, _, rfl, ?_, hactive⟩
  rw [exec_filterDeadline h hr hdue hd, if_neg hne, takeFiltered]
  dsimp only
  rw [filteredChange_eq, heq]
  simp only [levelMatches_iff]
  rfl

end

/-- Settles O33. -/
theorem filteredInputChange : Obligations.FilteredInputChange := by
  unfold Obligations.FilteredInputChange
  intro t d c r s h hr hdue hd hold later causes level fits after
  refine ⟨fun heq => ?_, ?_⟩
  · rw [exec_filterDeadline h hr hdue hd, if_pos heq]
  by_cases hne : level = r.readsShut
  · exact ⟨fun hn => absurd hne hn, fun hn => absurd hne hn, fun k hn => absurd hne hn, fun k hn => absurd hne hn,
      fun hn => absurd hne hn⟩
  obtain ⟨hm, v, hv, hexec, hactive⟩ := filterDeadline_reports h hr hdue hd hne
  have hafter : filteredTo (rawAck s c != (chanCfg s c).inverted) r = after := rfl
  rw [hafter] at hv
  rw [hexec]
  have hchan (u : State) (hu : u.cd = v.cd) : chan u c = some after ∧ ∀ e, e ≠ c → chan u e = chan s e := by
    rw [hv] at hu
    exact chan_changed c _ (s.setNodeTime t) hu
  have hlive (e : Channel) : (chan v e).isSome = (chan s e).isSome := by
    by_cases he : e = c
    · rw [he, (hchan v rfl).1, hr]; rfl
    · rw [(hchan v rfl).2 e he]
  have hlater (k : Nat) := later_iff v k
  simp only [hlive, show ∀ e, chanCfg v e = chanCfg s e from fun e => by rw [hv]; rfl] at hlater
  have hvzs : v.zs = s.zs := by rw [hv]; rfl
  have hvtime : v.nodeTime = t := by rw [hv]; rfl
  have hvcfg : cfg v = cfg s := by rw [hv]; rfl
  have hend : holdEnd v = hold := by rw [hv]; rfl
  have hslc : v.slc = s.slc := by rw [hv]; rfl
  refine ⟨fun _ hshut hrestart hpaused => ?_, fun _ hst hconf hfits hstage hmem hothers => ?_,
    fun k _ hst hconf hfits hstage hlast => ⟨fun hmore hacted => ?_, fun hno hhold => ?_⟩,
    fun k _ hst hconf hfits hstage hmem => ?_, fun _ hst => ?_⟩
  · have hstay : (if r.conf = .pending ∧ level = decide (r.cmd = .shut) then leftPending c false v else v) = v := by
      rw [leftPending_elsewhere c false (by rw [hvzs]; exact hshut) (by rw [hvzs]; exact hrestart), ite_self]
    rw [hstay, precheckReport_elsewhere _ (.inl (by rw [hvzs]; exact hpaused))]
    exact ⟨v, rfl, (hchan v rfl).1, (hchan v rfl).2, hactive, by rw [hv]; rfl⟩
  · obtain ⟨k, hk⟩ := hstage
    have hnop : s.zs.st ≠ .paused := by rw [hst]; decide
    rw [if_pos ⟨hconf, hfits⟩, leftPending_stageWaits (s := v) (by rw [hvzs]; exact hst) (by rw [hvzs]; exact hk) false
      (by rw [hvzs]; exact hmem) (by rw [hvzs]; exact hothers), hvzs,
      precheckReport_elsewhere _ (.inl (by exact hnop))]
    exact ⟨_, rfl, (hchan _ rfl).1, by rw [hv]; rfl⟩
  · have hnop : s.zs.st ≠ .paused := by rw [hst]; decide
    rw [if_pos ⟨hconf, hfits⟩, leftPending_gap (s := v) (by rw [hvzs]; exact hst) (by rw [hvzs]; exact hstage) false
      (by rw [hvzs]; exact hlast) (by rw [hvzs]; exact hacted) ((hlater k).mpr hmore), hvzs, hvtime, hvcfg,
      precheckReport_elsewhere _ (.inl (by exact hnop))]
    exact ⟨_, rfl, (hchan _ rfl).1, (hchan _ rfl).2, by rw [hv]; rfl⟩
  · have hnolater : (stagesAfter k).any (stageHasChannels v) = false :=
      Bool.eq_false_iff.mpr fun hany => hno ((hlater k).mp hany)
    rw [if_pos ⟨hconf, hfits⟩, leftPending_watch (s := v) (by rw [hvzs]; exact hst) (by rw [hvzs]; exact hstage) false
      (by rw [hvzs]; exact hlast) hnolater (by rw [hend, hvtime]; exact hhold), hvzs, hend, place_slc .status hslc,
      precheckReport_elsewhere _ (.inl (by exact SeqState.noConfusion))]
    exact ⟨_, rfl, (hchan _ rfl).1, (hchan _ rfl).2, by rw [hv]; rfl⟩
  · have hnop : s.zs.st ≠ .paused := by rw [hst]; decide
    have hrestart : v.zs.st = .restarting := by rw [hvzs]; exact hst
    have hvstage : v.zs.restartStage = some k := by rw [hvzs]; exact hstage
    have hvmem : c ∈ v.zs.runPending := by rw [hvzs]; exact hmem
    rw [if_pos ⟨hconf, hfits⟩]
    intro left
    refine ⟨fun hon => ?_, fun hleft hover hnone => ?_, fun hleft hover hsome hpre => ?_⟩
    · rw [leftPending_runsOn hrestart hvstage false hvmem (by rw [hvzs]; exact hon), hvzs, Bool.or_false,
        precheckReport_elsewhere _ (.inl (by exact hnop))]
      exact ⟨_, rfl, (hchan _ rfl).1, (hchan _ rfl).2, by rw [hv]; rfl⟩
    all_goals
      have hempty : s.zs.runPending.filter (fun e => e != c) = [] := hleft
      have hcauses : causesAtStageEnd (v.setZs { s.zs with runPending := [], unconfMark := s.zs.unconfMark }) = causes := by
        rw [causesAtStageEnd_eq, hv]
        rfl
      rw [leftPending_restarting hrestart hvstage false hvmem, hvzs, Bool.or_false, hempty]
    · rw [endIfOver_gap (by exact hstage) (by exact rfl) (by exact hover) (hcauses.trans hnone),
        precheckReport_elsewhere _ (.inl (by exact hnop))]
      exact ⟨_, rfl, (hchan _ rfl).1, (hchan _ rfl).2, by rw [hv, ← hover]; rfl⟩
    · rw [endIfOver_pauses (v := s) (by exact hst) (by exact hstage) (by exact hslc) (by exact rfl) (by exact hover)
        (by rw [hcauses]; exact hsome), hcauses, precheckReport_elsewhere _ (.inr (by exact hpre))]
      exact ⟨_, rfl, (hchan _ rfl).1, (hchan _ rfl).2, by rw [hv, ← hover]; rfl⟩
  · have hvst : v.zs.st = .paused := by rw [hvzs]; exact hst
    have hstay : (if r.conf = .pending ∧ level = decide (r.cmd = .shut) then leftPending c false v else v) = v := by
      rw [leftPending_elsewhere c false (by rw [hvst]; decide) (by rw [hvst]; decide), ite_self]
    have hpasses (k : Nat) : precheck k v = precheck k (setChan c (some after) s) := by rw [hv]; rfl
    rw [hstay, precheckReport_paused _ hvst, hvzs]
    intro passes left
    have hiff : (s.zs.pause.precheck = true ∧ checkedPasses s = false ∧
        ∃ k, s.zs.checkedStage = some k ∧ precheck k v = true) ↔ passes := by
      refine and_congr_right fun _ => ?_
      unfold checkedPasses
      constructor
      · rintro ⟨hbefore, k, hk, hnow⟩
        rw [hk] at hbefore
        exact ⟨k, hk, hbefore, (hpasses k).symm.trans hnow⟩
      · rintro ⟨k, hk, hbefore, hnow⟩
        rw [hk]
        exact ⟨hbefore, k, rfl, (hpasses k).trans hnow⟩
    refine ⟨fun hno => ?_, fun hyes hmore => ?_, fun hyes hnone => ?_⟩
    · rw [if_neg (fun hp => hno (hiff.mp hp))]
      exact ⟨v, rfl, (hchan v rfl).1, (hchan v rfl).2, by rw [hv]; rfl⟩
    · rw [if_pos (hiff.mpr hyes), leavePause_stays (.inr (by exact hmore))]
      exact ⟨_, rfl, (hchan _ rfl).1, (hchan _ rfl).2, by rw [hv]; rfl⟩
    · rw [if_pos (hiff.mpr hyes), leavePause_begins (by exact hst) (by exact hnone)]
      exact ⟨_, rfl, (hchan _ rfl).1, (hchan _ rfl).2, by rw [hv]; rfl⟩

end Sys2Proof.Machine

/-! Shutdown stages, begun one after another (section 6.3). -/

namespace Sys2Proof.Machine

variable {s u : State} {t d k : Nat} {c : Channel}

theorem mem_shutdownChannels (k : Nat) (s : State) (c : Channel) :
    c ∈ shutdownChannels k s ↔ (chan s c).isSome = true ∧ (chanCfg s c).shutdownStage = k := by
  simp [shutdownChannels, mem_allChannels]

/-- What the beginning of shutdown stage `k` makes of the zone (R119). -/
structure StageBegun (k : Nat) (s u : State) : Prop where
  around : ∃ cd hm, u = ((s.setCd cd).setHm hm).setZs { s.zs with
    stage := some k, acted := (shutdownChannels k s).any (hasCmd .run s), shutPending := u.zs.shutPending }
  others : ∀ c, c ∉ shutdownChannels k s → chan u c = chan s c
  live : ∀ c, (chan u c).isSome = (chan s c).isSome
  shut : ∀ c ∈ shutdownChannels k s, hasCmd .shut u c = true
  pending : ∀ c, c ∈ u.zs.shutPending ↔ c ∈ shutdownChannels k s ∧ pendingFor .shut u c = true

/-- `s` with stage `k` in progress, before its stage command (R119). -/
def shutdownEntered (k : Nat) (s : State) : State :=
  s.setZs { s.zs with stage := some k, acted := (shutdownChannels k s).any (hasCmd .run s) }

theorem beginShutdownStage_eq (k : Nat) (s : State) : beginShutdownStage k s =
    let s1 := stageCommand (shutdownChannels k s) .shut (shutdownEntered k s)
    s1.setZs { s1.zs with shutPending := pendingSet (shutdownChannels k s) .shut s1 } := by
  unfold beginShutdownStage shutdownEntered
  dsimp only

theorem beginShutdownStage_begun (k : Nat) (s : State) : StageBegun k s (beginShutdownStage k s) := by
  rw [beginShutdownStage_eq]
  dsimp only
  have hchan := chan_stageCommand (shutdownChannels k s) .shut (shutdownEntered k s)
  have heq := stageCommand_eq (shutdownChannels k s) .shut (shutdownEntered k s)
  have hchan0 (c : Channel) : chan (shutdownEntered k s) c = chan s c := rfl
  generalize stageCommand (shutdownChannels k s) .shut (shutdownEntered k s) = v at hchan heq ⊢
  obtain ⟨cd, heq⟩ : ∃ cd, v = ((shutdownEntered k s).setCd cd).setHm v.hm := ⟨_, heq⟩
  have hzs : v.zs = { s.zs with stage := some k, acted := (shutdownChannels k s).any (hasCmd .run s) } := by
    rw [heq]; rfl
  refine ⟨⟨cd, v.hm, ?_⟩, fun c hc => ((hchan c).trans (if_neg hc)).trans (hchan0 c), fun c => ?_, fun c hc => ?_,
    mem_pendingSet _ _ v⟩
  · rw [hzs]
    generalize pendingSet (shutdownChannels k s) .shut v = p
    rw [heq]
    rfl
  · have hlive : (chan v c).isSome = (chan s c).isSome := by
      rw [hchan c, hchan0]
      split
      · exact Option.isSome_map
      · rfl
    exact hlive
  · obtain ⟨hsome, -⟩ := (mem_shutdownChannels k s c).mp hc
    obtain ⟨q, hq⟩ := Option.isSome_iff_exists.mp hsome
    have hnew := hchan c
    rw [if_pos hc, hchan0, hq, Option.map_some] at hnew
    exact (hasCmd_iff .shut v c).mpr ⟨_, hnew, commandChannel_cmd ..⟩

theorem runShutdown_append {l ks : List Nat} (h : ∀ j ∈ l, stageHasChannels s j = false) :
    runShutdown (l ++ ks) s = runShutdown ks s := by
  induction l with
  | nil => rfl
  | cons j js ih =>
    rw [List.cons_append, runShutdown, if_neg (by rw [h j List.mem_cons_self]; decide)]
    exact ih fun i hi => h i (List.mem_cons_of_mem j hi)

/-- A stage with channels is begun. It waits while a channel of it is pending, and otherwise the gap or the next stage
follows (R121). -/
theorem runShutdown_cons (ks : List Nat) (h : stageHasChannels s k = true) : runShutdown (k :: ks) s =
    if (beginShutdownStage k s).zs.shutPending.isEmpty then
      if (beginShutdownStage k s).zs.acted ∧ ks.any (stageHasChannels (beginShutdownStage k s)) = true then
        (beginShutdownStage k s).setZs { (beginShutdownStage k s).zs with
          currentStage := k, stage := none
          gapDue := some ((beginShutdownStage k s).nodeTime + (cfg (beginShutdownStage k s)).shutdownGap * 1000) }
      else runShutdown ks ((beginShutdownStage k s).setZs { (beginShutdownStage k s).zs with
        currentStage := k, stage := none })
    else beginShutdownStage k s := by
  rw [runShutdown, if_pos h]
  generalize beginShutdownStage k s = v
  rfl

/-- The sequencer's fields that a shutdown in progress leaves alone (R119 to R123). -/
def besideShutdown (z : SeqRecord) : SeqRecord :=
  { z with st := .unconfigured, stage := none, currentStage := 0, shutPending := [], acted := false, gapDue := none
           holdDue := none }

/-- What a shutdown makes of the zone where a hold has not run out: the sequencer's shutdown fields, the queue, the
channels of the stages listed, and CHANNEL-UNCONFIRMED (R119 to R123). -/
structure Sheds (l : List Nat) (s u : State) : Prop where
  zs : besideShutdown u.zs = besideShutdown s.zs
  st : u.zs.st = .shutting ∨ u.zs.st = .watch
  icu : u.icu = s.icu
  rcp : u.rcp = s.rcp
  draws : u.draws = s.draws
  others : ∀ c, (chanCfg s c).shutdownStage ∉ l → chan u c = chan s c

theorem Sheds.enters (h : s.nodeTime < holdEnd s) (hst : s.zs.st = .shutting) (l : List Nat) :
    Sheds l s (enterWatch s) := by
  rw [enterWatch_later (v := s) rfl (by rw [hst]; decide) h]
  exact ⟨rfl, .inr rfl, rfl, rfl, rfl, fun _ _ => rfl⟩

/-- A beginning leaves the hold where it is. -/
theorem StageBegun.same (h : StageBegun k s u) : u.nodeTime = s.nodeTime ∧ holdEnd u = holdEnd s ∧ u.zs.st = s.zs.st ∧
    u.icu = s.icu ∧ u.rcp = s.rcp ∧ u.draws = s.draws ∧ (∀ c, chanCfg u c = chanCfg s c) ∧ cfg u = cfg s ∧
    u.zs = { s.zs with stage := some k, acted := (shutdownChannels k s).any (hasCmd .run s)
                       shutPending := u.zs.shutPending } := by
  obtain ⟨cd, hm, heq⟩ := h.around
  rw [heq]
  exact ⟨rfl, rfl, rfl, rfl, rfl, rfl, fun _ => rfl, rfl, rfl⟩

theorem Sheds.runs (l : List Nat) : ∀ {s : State}, s.nodeTime < holdEnd s → s.zs.st = .shutting →
    Sheds l s (runShutdown l s) := by
  induction l with
  | nil => exact fun h hst => Sheds.enters h hst []
  | cons k ks ih =>
    intro s h hst
    by_cases hk : stageHasChannels s k = true
    case neg =>
      rw [runShutdown, if_neg hk]
      obtain ⟨zs, st, icu, rcp, draws, others⟩ := ih h hst
      exact ⟨zs, st, icu, rcp, draws, fun c hc => others c fun hmem => hc (List.mem_cons_of_mem k hmem)⟩
    case pos =>
      have begun := beginShutdownStage_begun k s
      rw [runShutdown_cons ks hk]
      generalize beginShutdownStage k s = v at begun ⊢
      obtain ⟨htime, hhold, hvst, hicu, hrcp, hdraws, hchanCfg, -, hzs⟩ := begun.same
      have hbeside : besideShutdown v.zs = besideShutdown s.zs := by rw [hzs]; rfl
      have hothers (c : Channel) (hc : (chanCfg s c).shutdownStage ∉ k :: ks) : chan v c = chan s c :=
        begun.others c fun hmem => hc (((mem_shutdownChannels k s c).mp hmem).2 ▸ List.mem_cons_self)
      split
      · split
        · exact ⟨hbeside, .inl (hvst.trans hst), hicu, hrcp, hdraws, hothers⟩
        · have hlater : (v.setZs { v.zs with currentStage := k, stage := none }).nodeTime <
              holdEnd (v.setZs { v.zs with currentStage := k, stage := none }) := by
            have hv : v.nodeTime < holdEnd v := by rw [htime, hhold]; exact h
            exact hv
          obtain ⟨zs, st, icu, rcp, draws, others⟩ := ih hlater (hvst.trans hst)
          refine ⟨zs.trans hbeside, st, icu.trans hicu, rcp.trans hrcp, draws.trans hdraws, fun c hc => ?_⟩
          exact (others c fun hmem => hc (List.mem_cons_of_mem k ((congrArg (· ∈ ks)
            (congrArg ChannelConfig.shutdownStage (hchanCfg c))).mp hmem))).trans (hothers c hc)
      · exact ⟨hbeside, .inl (hvst.trans hst), hicu, hrcp, hdraws, hothers⟩

/-! ## A hold that has run out -/

/-- A channel stands, or was SHUT and has been commanded RUN. -/
def StandsOrRuns (c : Channel) (s u : State) : Prop :=
  chan u c = chan s c ∨ (hasCmd .shut s c = true ∧ hasCmd .run u c = true)

theorem StandsOrRuns.after {v : State} (h : StandsOrRuns c v u) (hv : chan v c = chan s c) : StandsOrRuns c s u := by
  refine h.imp (fun h => h.trans hv) fun ⟨hshut, hrun⟩ => ⟨?_, hrun⟩
  rwa [hasCmd, hv] at hshut

theorem StandsOrRuns.pauses (c : Channel) (causes : Causes) (s : State) : StandsOrRuns c s (pauseWith causes s) := by
  obtain ⟨slc, heq⟩ := pauseWith_eq causes s
  rw [heq]
  exact .inl rfl

theorem StandsOrRuns.runs (c : Channel) (r : Nat) (s : State) : StandsOrRuns c s (runStage r s) := by
  obtain ⟨-, -, -, hnamed, hothers, -⟩ := runStage_runs r s
  by_cases hc : c ∈ shutInRestart r s
  · exact .inr ⟨(hasCmd_iff _ s c).mpr ((mem_shutInRestart r s c).mp hc).1, hnamed c hc⟩
  · exact .inl (hothers c hc)

theorem StandsOrRuns.beginsClaim (c : Channel) (r : Nat) (s : State) : StandsOrRuns c s (beginClaim r s) := by
  unfold beginClaim
  dsimp only
  split
  · exact StandsOrRuns.runs c r (s.setZs { s.zs with stageWeight := weightOfStage r s })
  · split
    · rw [requestClaim_eq, enterState_eq]
      exact .inl rfl
    · split
      · exact StandsOrRuns.runs c r (s.setZs { s.zs with stageWeight := weightOfStage r s })
      · exact StandsOrRuns.pauses c _ (s.setZs { s.zs with stageWeight := weightOfStage r s })

theorem StandsOrRuns.beginsStage (c : Channel) (s : State) : StandsOrRuns c s (beginStage s) := by
  cases hconsole : s.zs.consoleHold with
  | true => rw [beginStage_console hconsole]; exact StandsOrRuns.pauses c _ (stageLeft s)
  | false =>
    cases hreset : s.zs.resetDue with
    | some d =>
      rw [beginStage_reset hconsole (by rw [hreset]; rfl)]
      exact StandsOrRuns.pauses c _ (stageLeft s)
    | none =>
      rw [beginStage_free ⟨hconsole, hreset⟩]
      cases nextStageToRun (stageLeft s) with
      | some r =>
        have next (z : SeqRecord) : StandsOrRuns c s (beginClaim r (s.setZs z)) := StandsOrRuns.beginsClaim c r (s.setZs z)
        have held (z : SeqRecord) (causes : Causes) : StandsOrRuns c s (pauseWith causes (s.setZs z)) :=
          StandsOrRuns.pauses c causes (s.setZs z)
        dsimp only
        unfold beginPrecheck
        split
        · exact next _
        · split
          · exact next _
          · exact held _ _
      | none =>
        dsimp only
        rw [completeRestart, rcpClose_eq, enterState_eq]
        exact .inl rfl

theorem StandsOrRuns.endsWatch (c : Channel) (hst : s.zs.st = .watch) : StandsOrRuns c s (recomputeHold s) := by
  have falls : StandsOrRuns c s (holdFalls s) := by
    rw [holdFalls_watch hst]
    split
    · rw [place_setSlc]
      exact .inl rfl
    · exact StandsOrRuns.beginsStage c _
  unfold recomputeHold
  split
  · split
    · exact falls
    · exact .inl rfl
  · exact .inl rfl

theorem StandsOrRuns.entersWatch (c : Channel) (s : State) : StandsOrRuns c s (enterWatch s) := by
  have hentered : chan (enterState .watch s) c = chan s c := by rw [enterState_eq]; rfl
  exact (StandsOrRuns.endsWatch c (by rw [enterState_eq]; rfl : (enterState .watch s).zs.st = .watch)).after hentered

theorem StandsOrRuns.runsShutdown (l : List Nat) : ∀ {s : State}, (chanCfg s c).shutdownStage ∉ l →
    StandsOrRuns c s (runShutdown l s) := by
  induction l with
  | nil => exact fun _ => StandsOrRuns.entersWatch c _
  | cons k ks ih =>
    intro s hc
    have hks : (chanCfg s c).shutdownStage ∉ ks := fun hmem => hc (List.mem_cons_of_mem k hmem)
    by_cases hk : stageHasChannels s k = true
    case neg => rw [runShutdown, if_neg hk]; exact ih hks
    case pos =>
      have begun := beginShutdownStage_begun k s
      rw [runShutdown_cons ks hk]
      generalize beginShutdownStage k s = v at begun ⊢
      have hcfg : chanCfg v c = chanCfg s c := begun.same.2.2.2.2.2.2.1 c
      have hv : chan v c = chan s c :=
        begun.others c fun hmem => hc (((mem_shutdownChannels k s c).mp hmem).2 ▸ List.mem_cons_self)
      split
      · split
        · exact .inl hv
        · have later := ih (s := v.setZs { v.zs with currentStage := k, stage := none }) (by
            have hcfg' : (chanCfg v c).shutdownStage ∉ ks := by rw [hcfg]; exact hks
            exact hcfg')
          exact later.after hv
      · exact .inl hv

end Sys2Proof.Machine

/-! The gap between two shutdown stages (section 6.3). -/

namespace Sys2Proof.Machine

variable {s u : State} {t d k : Nat} {c : Channel}

theorem exec_gapDeadline (h : RunsAt t s) (hst : s.zs.st = .shutting) (hdue : s.zs.gapDue = some d) (hd : d ≤ t) :
    exec (.gapDeadline t) s = .next (runShutdown (stagesAfter s.zs.currentStage)
      ((s.setNodeTime t).setZs { s.zs with gapDue := none })) := by
  have hexec : exec (.gapDeadline t) s = .next (gapDeadline (advance t s)) := rfl
  have hboth := Bool.and_eq_true_iff.mp (h.falls hdue hd)
  have hf : gapFalls (s.setNodeTime t) = true := by
    rw [gapFalls, hboth.1, show ((s.setNodeTime t).zs.st == .shutting) = true from beq_iff_eq.mpr hst]
    exact hboth.2
  rw [hexec, h.taken, gapDeadline, if_pos hf]
  rfl

/-- The stages after `i` are those before `k`, `k`, and those after it. -/
theorem stagesAfter_split {i : Nat} (hik : i < k) (hk : k ≤ 8) : ∃ l, stagesAfter i = l ++ k :: stagesAfter k ∧
    ∀ j ∈ l, i < j ∧ j < k := by
  refine ⟨(stagesAfter i).filter (fun j => decide (j < k)), ?_, fun j hj => ?_⟩
  · have hcases : ∀ k : Nat, k < 9 → ∀ i : Nat, i < k →
        stagesAfter i = (stagesAfter i).filter (fun j => decide (j < k)) ++ k :: stagesAfter k := by decide
    exact hcases k (by omega) i hik
  · obtain ⟨hmem, hlt⟩ := List.mem_filter.mp hj
    exact ⟨((mem_stagesAfter j i).mp hmem).2.2, of_decide_eq_true hlt⟩

/-- The first stage with channels after a gap, begun (R119, R121). -/
theorem runShutdown_first {i : Nat} (hik : i < k) (hk : k ≤ 8)
    (hnone : ∀ j, i < j → j < k → stageHasChannels s j = false) : runShutdown (stagesAfter i) s =
      runShutdown (k :: stagesAfter k) s := by
  obtain ⟨l, hsplit, hl⟩ := stagesAfter_split hik hk
  rw [hsplit]
  exact runShutdown_append fun j hj => hnone j (hl j hj).1 (hl j hj).2

section

variable (hhas : stageHasChannels s k = true)

include hhas

/-- A stage that waits (R121). -/
theorem runShutdown_waits (hpend : ∃ c, (chanCfg s c).shutdownStage = k ∧
    pendingFor .shut (runShutdown (k :: stagesAfter k) s) c = true) :
    runShutdown (k :: stagesAfter k) s = beginShutdownStage k s := by
  obtain ⟨c, hc, hpc⟩ := hpend
  have begun := beginShutdownStage_begun k s
  have hno : (chanCfg s c).shutdownStage ∉ stagesAfter k := fun hmem =>
    absurd ((mem_stagesAfter _ k).mp hmem).2.2 (by omega)
  rw [runShutdown_cons _ hhas] at hpc ⊢
  generalize beginShutdownStage k s = v at begun hpc ⊢
  have hvcfg : chanCfg v c = chanCfg s c := begun.same.2.2.2.2.2.2.1 c
  by_cases hempty : v.zs.shutPending.isEmpty = true
  case neg => rw [if_neg hempty]
  case pos =>
    exfalso
    have hstill : pendingFor .shut v c = true := by
      obtain ⟨q, hq, hconf, hcmd⟩ := (pendingFor_iff ..).mp hpc
      rw [if_pos hempty] at hq
      refine (pendingFor_iff ..).mpr ⟨q, ?_, hconf, hcmd⟩
      split at hq
      · exact hq
      · rcases StandsOrRuns.runsShutdown (stagesAfter k) (s := v.setZs { v.zs with currentStage := k, stage := none })
          (c := c) (by have h' : (chanCfg v c).shutdownStage ∉ stagesAfter k := by rw [hvcfg]; exact hno
                       exact h') with hsame | ⟨-, hruns⟩
        · exact hsame.symm.trans hq
        · obtain ⟨p, hp, hpcmd⟩ := (hasCmd_iff ..).mp hruns
          rw [hq, Option.some_inj] at hp
          rw [← hp, hcmd] at hpcmd
          exact absurd hpcmd (by decide)
    have hsome : (chan s c).isSome = true := by
      obtain ⟨q, hq, -⟩ := (pendingFor_iff ..).mp hstill
      rw [← begun.live c, hq]
      rfl
    have hmem := (begun.pending c).mpr ⟨(mem_shutdownChannels k s c).mpr ⟨hsome, hc⟩, hstill⟩
    rw [List.isEmpty_iff.mp hempty] at hmem
    exact List.not_mem_nil hmem

end

theorem StageBegun.has (h : StageBegun k s u) (j : Nat) : stageHasChannels u j = stageHasChannels s j := by
  have hcfg := h.same.2.2.2.2.2.2.1
  rw [Bool.eq_iff_iff, stageHasChannels_iff, stageHasChannels_iff]
  simp only [h.live, hcfg]

/-- A stage that is complete at once leaves nothing of it pending (R121). -/
theorem StageBegun.complete (h : StageBegun k s u)
    (hnone : ∀ c, (chanCfg s c).shutdownStage = k → pendingFor .shut u c = false) : u.zs.shutPending.isEmpty = true := by
  rw [List.isEmpty_iff]
  refine List.eq_nil_iff_forall_not_mem.mpr fun c hc => ?_
  obtain ⟨hmem, hpend⟩ := (h.pending c).mp hc
  exact absurd ((hnone c ((mem_shutdownChannels k s c).mp hmem).2).symm.trans hpend) Bool.false_ne_true

/-- A stage of which nothing is pending at the end of the run was complete when it was begun (R121). -/
theorem beginShutdownStage_complete (hhas : stageHasChannels s k = true) (hnone : ∀ c, (chanCfg s c).shutdownStage = k →
    pendingFor .shut (runShutdown (k :: stagesAfter k) s) c = false) :
    (beginShutdownStage k s).zs.shutPending.isEmpty = true := by
  have begun := beginShutdownStage_begun k s
  rw [runShutdown_cons _ hhas] at hnone
  generalize beginShutdownStage k s = v at begun hnone ⊢
  refine Decidable.byContradiction fun hmore => ?_
  rw [if_neg hmore] at hnone
  exact hmore (begun.complete hnone)

/-- Settles O35. -/
theorem gapBeginsTheNextStage : Obligations.GapBeginsTheNextStage := by
  unfold Obligations.GapBeginsTheNextStage
  intro t d s h hst hdue hd holds has
  generalize hw : (s.setNodeTime t).setZs { s.zs with gapDue := none } = w
  have hexec : exec (.gapDeadline t) s = .next (runShutdown (stagesAfter s.zs.currentStage) w) := by
    rw [← hw]
    exact exec_gapDeadline h hst hdue hd
  have hhas (k : Nat) : has k ↔ stageHasChannels w k = true := by
    rw [stageHasChannels_iff, ← hw]
    rfl
  have hws : w.nodeTime = t ∧ w.mp = s.mp ∧ w.pv = s.pv ∧ w.vtu = s.vtu ∧ w.pins = s.pins ∧ w.phase = s.phase ∧
      w.pending = s.pending ∧ w.icu = s.icu ∧ w.rcp = s.rcp ∧ w.cd = s.cd ∧ cfg w = cfg s := by
    rw [← hw]; exact ⟨rfl, rfl, rfl, rfl, rfl, rfl, rfl, rfl, rfl, rfl, rfl⟩
  obtain ⟨wtime, wmp, wpv, wvtu, wpins, wphase, wpending, wicu, wrcp, wcd, wcfg⟩ := hws
  have wzs : w.zs = { s.zs with gapDue := none } := by rw [← hw]; rfl
  have wst : w.zs.st = .shutting := by rw [wzs]; exact hst
  have wchan (c : Channel) : chan w c = chan s c := by unfold chan; rw [wcd]
  have wchanCfg (c : Channel) : chanCfg w c = chanCfg s c := by unfold chanCfg; rw [wcfg]
  have whold : holdEnd w = s.zs.ta + holdSeconds (cfg s) s.zs.grade * 10000 := by rw [← hw]; rfl
  have hsheds (hholds : holds) (l : List Nat) : Sheds l w (runShutdown l w) :=
    Sheds.runs l (by rw [wtime, whold]; exact hholds) wst
  obtain ⟨htime, hmp, hpv, hvtu, hpins, hphase, hpending⟩ :=
    zoneKept_fields (zoneKept_runShutdown (stagesAfter s.zs.currentStage) w)
  have hta : (runShutdown (stagesAfter s.zs.currentStage) w).zs.ta = w.zs.ta :=
    (ZoneMoves.refl.runsShutdown (stagesAfter s.zs.currentStage) : ZoneMoves w _).ta_consoleHold.1
  refine ⟨_, hexec, ⟨hpins.trans wpins, hphase.trans wphase, hpending.trans wpending⟩, htime.trans wtime,
    hmp.trans wmp, hpv.trans wpv, hvtu.trans wvtu, by rw [hta, wzs], fun hholds => ?_, fun hholds c hc => ?_,
    fun k hik hk hask hnone => ?_, fun hholds hnone => ?_⟩
  · obtain ⟨zs, -, icu, rcp, -⟩ := hsheds hholds (stagesAfter s.zs.currentStage)
    exact ⟨icu.trans wicu, rcp.trans wrcp, by
      have hgrade := congrArg SeqRecord.grade zs
      rw [wzs] at hgrade
      exact hgrade⟩
  · have hno : (chanCfg w c).shutdownStage ∉ stagesAfter s.zs.currentStage := fun hmem => by
      rw [wchanCfg] at hmem
      exact absurd ((mem_stagesAfter _ _).mp hmem).2.2 (by omega)
    exact ((hsheds hholds (stagesAfter s.zs.currentStage)).others c hno).trans (wchan c)
  · have hhask := (hhas k).mp hask
    have hfirst : runShutdown (stagesAfter s.zs.currentStage) w = runShutdown (k :: stagesAfter k) w :=
      runShutdown_first hik hk fun j hij hjk => Bool.eq_false_iff.mpr fun hj => hnone j hij hjk ((hhas j).mpr hj)
    have begun := beginShutdownStage_begun k w
    have hwaits := runShutdown_waits hhask
    have hcomplete := beginShutdownStage_complete hhask
    have hcons := runShutdown_cons (stagesAfter k) hhask
    rw [hfirst]
    simp only [wchanCfg] at hwaits hcomplete
    generalize beginShutdownStage k w = v at begun hwaits hcomplete hcons
    obtain ⟨vtime, vhold, vst, -, -, -, vchanCfg, vcfg, vzs⟩ := begun.same
    have hmem (c : Channel) : c ∈ shutdownChannels k w ↔ (chan s c).isSome = true ∧ (chanCfg s c).shutdownStage = k := by
      rw [mem_shutdownChannels, wchan, wchanCfg]
    refine ⟨fun hholds c r hc hr => ?_, fun hpend => ?_, fun hnonek hran hlater => ?_, fun hnonek hnolater hholds => ?_⟩
    · have hchan : chan (runShutdown (k :: stagesAfter k) w) c = chan v c := by
        have hlater (x : State) (hx : x.cd = v.cd) (hsame : chanCfg x c = chanCfg v c) (hxst : x.zs.st = .shutting)
            (hxhold : x.nodeTime < holdEnd x) : chan (runShutdown (stagesAfter k) x) c = chan v c := by
          have hno : (chanCfg x c).shutdownStage ∉ stagesAfter k := fun hmem => by
            rw [hsame, vchanCfg, wchanCfg, hc] at hmem
            exact absurd ((mem_stagesAfter _ _).mp hmem).2.2 (Nat.lt_irrefl k)
          refine ((Sheds.runs (stagesAfter k) hxhold hxst).others c hno).trans ?_
          unfold chan
          rw [hx]
        have hvhold : v.nodeTime < holdEnd v := by rw [vtime, vhold, wtime, whold]; exact hholds
        rw [hcons]
        split
        · split
          · rfl
          · exact hlater _ rfl rfl (vst.trans wst) hvhold
        · rfl
      rw [hchan] at hr
      have hsome : (chan s c).isSome = true := by rw [← wchan, ← begun.live, hr]; rfl
      obtain ⟨q, hq, hcmd⟩ := (hasCmd_iff ..).mp (begun.shut c ((hmem c).mpr ⟨hsome, hc⟩))
      rw [hr, Option.some_inj] at hq
      rw [hq, hcmd]
    · rw [hwaits hpend]
      have hvzs : v.zs.stage = some k ∧ v.zs.gapDue = none ∧ v.zs.currentStage = s.zs.currentStage := by
        rw [vzs, wzs]; exact ⟨rfl, rfl, rfl⟩
      obtain ⟨hstage, hgap, hcurrent⟩ := hvzs
      refine ⟨vst.trans wst, hstage, hgap, hcurrent, fun c => ?_⟩
      rw [begun.pending c, hmem]
      refine ⟨fun ⟨⟨_, hk⟩, hp⟩ => ⟨hk, hp⟩, fun ⟨hk, hp⟩ => ⟨⟨?_, hk⟩, hp⟩⟩
      obtain ⟨q, hq, -⟩ := (pendingFor_iff ..).mp hp
      rw [← wchan, ← begun.live, hq]
      rfl
    · have hacted : v.zs.acted = true := by
        obtain ⟨c, hc, hrun⟩ := hran
        obtain ⟨q, hq, -⟩ := (hasCmd_iff ..).mp hrun
        rw [vzs]
        refine List.any_eq_true.mpr ⟨c, (hmem c).mpr ⟨by rw [hq]; rfl, hc⟩, ?_⟩
        unfold hasCmd at hrun ⊢
        rw [wchan]
        exact hrun
      have hany : (stagesAfter k).any (stageHasChannels v) = true := by
        obtain ⟨j, hkj, hj8, hj⟩ := hlater
        exact List.any_eq_true.mpr ⟨j, (mem_stagesAfter j k).mpr ⟨by omega, hj8, hkj⟩,
          (begun.has j).trans ((hhas j).mp hj)⟩
      rw [hcons, if_pos (hcomplete hnonek), if_pos ⟨hacted, hany⟩]
      rw [vtime, wtime, vcfg, wcfg]
      exact ⟨vst.trans wst, rfl, rfl, rfl⟩
    · have hany : (stagesAfter k).any (stageHasChannels v) = false := by
        refine Bool.eq_false_iff.mpr fun hany => ?_
        obtain ⟨j, hj, hhasj⟩ := List.any_eq_true.mp hany
        obtain ⟨-, hj8, hkj⟩ := (mem_stagesAfter j k).mp hj
        exact hnolater j hkj hj8 ((hhas j).mpr ((begun.has j).symm.trans hhasj))
      have hvhold : v.nodeTime < holdEnd v := by rw [vtime, vhold, wtime, whold]; exact hholds
      have hnowatch : v.zs.st ≠ .watch := by rw [vst, wst]; decide
      have hgap : v.zs.gapDue = none := by rw [vzs, wzs]
      rw [hcons, if_pos (hcomplete hnonek), if_neg (fun hg => absurd (hany.symm.trans hg.2) Bool.false_ne_true),
        runShutdown_none (by exact hany), enterWatch_later (v := v) (by exact rfl) (by exact hnowatch) (by exact hvhold)]
      exact ⟨rfl, rfl, rfl, hgap, congrArg some (vhold.trans whold)⟩
  · have hno : (stagesAfter s.zs.currentStage).any (stageHasChannels w) = false := by
      refine Bool.eq_false_iff.mpr fun hany => ?_
      obtain ⟨j, hj, hhasj⟩ := List.any_eq_true.mp hany
      obtain ⟨-, hj8, hij⟩ := (mem_stagesAfter j _).mp hj
      exact hnone j hij hj8 ((hhas j).mpr hhasj)
    rw [runShutdown_none hno, enterWatch_later (v := w) rfl (by rw [wst]; decide) (by rw [wtime, whold]; exact hholds)]
    exact ⟨rfl, wcd⟩

end Sys2Proof.Machine

/-! Claims that end early (sections 2.8 and 8.3). -/

namespace Sys2Proof.Machine

variable {s u : State} {n : Nat} {reason : ReleaseReason}

/-! ## A RELEASE over its own CLAIM -/

theorem holdsClaim_iff (n : Nat) (q : List TxEntry) : holdsClaim n q = true ↔ ∃ w d, .claim n w d ∈ q := by
  unfold holdsClaim
  rw [List.any_eq_true]
  constructor
  · rintro ⟨e, he, hn⟩
    cases e with
    | claim m w d =>
      obtain rfl : m = n := beq_iff_eq.mp hn
      exact ⟨w, d, he⟩
    | trip => cases hn
    | observe => cases hn
    | release => cases hn
    | status => cases hn
  · rintro ⟨w, d, he⟩
    exact ⟨_, he, beq_self_eq_true n⟩

theorem markFate_elsewhere {c : Nat} {a : Option Attempt} (fate : EntryFate) (h : classInFlight c a = false) :
    markFate c fate a = a := by
  cases a with
  | none => rfl
  | some b =>
    have hno : ¬(bodyClass b.copy.body = c ∧ b.fate ≠ .removed) := by simpa [classInFlight] using h
    exact if_neg hno

theorem queueRelease_cancels (hclaim : holdsClaim n s.slc.queue = true) (hair : classInFlight 2 s.slc.inFlight = false) :
    queueRelease n reason s = s.setSlc { s.slc with queue := dropClass 2 s.slc.queue } := by
  unfold queueRelease
  rw [if_pos hclaim, if_neg (by rw [hair]; decide), removeEntry, markFate_elsewhere _ hair]

theorem queueRelease_plain (hclaim : holdsClaim n s.slc.queue = false) :
    queueRelease n reason s = place (.release n reason) s := if_neg (by rw [hclaim]; decide)

theorem hasClass_of_holdsClaim (h : holdsClaim n s.slc.queue = true) : hasClass 2 s.slc.queue = true := by
  obtain ⟨w, d, hmem⟩ := (holdsClaim_iff ..).mp h
  exact (hasClass_iff _ _).mpr ⟨_, hmem, rfl⟩

theorem queueRelease_ties (hq : InOrder s.slc.queue) (hclaim : holdsClaim n s.slc.queue = true) {a : Attempt}
    (ha : s.slc.inFlight = some a) (hair : classInFlight 2 s.slc.inFlight = true) :
    holdsClaim n (queueRelease n reason s).slc.queue = false ∧
      .release n reason ∈ (queueRelease n reason s).slc.queue ∧
      (queueRelease n reason s).slc.inFlight = some { a with fate := .removed, releaseTied := true } := by
  have hstands : bodyClass a.copy.body = 2 ∧ a.fate ≠ .removed := by
    rw [ha] at hair
    simpa [classInFlight] using hair
  have hmark : markFate 2 .removed s.slc.inFlight = some { a with fate := .removed } := by
    rw [ha]
    exact if_pos hstands
  obtain ⟨v, hv⟩ : ∃ v, v = s.setSlc { s.slc with
    queue := dropClass 2 s.slc.queue, inFlight := some { a with fate := .removed, releaseTied := true } } := ⟨_, rfl⟩
  have heq : queueRelease n reason s = place (.release n reason) v := by
    unfold queueRelease
    rw [if_pos hclaim, if_pos hair, removeEntry, hmark, hv]
    rfl
  have hvq : v.slc.queue = dropClass 2 s.slc.queue := by rw [hv]; rfl
  have hva : v.slc.inFlight = some { a with fate := .removed, releaseTied := true } := by rw [hv]; rfl
  have hvorder : InOrder v.slc.queue := by rw [hvq]; exact hq.dropClass 2
  have hroom : v.slc.queue.length < 4 := by
    rw [hvq]
    exact Nat.lt_of_lt_of_le (length_dropClass_lt (hasClass_of_holdsClaim hclaim)) hq.1
  rw [heq]
  refine ⟨?_, ?_, ?_⟩
  · refine Bool.eq_false_iff.mpr fun h => ?_
    obtain ⟨w, d, hmem⟩ := (holdsClaim_iff ..).mp h
    rcases of_mem_place hvorder hmem with hno | ⟨hold, -⟩
    · cases hno
    · rw [hvq] at hold
      exact ((mem_dropClass _ 2 _).mp hold).2 rfl
  · rcases mem_place (.release n reason) hvorder with hmem | ⟨hno, -⟩
    · exact hmem
    · cases hno
  · obtain ⟨-, -, stays⟩ := place_attempt (e := .release n reason) hvorder hva
    exact stays (fun ⟨hf, _⟩ => hf rfl) (fun ⟨hf, _⟩ => hf rfl)

/-- Settles O41. -/
theorem claimEndedEarly : Obligations.ClaimEndedEarly := by
  unfold Obligations.ClaimEndedEarly
  intro s hok ended removed n
  have hq := (queueOk_iff s).mp hok
  refine ⟨fun reason hclaim hair => queueRelease_cancels hclaim hair, fun reason hclaim hair => ?_,
    fun reason hclaim => queueRelease_plain hclaim, fun hown => ?_, fun hown => ?_, fun hown => ?_, fun hown => ?_,
    fun hown => ?_⟩
  · cases ha : s.slc.inFlight with
    | none => rw [ha] at hair; cases hair
    | some a =>
      obtain ⟨hno, hmem, hfate⟩ := queueRelease_ties (reason := reason) hq hclaim ha hair
      exact ⟨hno, hmem, _, hfate, rfl, rfl, rfl⟩
  all_goals
    unfold withdrawClaim abortClaim
    rw [hown]
    exact ⟨rfl, rfl⟩

end Sys2Proof.Machine

/-! Activity reports where a hold has not run out (sections 7.1 to 7.4 and 7.6). -/

namespace Sys2Proof.Machine

variable {s u : State} {offer : Nat} {aftershock : Bool}

/-! ## The hold behind a report -/

theorem holdSeconds_pos {c : NodeConfig} (h : holdsAboveZero c = true) (g : Nat) : 0 < holdSeconds c g := by
  simp only [holdsAboveZero, Bool.and_eq_true, decide_eq_true_iff] at h
  obtain ⟨⟨⟨⟨h0, h1⟩, h2⟩, h3⟩, h4⟩ := h
  unfold holdSeconds
  split
  · exact h0
  · exact h1
  · exact h2
  · exact h3
  · exact h4

/-- A hold measured from now has not run out. -/
theorem hold_later (h : holdsAboveZero (cfg s) = true) (hta : s.nodeTime ≤ s.zs.ta) : s.nodeTime < holdEnd s := by
  have hpos := holdSeconds_pos h s.zs.grade
  unfold holdEnd
  omega

/-- The RAM copy after a grade raise, but for its sequence (R133, R195). -/
theorem rcpRaise_record (g : Nat) (h : recordOpen s = true) : ∃ n, (rcpRaise g s).rcp.record =
    { s.rcp.record with sequence := n, grade := max s.rcp.record.grade g } ∧
      (rcpRaise g s).rcp.closeWaits = s.rcp.closeWaits := by
  unfold rcpRaise
  by_cases hlt : s.rcp.record.grade < g
  · obtain ⟨hrecord, hwaits, -⟩ := setRecord_rcp { s.rcp.record with grade := g } s
    rw [if_pos ⟨h, hlt⟩, Nat.max_eq_right (Nat.le_of_lt hlt)]
    exact ⟨_, hrecord, hwaits⟩
  · rw [if_neg fun hc => hlt hc.2, Nat.max_eq_left (Nat.not_lt.mp hlt)]
    exact ⟨_, rfl, rfl⟩

/-- The site grade that an activity report leaves (R133). -/
def gradeOffered (offer : Nat) (s : State) : Nat := if recordOpen s then max s.zs.grade offer else s.zs.grade

/-- Ta, the site grade and the record behind steps 1 and 2 of an activity report (R131 to R133). -/
theorem takeActivity_now (hta : s.zs.ta ≤ s.nodeTime) : ∃ rcp, takeActivity s.nodeTime offer s =
    (s.setZs { s.zs with ta := s.nodeTime, grade := gradeOffered offer s }).setRcp rcp ∧
    rcp.config = s.rcp.config ∧
    (gradeOffered offer s = s.zs.grade → rcp = s.rcp) ∧
    (s.zs.grade < gradeOffered offer s → ∃ n, rcp.record =
      { s.rcp.record with sequence := n, grade := max s.rcp.record.grade (gradeOffered offer s) } ∧
        rcp.closeWaits = s.rcp.closeWaits) := by
  have hmax : max s.zs.ta s.nodeTime = s.nodeTime := Nat.max_eq_right hta
  unfold takeActivity gradeOffered
  dsimp only
  rw [hmax]
  by_cases hraise : recordOpen s = true ∧ s.zs.grade < offer
  · obtain ⟨hopen, hlt⟩ := hraise
    have hrecord := rcpRaise_record (s := s.setZs { s.zs with ta := s.nodeTime, grade := offer }) offer hopen
    have heq := rcpRaise_eq offer (s.setZs { s.zs with ta := s.nodeTime, grade := offer })
    have hconfig := (zoneKept_rcp (zoneKept_rcpRaise offer (s.setZs { s.zs with ta := s.nodeTime, grade := offer }))).1
    rw [if_pos (by exact ⟨hopen, hlt⟩), if_pos hopen, Nat.max_eq_right (Nat.le_of_lt hlt)]
    exact ⟨_, heq, hconfig, fun h => absurd h (Nat.ne_of_gt hlt), fun _ => hrecord⟩
  · have hsame : (if recordOpen s = true then max s.zs.grade offer else s.zs.grade) = s.zs.grade := by
      by_cases hopen : recordOpen s = true
      · rw [if_pos hopen]
        exact Nat.max_eq_left (Nat.not_lt.mp fun hlt => hraise ⟨hopen, hlt⟩)
      · rw [if_neg hopen]
    rw [if_neg (by exact hraise), hsame]
    exact ⟨s.rcp, rfl, rfl, fun _ => rfl, fun h => absurd h (Nat.lt_irrefl _)⟩

/-! ## The report, by sequencer state -/

/-- `s` behind an activity report up to its effect in the present state: Ta is now, and a hold that runs is measured from
it (R132, R135). -/
structure ReportTaken (offer : Nat) (s v : State) : Prop where
  zs : ∃ hold, v.zs = { s.zs with ta := s.nodeTime, grade := gradeOffered offer s, holdDue := hold } ∧
    (s.zs.st = .watch → s.zs.ta < s.nodeTime → hold = some (holdEnd v)) ∧ (holdRuns s = false → hold = s.zs.holdDue)
  around : ∃ rcp z, v = (s.setRcp rcp).setZs z
  later : v.nodeTime < holdEnd v
  cfg : Machine.cfg v = Machine.cfg s

theorem activity_taken (hst : s.zs.st ≠ .unconfigured) (hta : s.zs.ta ≤ s.nodeTime)
    (hholds : holdsAboveZero (cfg s) = true) : ∃ v, activity s.nodeTime offer aftershock s = activityEffect aftershock v ∧
      ReportTaken offer s v ∧ (gradeOffered offer s = s.zs.grade → v.rcp = s.rcp) ∧
      (s.zs.grade < gradeOffered offer s → ∃ n, v.rcp.record =
        { s.rcp.record with sequence := n, grade := max s.rcp.record.grade (gradeOffered offer s) } ∧
          v.rcp.closeWaits = s.rcp.closeWaits) := by
  obtain ⟨rcp, htaken, hconfig, hsame, hraised⟩ := takeActivity_now (offer := offer) hta
  have hactivity : activity s.nodeTime offer aftershock s = activityEffect aftershock
      (if (takeActivity s.nodeTime offer s).zs.ta = s.zs.ta ∧ (takeActivity s.nodeTime offer s).zs.grade = s.zs.grade then
        takeActivity s.nodeTime offer s else recomputeHold (takeActivity s.nodeTime offer s)) := if_neg hst
  rw [hactivity]
  generalize takeActivity s.nodeTime offer s = a at htaken
  have haconfig : a.rcp.config = s.rcp.config := by rw [htaken]; exact hconfig
  have hcfg : cfg a = cfg s := by unfold cfg; rw [haconfig]
  have hazs : a.zs = { s.zs with ta := s.nodeTime, grade := gradeOffered offer s } := by rw [htaken]; rfl
  have hatime : a.nodeTime = s.nodeTime := by rw [htaken]; rfl
  have harcp : a.rcp = rcp := by rw [htaken]; rfl
  rw [← harcp] at hsame hraised
  have hlater : a.nodeTime < holdEnd a := hold_later (by rw [hcfg]; exact hholds) (Nat.le_of_eq (hatime.trans (congrArg SeqRecord.ta hazs :).symm))
  have hruns : holdRuns a = holdRuns s := by unfold holdRuns; rw [hazs]
  split
  next heq =>
    refine ⟨a, rfl, ⟨⟨s.zs.holdDue, by rw [hazs], fun _ hlt => ?_, fun _ => rfl⟩, ⟨rcp, _, htaken⟩, hlater, hcfg⟩, hsame, hraised⟩
    rw [hazs] at heq
    exact absurd heq.1 (Nat.ne_of_gt hlt)
  · rw [recomputeHold_later hlater]
    split
    next hr =>
      have hend : holdEnd (a.setZs { a.zs with holdDue := some (holdEnd a) }) = holdEnd a := rfl
      refine ⟨_, rfl, ⟨⟨some (holdEnd a), by rw [hazs]; rfl, fun _ _ => congrArg some hend.symm, fun hno => ?_⟩,
        ⟨rcp, { a.zs with holdDue := some (holdEnd a) }, by rw [htaken]; rfl⟩, hlater, hcfg⟩, hsame, hraised⟩
      exact absurd (hno.symm.trans (hruns.symm.trans hr)) Bool.false_ne_true
    next hr =>
      refine ⟨a, rfl, ⟨⟨s.zs.holdDue, by rw [hazs], fun hw _ => ?_, fun _ => rfl⟩, ⟨rcp, _, htaken⟩, hlater, hcfg⟩, hsame, hraised⟩
      rw [hruns] at hr
      exact absurd (by simp [holdRuns, hw]) hr

theorem withdrawClaim_eq (s : State) : ∃ icu slc, withdrawClaim s = (s.setIcu icu).setSlc slc ∧
    (s.icu.own ≠ .inForce → icu.own = .none) ∧ (s.icu.own = .inForce → icu = s.icu) := by
  unfold withdrawClaim
  split
  next h => rw [queueRelease_eq]; exact ⟨(claimNone s).icu, _, rfl, fun _ => rfl, fun hf => absurd (h.symm.trans hf) (by decide)⟩
  next h =>
    rw [releaseClaim, queueRelease_eq]
    exact ⟨(claimNone (removeClaimOf (ownId s) s)).icu, _, rfl, fun _ => rfl,
      fun hf => absurd (h.symm.trans hf) (by decide)⟩
  next h => exact ⟨(claimNone s).icu, s.slc, rfl, fun _ => rfl, fun hf => absurd (h.symm.trans hf) (by decide)⟩
  next h => exact ⟨s.icu, s.slc, rfl, fun hf => absurd h hf, fun _ => rfl⟩
  next h => exact ⟨s.icu, s.slc, rfl, fun _ => h, fun hf => absurd (h.symm.trans hf) (by decide)⟩

/-- PAUSED stays, with a cause added (R139). -/
theorem enterPaused_again (hst : s.zs.st = .paused) (h : s.nodeTime < holdEnd s) (causes : Causes) :
    ∃ hold, enterPaused causes s = s.setZs { s.zs with pause := causes, holdDue := hold } := by
  have hpause : pauseWith causes s = s.setZs { s.zs with pause := causes } := enterState_same hst
  rw [enterPaused, hpause, recomputeHold_later (by exact h)]
  split
  · exact ⟨_, rfl⟩
  · exact ⟨_, rfl⟩

theorem status_mem_of_room (h : s.slc.queue.length < 4) : .status ∈ (place .status s).slc.queue := by
  unfold place
  by_cases hc : hasClass (entryClass .status) s.slc.queue = true
  · obtain ⟨x, hx, hx5⟩ := (hasClass_iff _ _).mp hc
    rw [if_pos hc]
    exact List.mem_map.mpr ⟨x, hx, if_pos hx5⟩
  · rw [if_neg hc, if_pos h]
    exact (mem_insertEntry ..).mpr (.inl rfl)

/-- What the effect of an activity report leaves alone, with a hold that has not run out. -/
structure EffectTaken (s u : State) : Prop where
  cd : u.cd = s.cd
  rcp : u.rcp = s.rcp
  ta : u.zs.ta = s.zs.ta
  grade : u.zs.grade = s.zs.grade

theorem enterPaused_taken {v : State} (h : s.nodeTime < holdEnd s) (causes : Causes) (hv : EffectTaken v s) :
    EffectTaken v (enterPaused causes s) := by
  obtain ⟨cd, rcp, ta, grade⟩ := hv
  by_cases hst : s.zs.st = .paused
  · obtain ⟨hold, heq⟩ := enterPaused_again hst h causes
    rw [heq]
    exact ⟨cd, rcp, ta, grade⟩
  · rw [enterPaused_later (v := s) rfl causes hst fun _ => h]
    exact ⟨cd, rcp, ta, grade⟩

theorem activityEffect_taken (h : s.nodeTime < holdEnd s) (b : Bool) : EffectTaken s (activityEffect b s) := by
  unfold activityEffect
  split
  · exact ⟨rfl, rfl, rfl, rfl⟩
  next hst =>
    rw [enterWatch_later (v := s) rfl (by rw [hst]; decide) h]
    exact ⟨rfl, rfl, rfl, rfl⟩
  · split
    · obtain ⟨icu, slc, heq, -⟩ := withdrawClaim_eq s
      refine enterPaused_taken ?_ _ ?_
      · rw [heq]; exact h
      · rw [heq]; exact ⟨rfl, rfl, rfl, rfl⟩
    · exact ⟨rfl, rfl, rfl, rfl⟩
  · split
    · split
      · exact ⟨rfl, rfl, rfl, rfl⟩
      · exact enterPaused_taken (s := s.setZs { s.zs with restartGap := none }) h _ ⟨rfl, rfl, rfl, rfl⟩
    · exact ⟨rfl, rfl, rfl, rfl⟩
  · split
    · exact enterPaused_taken h _ ⟨rfl, rfl, rfl, rfl⟩
    · exact ⟨rfl, rfl, rfl, rfl⟩
  all_goals exact ⟨rfl, rfl, rfl, rfl⟩

/-- Settles O36. -/
theorem activityReport : Obligations.ActivityReport := by
  unfold Obligations.ActivityReport
  intro offer aftershock s hst hta hholds g hold u
  obtain ⟨htime, hmp, hpv, hvtu, hpins, hphase, hpending⟩ := zoneKept_fields (zoneKept_activity s.nodeTime offer aftershock s)
  obtain ⟨v, hu, ⟨⟨due, hzs, hwatch, hstill⟩, ⟨rcp, z, hv⟩, hlater, hcfg⟩, hsame, hraised⟩ :=
    activity_taken (offer := offer) (aftershock := aftershock) hst hta hholds
  have hu : u = activityEffect aftershock v := hu
  have hg : gradeOffered offer s = g := rfl
  have hend : holdEnd v = hold := by unfold holdEnd; rw [hzs, hcfg]; rfl
  have hvslc : v.slc = s.slc := by rw [hv]; rfl
  have hvicu : v.icu = s.icu := by rw [hv]; rfl
  have hvcd : v.cd = s.cd := by rw [hv]; rfl
  rw [hg] at hzs hsame hraised
  obtain ⟨cd, urcp, uta, ugrade⟩ := activityEffect_taken hlater aftershock
  rw [← hu] at cd urcp uta ugrade
  have hvst (q : SeqState) (h : s.zs.st = q) : v.zs.st = q := by rw [hzs]; exact h
  have effect (q : SeqState) (h : s.zs.st = q) {w : State} (hw : v.zs.st = q → activityEffect aftershock v = w) : u = w :=
    hu.trans (hw (hvst q h))
  have hnohold (h : holdRuns s = false) : v.zs = { s.zs with ta := s.nodeTime, grade := g } := by rw [hzs, hstill h]
  refine ⟨by rw [uta, hzs], by rw [ugrade, hzs], ⟨hpins, hphase, hpending⟩, htime, hmp, hpv, hvtu, cd.trans hvcd,
    fun h => urcp.trans (hsame h), fun h => by rw [urcp]; obtain ⟨n, hrecord, -⟩ := hraised h; rw [hrecord], fun h hlt => ?_, fun h => ?_, fun h => ?_,
    fun h hb => ?_, fun h hb => ?_, fun h hstage => ?_, fun h hstage hb => ?_, fun h => ?_, fun h => ?_⟩
  · have heq : u = v := effect .watch h fun hq => by unfold activityEffect; rw [hq]
    rw [heq, hzs, hwatch h hlt, hend]
    exact ⟨h, rfl⟩
  · have heq : u = enterWatch v := effect .awaitPermit h fun hq => by unfold activityEffect; rw [hq]
    rw [heq, enterWatch_later hvslc (by rw [hvst _ h]; decide) hlater]
    exact ⟨rfl, congrArg some hend, status_mem_of_room⟩
  · have heq : u = recomputeStart v := effect .starting h fun hq => by unfold activityEffect; rw [hq]
    rw [heq, recomputeStart, hzs, hcfg]
    exact ⟨h, rfl⟩
  · have heq : u = enterPaused { noCauses with aftershock := true } (withdrawClaim v) :=
      effect .claiming h fun hq => by unfold activityEffect; rw [hq, hb]; rfl
    obtain ⟨icu, slc, hw, hnone, -⟩ := withdrawClaim_eq v
    have hne : v.zs.st ≠ .paused := by rw [hvst _ h]; decide
    rw [heq, hw, enterPaused_later (s := (v.setIcu icu).setSlc slc) (v := (v.setIcu icu).setSlc slc) rfl _ hne
      (fun _ => hlater)]
    exact ⟨rfl, rfl, congrArg some hend, fun hn => hnone (by rw [hvicu]; exact hn)⟩
  · have heq : u = v := effect .claiming h fun hq => by unfold activityEffect; rw [hq, hb]; rfl
    rw [heq]
    exact ⟨hvst _ h, hvicu⟩
  · have hvstage : v.zs.restartStage = s.zs.restartStage := by rw [hzs]
    cases aftershock with
    | true =>
      have heq : u = v.setZs { v.zs with held := { v.zs.held with aftershock := true } } :=
        effect .restarting h fun hq => by unfold activityEffect; rw [hq, hvstage, hstage]; rfl
      rw [heq, hzs, Bool.or_true]
      exact ⟨h, rfl, rfl, rfl⟩
    | false =>
      have heq : u = v := effect .restarting h fun hq => by unfold activityEffect; rw [hq]; rfl
      rw [heq, hzs, Bool.or_false]
      exact ⟨h, rfl, rfl, rfl⟩
  · have hvstage : v.zs.restartStage = none := by rw [hzs]; exact hstage
    have heq : u = enterPaused { noCauses with aftershock := true } (v.setZs { v.zs with restartGap := none }) :=
      effect .restarting h fun hq => by unfold activityEffect; rw [hq, hvstage, hb]; rfl
    have hne : v.zs.st ≠ .paused := by rw [hvst _ h]; decide
    rw [heq, enterPaused_later (s := v.setZs { v.zs with restartGap := none })
      (v := v.setZs { v.zs with restartGap := none }) rfl _ hne (fun _ => hlater)]
    exact ⟨rfl, rfl, rfl, congrArg some hend⟩
  · cases aftershock with
    | true =>
      have heq : u = enterPaused { v.zs.pause with aftershock := true } v :=
        effect .paused h fun hq => by unfold activityEffect; rw [hq]; rfl
      obtain ⟨due', hagain⟩ := enterPaused_again (hvst _ h) hlater { v.zs.pause with aftershock := true }
      rw [heq, hagain, hzs, Bool.or_true]
      exact ⟨h, rfl⟩
    | false =>
      have heq : u = v := effect .paused h fun hq => by unfold activityEffect; rw [hq]; rfl
      rw [heq, hzs, Bool.or_false]
      exact ⟨h, rfl⟩
  · have hruns : holdRuns s = false := by rcases h with h | h <;> simp [holdRuns, h]
    have heq : u = v := by
      rcases h with h | h
      · exact effect .running h fun hq => by unfold activityEffect; rw [hq]
      · exact effect .shutting h fun hq => by unfold activityEffect; rw [hq]
    rw [heq]
    exact hnohold hruns

end Sys2Proof.Machine

/-! A trip where every hold is longer than no time (sections 4.4 to 4.7, 6.2, 7.1 and 10.4). -/

namespace Sys2Proof.Machine

variable {s u v : State}

/-! ## The zone at a trip -/

theorem abortClaim_eq (s : State) : ∃ icu slc, abortClaim s = (s.setIcu icu).setSlc slc ∧ icu.own = .none := by
  unfold abortClaim
  split
  next h => rw [queueRelease_eq]; exact ⟨(claimNone s).icu, _, rfl, rfl⟩
  next h => rw [releaseClaim, queueRelease_eq]; exact ⟨(claimNone (removeClaimOf (ownId s) s)).icu, _, rfl, rfl⟩
  next h => rw [releaseClaim, queueRelease_eq]; exact ⟨(claimNone (removeClaimOf (ownId s) s)).icu, _, rfl, rfl⟩
  next h => exact ⟨(claimNone s).icu, s.slc, rfl, rfl⟩
  next h => exact ⟨s.icu, s.slc, rfl, h⟩

/-- The sequencer's fields that a shutdown start clears (R118, R139, R142, R173). -/
structure Cleared (z : SeqRecord) : Prop where
  st : z.st = .shutting ∨ z.st = .watch
  pause : z.pause = noCauses
  held : z.held = noCauses
  nextRestart : z.nextRestart = 1
  restartStage : z.restartStage = none
  startDue : z.startDue = none
  waiver : z.waiver = none

/-- What a shutdown start makes of the zone while its hold runs (R118). -/
structure ShutdownStarted (s u : State) : Prop where
  cleared : Cleared u.zs
  grade : u.zs.grade = s.zs.grade
  ta : u.zs.ta = s.zs.ta
  consoleHold : u.zs.consoleHold = s.zs.consoleHold
  icu : u.icu = s.icu
  rcp : u.rcp = s.rcp

theorem shutdownStart_started (h : s.nodeTime < holdEnd s) : ShutdownStarted s (shutdownStart s) := by
  unfold shutdownStart
  dsimp only
  rw [enterState_eq]
  generalize hy : ((s.setZs { s.zs with st := .shutting }).setSlc (enterState .shutting s).slc).setZs _ = y
  have hyzs : y.nodeTime < holdEnd y ∧ y.zs.st = .shutting ∧ y.icu = s.icu ∧ y.rcp = s.rcp := by
    rw [← hy]; exact ⟨h, rfl, rfl, rfl⟩
  obtain ⟨hlater, hst, hicu, hrcp⟩ := hyzs
  obtain ⟨zs, st, icu, rcp, -, -⟩ := Sheds.runs allStages hlater hst
  generalize runShutdown allStages y = v at zs st icu rcp
  rw [← hy] at zs
  exact ⟨⟨st, (congrArg SeqRecord.pause zs :), (congrArg SeqRecord.held zs :), (congrArg SeqRecord.nextRestart zs :),
    (congrArg SeqRecord.restartStage zs :), (congrArg SeqRecord.startDue zs :), (congrArg SeqRecord.waiver zs :)⟩,
    (congrArg SeqRecord.grade zs :), (congrArg SeqRecord.ta zs :), (congrArg SeqRecord.consoleHold zs :), icu.trans hicu, rcp.trans hrcp⟩

/-- What a trip makes of the zone while its hold runs, by the state it finds (R117, R124, R125). -/
structure ZoneTripped (s u : State) : Prop where
  st : u.zs.st = .shutting ∨ u.zs.st = .watch
  grade : u.zs.grade = s.zs.grade
  consoleHold : u.zs.consoleHold = s.zs.consoleHold
  rcp : u.rcp = s.rcp
  shutting : s.zs.st = .shutting → u = s
  cleared : s.zs.st ≠ .shutting → Cleared u.zs
  own : s.zs.st = .claiming ∨ s.zs.st = .restarting ∨ s.zs.st = .paused → u.icu.own = .none

theorem tripEffect_tripped (hst : s.zs.st ≠ .unconfigured) (h : s.nodeTime < holdEnd s) : ZoneTripped s (tripEffect s) := by
  have started (hne : s.zs.st ≠ .shutting) (hno : ¬(s.zs.st = .claiming ∨ s.zs.st = .restarting ∨ s.zs.st = .paused))
      (heq : tripEffect s = shutdownStart s) : ZoneTripped s (tripEffect s) := by
    obtain ⟨cleared, grade, -, consoleHold, -, rcp⟩ := shutdownStart_started h
    rw [heq]
    exact ⟨cleared.st, grade, consoleHold, rcp, fun hs => absurd hs hne, fun _ => cleared, fun hs => absurd hs hno⟩
  have aborted (hne : s.zs.st ≠ .shutting) (heq : tripEffect s = shutdownStart (abortRestart s)) :
      ZoneTripped s (tripEffect s) := by
    obtain ⟨icu, slc, habort, hown⟩ := abortClaim_eq (s.setZs { s.zs with
      restartStage := none, runPending := [], inrushDue := none, restartGap := none, startDue := none })
    have hlater : (abortRestart s).nodeTime < holdEnd (abortRestart s) := by
      rw [abortRestart, habort]; exact h
    obtain ⟨cleared, grade, -, consoleHold, uicu, rcp⟩ := shutdownStart_started hlater
    rw [heq]
    refine ⟨cleared.st, grade.trans ?_, consoleHold.trans ?_, rcp.trans ?_, fun hs => absurd hs hne, fun _ => cleared,
      fun _ => by rw [uicu, abortRestart, habort]; exact hown⟩
    all_goals rw [abortRestart, habort]; rfl
  cases hq : s.zs.st with
  | unconfigured => exact absurd hq hst
  | shutting =>
    have heq : tripEffect s = s := by unfold tripEffect; rw [hq]
    rw [heq]
    exact ⟨.inl hq, rfl, rfl, rfl, fun _ => rfl, fun hne => absurd hq hne, fun hs => by simp [hq] at hs⟩
  | starting => exact started (by rw [hq]; decide) (by rw [hq]; decide) (by unfold tripEffect; rw [hq])
  | running => exact started (by rw [hq]; decide) (by rw [hq]; decide) (by unfold tripEffect; rw [hq])
  | watch => exact started (by rw [hq]; decide) (by rw [hq]; decide) (by unfold tripEffect; rw [hq])
  | awaitPermit => exact started (by rw [hq]; decide) (by rw [hq]; decide) (by unfold tripEffect; rw [hq])
  | claiming => exact aborted (by rw [hq]; decide) (by unfold tripEffect; rw [hq])
  | restarting => exact aborted (by rw [hq]; decide) (by unfold tripEffect; rw [hq])
  | paused => exact aborted (by rw [hq]; decide) (by unfold tripEffect; rw [hq])

theorem zsTrip_tripped (g : Nat) (hst : s.zs.st ≠ .unconfigured) (hholds : holdsAboveZero (cfg s) = true) :
    ZoneTripped (tripZone g s) (zsTrip g s) := by
  rw [zsTrip_configured hst]
  refine tripEffect_tripped hst (hold_later hholds ?_)
  exact Nat.le_max_right _ _

/-! ## Zone and record at a trip in ARMED mode -/

/-- The record's copy and its waiting close behind a trip request, and the zone as the trip leaves it (R91, R117). -/
structure ZoneAndRecord (own origin : Cause) (votes g : Nat) (l : List StationId) (s u : State) : Prop where
  st : u.zs.st = .shutting ∨ u.zs.st = .watch
  grade : u.zs.grade = max s.zs.grade g
  consoleHold : u.zs.consoleHold = s.zs.consoleHold
  shutting : s.zs.st = .shutting →
    u.zs.stage = s.zs.stage ∧ u.zs.currentStage = s.zs.currentStage ∧ u.zs.gapDue = s.zs.gapDue ∧ u.cd = s.cd
  cleared : s.zs.st ≠ .shutting → Cleared u.zs
  claimEnded : s.zs.st = .claiming ∨ s.zs.st = .restarting ∨ s.zs.st = .paused → u.icu.own = .none
  record : u.rcp.record = { recordAfterTrip own origin votes g l s.rcp.record with sequence := u.rcp.record.sequence }
  waits : u.rcp.closeWaits = s.rcp.closeWaits

theorem zoneAndRecord (own origin : Cause) (votes g : Nat) (l : List StationId) (first : Bool)
    (hst : s.zs.st ≠ .unconfigured) (hholds : holdsAboveZero (cfg s) = true) :
    ZoneAndRecord own origin votes g l s (inEitherOrder first (zsTrip g) (rcpTrip own origin votes g l) s) := by
  refine inEitherOrder_of first ?zoneFirst ?recordFirst
  case zoneFirst =>
    obtain ⟨st, grade, consoleHold, rcp, shutting, cleared, own'⟩ := zsTrip_tripped g hst hholds
    obtain ⟨heq, -, record, waits⟩ := rcpTrip_facts own origin votes g l (zsTrip g s)
    generalize zsTrip g s = v at st grade consoleHold rcp shutting cleared own' heq record waits ⊢
    rw [rcp] at record waits
    have hzs : (rcpTrip own origin votes g l v).zs = v.zs := by rw [heq]; rfl
    have hicu : (rcpTrip own origin votes g l v).icu = v.icu := by rw [heq]; rfl
    have hcd : (rcpTrip own origin votes g l v).cd = v.cd := by rw [heq]; rfl
    refine ⟨by rw [hzs]; exact st, by rw [hzs]; exact grade, by rw [hzs]; exact consoleHold, fun hs => ?_,
      fun hs => by rw [hzs]; exact cleared hs, fun hs => by rw [hicu]; exact own' hs, record, waits⟩
    rw [hzs, hcd, shutting hs]
    exact ⟨rfl, rfl, rfl, rfl⟩
  case recordFirst =>
    obtain ⟨heq, -, record, waits⟩ := rcpTrip_facts own origin votes g l s
    have hconfig := (zoneKept_rcp (zoneKept_rcpTrip own origin votes g l s)).1
    have hcfg : cfg (rcpTrip own origin votes g l s) = cfg s := by unfold cfg; rw [hconfig]
    generalize rcpTrip own origin votes g l s = v at heq record waits hcfg ⊢
    have hzs : v.zs = s.zs := by rw [heq]; rfl
    have hcd : v.cd = s.cd := by rw [heq]; rfl
    obtain ⟨st, grade, consoleHold, rcp, shutting, cleared, own'⟩ :=
      zsTrip_tripped g (s := v) (by rw [hzs]; exact hst) (by rw [hcfg]; exact hholds)
    have hrcp : (zsTrip g v).rcp = v.rcp := rcp
    refine ⟨st, grade.trans ?_, consoleHold.trans ?_, fun hs => ?_, fun hs => cleared ?_, fun hs => own' ?_,
      by rw [hrcp]; exact record, by rw [hrcp]; exact waits⟩
    · change max v.zs.grade g = _; rw [hzs]
    · change v.zs.consoleHold = _; rw [hzs]
    · rw [shutting (by change v.zs.st = _; rw [hzs]; exact hs)]
      change v.zs.stage = _ ∧ v.zs.currentStage = _ ∧ v.zs.gapDue = _ ∧ v.cd = _
      rw [hzs, hcd]
      exact ⟨rfl, rfl, rfl, rfl⟩
    · change v.zs.st ≠ _; rw [hzs]; exact hs
    · change v.zs.st = _ ∨ v.zs.st = _ ∨ v.zs.st = _; rw [hzs]; exact hs

/-- A hold that runs on is all that changes when a close is found void behind a trip, besides the grade handed over
(R135, R196). -/
theorem settleClose_void (hw : s.rcp.closeWaits = true) (hreq : s.rcp.lastTripReq = some s.nodeTime)
    (hta : s.nodeTime ≤ s.zs.ta) (hholds : holdsAboveZero (cfg s) = true) : ∃ hold, settleClose s =
      (s.setRcp { s.rcp with closeWaits := false }).setZs {
        s.zs with grade := max s.zs.grade s.rcp.record.grade, holdDue := hold } := by
  have htaken : takeWaitingClose s = (s.setRcp { s.rcp with closeWaits := false }).setZs {
      s.zs with grade := max s.zs.grade s.rcp.record.grade } := (if_pos hw).trans (takeClose_void hreq)
  have hlater : (takeWaitingClose s).nodeTime < holdEnd (takeWaitingClose s) := by
    rw [htaken]
    exact hold_later (s := (s.setRcp { s.rcp with closeWaits := false }).setZs _) hholds hta
  rw [settleClose, if_pos hw, recomputeHold_later hlater, htaken]
  split
  · exact ⟨_, rfl⟩
  · exact ⟨s.zs.holdDue, rfl⟩

theorem settleClose_none (hw : s.rcp.closeWaits = false) : settleClose s = s := if_neg (by rw [hw]; decide)

theorem max_eq_either (m n : Nat) : max m n = m ∨ max m n = n := by omega

/-- The grades that the trip grade is the largest of (R87). -/
theorem foldl_max_mem (f : StationId → Nat) (l : List StationId) (g : Nat) :
    g ≤ l.foldl (fun g i => max g (f i)) g ∧ (∀ i ∈ l, f i ≤ l.foldl (fun g i => max g (f i)) g) ∧
      (l.foldl (fun g i => max g (f i)) g = g ∨ ∃ i ∈ l, l.foldl (fun g i => max g (f i)) g = f i) := by
  induction l generalizing g with
  | nil => exact ⟨Nat.le_refl g, nofun, .inl rfl⟩
  | cons i is ih =>
    obtain ⟨hlow, hall, hfrom⟩ := ih (max g (f i))
    refine ⟨Nat.le_trans (Nat.le_max_left ..) hlow, fun j hj => ?_, ?_⟩
    · rcases List.mem_cons.mp hj with rfl | hj
      · exact Nat.le_trans (Nat.le_max_right ..) hlow
      · exact hall j hj
    · rcases hfrom with hstart | ⟨j, hj, heq⟩
      · rcases max_eq_either g (f i) with hm | hm
        · exact .inl (hstart.trans hm)
        · exact .inr ⟨i, List.mem_cons_self, hstart.trans hm⟩
      · exact .inr ⟨j, List.mem_cons_of_mem i hj, heq⟩

theorem le_countedGrade {i : StationId} {o : Observation} (hi : i ∈ countedSet s) (ho : (peer s i).observation = some o) :
    o.grade ≤ countedGrade s := by
  have h := (foldl_max_mem (fun i => ((peer s i).observation.map (fun o => o.grade)).getD 0) (countedSet s) 0).2.1 i hi
  rw [ho] at h
  exact h

theorem countedGrade_from (s : State) : countedGrade s = 0 ∨
    ∃ i ∈ countedSet s, ∃ o, (peer s i).observation = some o ∧ countedGrade s = o.grade := by
  rcases (foldl_max_mem (fun i => ((peer s i).observation.map (fun o => o.grade)).getD 0) (countedSet s) 0).2.2 with
    h | ⟨i, hi, h⟩
  · exact .inl h
  · cases ho : (peer s i).observation with
    | none =>
      rw [ho] at h
      exact .inl h
    | some o =>
      rw [ho] at h
      exact .inr ⟨i, hi, o, ho, h⟩

/-- A trip in ARMED mode, whole (R83, R86 to R91, R117, R118, R196). -/
theorem tripArmed_tripped (own origin : Cause) (votes received : Nat) (hq : queueOk s = true)
    (hst : s.zs.st ≠ .unconfigured) : Tripped own origin votes (tripGrade received s) (countedSet s) s
      (tripArmed own origin votes received s) := by
  obtain ⟨kept, vtu, queued, -, zone, request, closed⟩ := tripArmed_taken own origin votes received s
  have htime : (tripArmed own origin votes received s).nodeTime = s.nodeTime := (voteKept_fields kept).1
  obtain ⟨-, hta⟩ := zone hst
  unfold Tripped
  rw [htime, vtu]
  refine ⟨rfl, rfl, rfl, fun hne => ⟨if_neg hne, if_neg hne⟩, fun hwire => ⟨if_pos hwire, if_pos hwire⟩, queued hq, hta,
    request, closed, fun hholds => ?_⟩
  obtain ⟨first, htrip⟩ := tripArmed_eq own origin votes received s
  have hsent : ∃ slc vtu draws, tripSent own origin votes (tripGrade received s) s =
      ((s.setSlc slc).setVtu vtu).setDraws draws := by
    rw [tripSent_eq, place_setSlc]
    exact ⟨_, _, _, rfl⟩
  obtain ⟨slc, vtu', draws, hsent⟩ := hsent
  have handed := HandedOn.ofOrders (tripGrade received s) own origin votes (countedSet s) first
    (tripSent own origin votes (tripGrade received s) s)
  have both := zoneAndRecord own origin votes (tripGrade received s) (countedSet s) first
    (s := tripSent own origin votes (tripGrade received s) s) (by rw [hsent]; exact hst) (by rw [hsent]; exact hholds)
  rw [htrip]
  generalize inEitherOrder first _ _ _ = x at handed both ⊢
  rw [hsent] at handed both
  obtain ⟨st, grade, consoleHold, shutting, cleared, claimEnded, record, waits⟩ := both
  have hgrade : max s.zs.grade (tripGrade received s) = tripGrade received s :=
    Nat.max_eq_right (Nat.le_trans (Nat.le_max_left ..) (Nat.le_max_left ..))
  have hopened (hopen : s.rcp.record.isOpen = true) : x.rcp.record = { s.rcp.record with
      sequence := x.rcp.record.sequence, count := min 255 (s.rcp.record.count + 1)
      grade := max s.rcp.record.grade (tripGrade received s), permit := s.rcp.record.permit || origin == .console } := by
    have hafter : recordAfterTrip own origin votes (tripGrade received s) (countedSet s) s.rcp.record = _ := if_pos hopen
    exact record.trans (congrArg (fun r : TripRecord => { r with sequence := x.rcp.record.sequence }) hafter)
  have hnew (hopen : s.rcp.record.isOpen = false) : x.rcp.record = {
      isOpen := true, permit := origin == .console, sequence := x.rcp.record.sequence, own := some own
      origin := some origin, votes := votes, grade := tripGrade received s, count := 1, stations := countedSet s } := by
    have hafter : recordAfterTrip own origin votes (tripGrade received s) (countedSet s) s.rcp.record = _ :=
      if_neg (by rw [hopen]; decide)
    exact record.trans (congrArg (fun r : TripRecord => { r with sequence := x.rcp.record.sequence }) hafter)
  have hclears (hs : s.zs.st ≠ .shutting) := cleared hs
  cases hw : s.rcp.closeWaits with
  | false =>
    rw [settleClose_none (waits.trans hw)]
    refine ⟨st, by rw [if_neg (by simp), ← hgrade]; exact grade, consoleHold, shutting, fun hs => ?_, claimEnded, hopened, hnew⟩
    obtain ⟨-, pause, held, next, stage, start, waiver⟩ := hclears hs
    exact ⟨pause, held, next, stage, start, waiver⟩
  | true =>
    have hxtime : x.nodeTime = s.nodeTime := (zoneKept_fields handed.kept).1
    have hxta : x.zs.ta = max s.zs.ta s.nodeTime := (handed.zone hst).2
    have hxcfg : cfg x = cfg s := (zoneKept_cfg handed.kept :)
    obtain ⟨hold, heq⟩ := settleClose_void (waits.trans hw) (handed.request.trans (congrArg some hxtime.symm))
      (by rw [hxtime, hxta]; exact Nat.le_max_right ..) (by rw [hxcfg]; exact hholds)
    rw [heq]
    refine ⟨st, ?_, consoleHold, shutting, fun hs => ?_, claimEnded, hopened, hnew⟩
    · change max x.zs.grade x.rcp.record.grade = _
      rw [grade.trans hgrade]
      cases hopen : s.rcp.record.isOpen with
      | true =>
        rw [hopened hopen, if_pos ⟨rfl, rfl⟩]
        exact Eq.trans (Nat.max_eq_right (Nat.le_max_right _ _)) (Nat.max_comm _ _)
      | false =>
        rw [hnew hopen, if_neg (by simp)]
        exact Nat.max_self _
    · obtain ⟨-, pause, held, next, stage, start, waiver⟩ := hclears hs
      exact ⟨pause, held, next, stage, start, waiver⟩

end Sys2Proof.Machine

/-! Votes, trips by mode and flag, the Trip Wire and the VTU's deadlines (sections 4.1 to 4.7). -/

namespace Sys2Proof.Machine

variable {s u : State} {t d : Nat}

theorem armingEval_eq (s : State) : armingEval s =
    s.setVtu { s.vtu with armed := s.vtu.armed || (working s && mayArm s) } := by
  unfold armingEval
  cases ha : s.vtu.armed with
  | true =>
    rw [if_neg (by simp), Bool.true_or, ← ha]
    rfl
  | false =>
    cases hm : (working s && mayArm s) with
    | true =>
      rw [if_pos (by simpa using hm)]
      rfl
    | false =>
      rw [if_neg (by simpa using hm), Bool.or_self, ← ha]
      rfl

theorem mayArm_eq (s : State) : mayArm s = (decide (s.vtu.votes < (cfg s).k) &&
    !(s.mp.inProgress && decide ((cfg s).gsolo ≤ s.mp.grade)) && (s.vtu.wire == .released || s.vtu.wire == .stuck) &&
    (match s.vtu.rearmDue with | some d => decide (d ≤ s.nodeTime) | none => true)) := rfl

theorem working_iff (s : State) : working s = true ↔ s.phase = .running ∧ configured s = true := by
  simp [working, Machine.running]

/-- An arming evaluation of a part that is running, while the wire counts as released (R84). -/
theorem armingEval_quiet (hrun : s.phase = .running) (hw : s.vtu.wire = .released ∨ s.vtu.wire = .stuck) :
    armingEval s = s.setVtu { s.vtu with
      armed := s.vtu.armed || (configured s && decide (s.vtu.votes < (cfg s).k) &&
        !(s.mp.inProgress && decide ((cfg s).gsolo ≤ s.mp.grade)) &&
        (match s.vtu.rearmDue with | some d => decide (d ≤ s.nodeTime) | none => true)) } := by
  have hquiet : (s.vtu.wire == .released || s.vtu.wire == .stuck) = true := by rcases hw with hw | hw <;> rw [hw] <;> rfl
  have hwork : working s = configured s := by rw [working, Machine.running, hrun]; rfl
  rw [armingEval_eq, mayArm_eq, hquiet, hwork, Bool.and_true, Bool.and_assoc, Bool.and_assoc, Bool.and_assoc]

/-- Settles O26. -/
theorem voteAndSoloTests : Obligations.VoteAndSoloTests := by
  unfold Obligations.VoteAndSoloTests
  intro s hrun hconf v
  have hw : working s = true := (working_iff s).mpr ⟨hrun, hconf⟩
  have hvote : voteTest s = if (cfg s).k ≤ v then tripOccasion .vote .vote v 0 (s.setVtu { s.vtu with votes := v })
      else armingEval (s.setVtu { s.vtu with votes := v }) := if_pos hw
  have hsolo : ownAtSolo s = true ↔ s.mp.inProgress = true ∧ (cfg s).gsolo ≤ s.mp.grade := by simp [ownAtSolo]
  refine ⟨fun hlt => ?_, fun hle hclear => ?_, fun hle _ => ?_, fun hs => if_pos (hsolo.mpr hs), fun hs => if_neg fun h => ?_⟩
  · have hworks : working (s.setVtu { s.vtu with votes := v }) = true := hw
    rw [hvote, if_neg (Nat.not_le.mpr hlt), armingEval_eq, hworks, mayArm_eq,
      show decide ((s.setVtu { s.vtu with votes := v }).vtu.votes < (cfg (s.setVtu { s.vtu with votes := v })).k) = true from
        decide_eq_true hlt, Bool.true_and, Bool.true_and]
    rfl
  · rw [hvote, if_pos hle, tripOccasion_none (.inr (by exact hclear))]
    rfl
  · rw [hvote, if_pos hle]
    rfl
  · obtain ⟨hin, hle⟩ := hsolo.mp h
    rcases hs with hs | hs
    · exact absurd (hs.symm.trans hin) Bool.false_ne_true
    · exact absurd hs (Nat.not_lt.mpr hle)

theorem le_tripGrade (received : Nat) (s : State) : s.zs.grade ≤ tripGrade received s ∧ received ≤ tripGrade received s ∧
    (s.mp.inProgress = true → s.mp.grade ≤ tripGrade received s) ∧ countedGrade s ≤ tripGrade received s := by
  unfold tripGrade
  refine ⟨?_, ?_, fun h => ?_, ?_⟩
  · exact Nat.le_trans (Nat.le_max_left ..) (Nat.le_max_left ..)
  · exact Nat.le_trans (Nat.le_max_right ..) (Nat.le_max_right ..)
  · rw [if_pos h]
    exact Nat.le_trans (Nat.le_max_right ..) (Nat.le_max_left ..)
  · exact Nat.le_trans (Nat.le_max_left ..) (Nat.le_max_right ..)

theorem tripGrade_from (received : Nat) (s : State) : tripGrade received s = s.zs.grade ∨
    tripGrade received s = received ∨ (s.mp.inProgress = true ∧ tripGrade received s = s.mp.grade) ∨
      ∃ i ∈ countedSet s, ∃ o, (peer s i).observation = some o ∧ tripGrade received s = o.grade := by
  have hbound := (le_tripGrade received s).1
  have zero (h : tripGrade received s = 0) : tripGrade received s = s.zs.grade := by omega
  rcases max_eq_either (max s.zs.grade (if s.mp.inProgress then s.mp.grade else 0)) (max (countedGrade s) received) with
    h | h
  · rcases max_eq_either s.zs.grade (if s.mp.inProgress then s.mp.grade else 0) with h' | h'
    · exact .inl (h.trans h')
    · have heq : tripGrade received s = if s.mp.inProgress then s.mp.grade else 0 := h.trans h'
      by_cases hin : s.mp.inProgress = true
      · rw [if_pos hin] at heq
        exact .inr (.inr (.inl ⟨hin, heq⟩))
      · rw [if_neg hin] at heq
        exact .inl (zero heq)
  · rcases max_eq_either (countedGrade s) received with h' | h'
    · rcases countedGrade_from s with h0 | ⟨i, hi, o, ho, heq⟩
      · exact .inl (zero ((h.trans h').trans h0))
      · exact .inr (.inr (.inr ⟨i, hi, o, ho, (h.trans h').trans heq⟩))
    · exact .inr (.inl (h.trans h'))

/-- Settles O27. -/
theorem tripByModeAndFlag : Obligations.TripByModeAndFlag := by
  unfold Obligations.TripByModeAndFlag
  refine ⟨?armed, ?others⟩
  case armed =>
    intro own origin votes received s hrun hconf harmed hmode hq hst g u
    have hu : u = tripArmed own origin votes received s :=
      tripOccasion_armed ((working_iff s).mpr ⟨hrun, hconf⟩) harmed hmode own origin votes received
    obtain ⟨hzone, hreceived, hown, hcounted⟩ := le_tripGrade received s
    obtain ⟨kept, vtu, -⟩ := tripArmed_taken own origin votes received s
    obtain ⟨htime, hmp, hpv, hpins, hphase, hpending, -⟩ := voteKept_fields kept
    rw [hu]
    exact ⟨hzone, hreceived, hown, fun i hi o ho => Nat.le_trans (le_countedGrade hi ho) hcounted, tripGrade_from received s,
      tripArmed_tripped own origin votes received hq hst, ⟨hpins, hphase, hpending⟩, htime, hmp, hpv, by rw [vtu]; rfl,
      by rw [vtu]; rfl, by rw [vtu]; rfl⟩
  case others =>
    intro own origin votes received s
    refine ⟨fun hrun hconf harmed hmode => ?_, fun hno => tripOccasion_none ?_ own origin votes received⟩
    · rw [tripOccasion_listen ((working_iff s).mpr ⟨hrun, hconf⟩) harmed hmode]
      rfl
    · rcases hno with h | h | h
      · exact .inr h
      · exact .inl (Bool.eq_false_iff.mpr fun hw => absurd (h.symm.trans ((working_iff s).mp hw).2) Bool.false_ne_true)
      · exact .inl (Bool.eq_false_iff.mpr fun hw => h ((working_iff s).mp hw).1)

/-! ## The edges of the Trip Wire -/

/-- Settles O29. -/
theorem tripWireEdges : Obligations.TripWireEdges := by
  unfold Obligations.TripWireEdges
  intro t s h
  have hrise : exec (.wireAssertionEdge t) s = .next (assertionEdge (s.setNodeTime t)) := by
    rw [← h.taken]
    rfl
  have hfall : exec (.wireReleaseEdge t) s = .next (releaseEdge (s.setNodeTime t)) := by
    rw [← h.taken]
    rfl
  have hrun (v : Bool) : Machine.running (setWirePin v (s.setNodeTime t)) = true := h.running
  have hrises (hw : s.vtu.wire = .released) : assertionEdge (s.setNodeTime t) =
      abortTest (wireRises (setWirePin true (s.setNodeTime t))) := by
    refine if_pos ?_
    rw [hrun, show (setWirePin true (s.setNodeTime t)).vtu.wire = .released from hw]
    rfl
  refine ⟨fun hw hm => ?_, fun hw hm => ?_, fun hw => ?_, fun hw => ?_, fun hw => ?_⟩
  · have hno : abortTest (wireRises (setWirePin true (s.setNodeTime t))) = _ :=
      if_neg (by rw [show measuring (wireRises (setWirePin true (s.setNodeTime t))) = false from hm]; decide)
    rw [hrise, hrises hw, hno]
    rfl
  · have hyes : abortTest (wireRises (setWirePin true (s.setNodeTime t))) = _ := if_pos hm
    rw [hrise, hrises hw, hyes]
    rfl
  · have hno : assertionEdge (s.setNodeTime t) = setWirePin true (s.setNodeTime t) := by
      refine if_neg ?_
      rw [hrun, Bool.true_and]
      exact fun hb => hw (beq_iff_eq.mp hb)
    rw [hrise, hno]
    rfl
  · have hno : releaseEdge (s.setNodeTime t) = setWirePin false (s.setNodeTime t) := by
      refine if_neg ?_
      rw [hrun, show (setWirePin false (s.setNodeTime t)).vtu.wire = .released from hw]
      decide
    rw [hfall, hno]
    rfl
  · have hyes : releaseEdge (s.setNodeTime t) = wireReleases (setWirePin false (s.setNodeTime t)) := by
      refine if_pos ?_
      rw [hrun, Bool.true_and]
      exact bne_iff_ne.mpr hw
    rw [hfall, hyes]
    unfold wireReleases
    dsimp only
    split
    next hstuck =>
      refine ⟨_, rfl, ?_⟩
      rw [armingEval_quiet (by rw [clearFault_eq]; exact h.1) (by rw [clearFault_eq]; exact .inl rfl), clearFault_eq]
      exact ⟨rfl, rfl, rfl, fun _ => active_clearFault_same .wireStuck _, fun hne => absurd hstuck hne, rfl⟩
    next hnot =>
      refine ⟨_, rfl, ?_⟩
      rw [armingEval_quiet (by exact h.1) (by exact .inl rfl)]
      exact ⟨rfl, rfl, rfl, fun hs => absurd hs hnot, fun _ => rfl, rfl⟩

end Sys2Proof.Machine

/-! The VTU's deadlines (sections 4.3 to 4.5), and an activity report that a trip follows. -/

namespace Sys2Proof.Machine

variable {s u w : State} {t d offer : Nat}

/-! ## An activity report that is no aftershock -/

theorem activityEffect_calm (s : State) : activityEffect false s =
    if s.zs.st = .awaitPermit then enterWatch s else if s.zs.st = .starting then recomputeStart s else s := by
  unfold activityEffect
  split
  all_goals simp [*]

/-- What an activity report that is no aftershock leaves, for a trip that follows it (R131 to R133, R145). -/
structure CalmReport (offer : Nat) (s w : State) : Prop where
  kept : zoneKept w = zoneKept s
  cd : w.cd = s.cd
  icu : w.icu = s.icu
  ta : w.zs.ta = s.nodeTime
  grade : w.zs.grade = gradeOffered offer s
  consoleHold : w.zs.consoleHold = s.zs.consoleHold
  state : w.zs.st = s.zs.st ∨ (s.zs.st = .awaitPermit ∧ w.zs.st = .watch)
  shutting : s.zs.st = .shutting →
    w.zs.stage = s.zs.stage ∧ w.zs.currentStage = s.zs.currentStage ∧ w.zs.gapDue = s.zs.gapDue
  recordKept : gradeOffered offer s = s.zs.grade → w.rcp = s.rcp
  recordRaised : s.zs.grade < gradeOffered offer s → recordOpen s = true ∧
    ∃ n, w.rcp.record =
      { s.rcp.record with sequence := n, grade := max s.rcp.record.grade (gradeOffered offer s) } ∧
        w.rcp.closeWaits = s.rcp.closeWaits

theorem le_gradeOffered (offer : Nat) (s : State) : s.zs.grade ≤ gradeOffered offer s := by
  unfold gradeOffered
  split
  · exact Nat.le_max_left ..
  · exact (Nat.le_refl _)

theorem recordOpen_of_raised (h : s.zs.grade < gradeOffered offer s) : recordOpen s = true := by
  refine Decidable.byContradiction fun hno => ?_
  rw [gradeOffered, if_neg hno] at h
  exact Nat.lt_irrefl _ h

theorem activity_calm (offer : Nat) (hst : s.zs.st ≠ .unconfigured) (hta : s.zs.ta ≤ s.nodeTime)
    (hholds : holdsAboveZero (cfg s) = true) : CalmReport offer s (activity s.nodeTime offer false s) := by
  obtain ⟨v, heq, ⟨⟨due, hzs, -, -⟩, ⟨rcp, z, hv⟩, hlater, -⟩, hsame, hraised⟩ :=
    activity_taken (offer := offer) (aftershock := false) hst hta hholds
  have kept := zoneKept_activity s.nodeTime offer false s
  have hcd : v.cd = s.cd := by rw [hv]; rfl
  have hicu : v.icu = s.icu := by rw [hv]; rfl
  rw [heq, activityEffect_calm] at kept ⊢
  have recordRaised (h : s.zs.grade < gradeOffered offer s) := And.intro (recordOpen_of_raised h) (hraised h)
  by_cases hawait : v.zs.st = .awaitPermit
  · rw [if_pos hawait, enterWatch_later (v := v) rfl (by rw [hawait]; decide) hlater] at kept ⊢
    rw [hzs] at hawait
    refine ⟨kept, hcd, hicu, (congrArg SeqRecord.ta hzs :), (congrArg SeqRecord.grade hzs :), (congrArg SeqRecord.consoleHold hzs :),
      .inr ⟨hawait, rfl⟩, fun h => absurd (h.symm.trans hawait) (by decide), hsame, recordRaised⟩
  · by_cases hstart : v.zs.st = .starting
    · rw [if_neg hawait, if_pos hstart, recomputeStart] at kept ⊢
      rw [hzs] at hstart
      refine ⟨kept, hcd, hicu, (congrArg SeqRecord.ta hzs :), (congrArg SeqRecord.grade hzs :), (congrArg SeqRecord.consoleHold hzs :),
        .inl (congrArg SeqRecord.st hzs :), fun h => absurd (h.symm.trans hstart) (by decide), hsame, recordRaised⟩
    · rw [if_neg hawait, if_neg hstart] at kept ⊢
      refine ⟨kept, hcd, hicu, (congrArg SeqRecord.ta hzs :), (congrArg SeqRecord.grade hzs :), (congrArg SeqRecord.consoleHold hzs :),
        .inl (congrArg SeqRecord.st hzs :), fun h => ?_, hsame, recordRaised⟩
      exact ⟨(congrArg SeqRecord.stage hzs :), (congrArg SeqRecord.currentStage hzs :), (congrArg SeqRecord.gapDue hzs :)⟩

theorem CalmReport.record (h : CalmReport offer s w) : ∃ n, w.rcp.record =
    { s.rcp.record with sequence := n, grade := w.rcp.record.grade } ∧ w.rcp.closeWaits = s.rcp.closeWaits ∧
      ∀ g, gradeOffered offer s ≤ g → max w.rcp.record.grade g = max s.rcp.record.grade g := by
  rcases Nat.eq_or_lt_of_le (le_gradeOffered offer s) with heq | hlt
  · rw [h.recordKept heq.symm]
    exact ⟨_, rfl, rfl, fun _ _ => rfl⟩
  · obtain ⟨-, n, hrecord, hwaits⟩ := h.recordRaised hlt
    rw [hrecord]
    exact ⟨n, rfl, hwaits, fun g hg => by rw [Nat.max_assoc, Nat.max_eq_right hg]⟩

/-- A trip after an activity report of the same node time is a trip of the state before the report, where the trip
grade covers the grade that the report offers (R91, R133). -/
theorem CalmReport.tripped {own origin : Cause} {votes g : Nat} {l : List StationId} (hw : CalmReport offer s w)
    (hg : gradeOffered offer s ≤ g) (hta : s.zs.ta ≤ s.nodeTime) (hnow : u.nodeTime = s.nodeTime)
    (h : Tripped own origin votes g l w u) : Tripped own origin votes g l s u := by
  obtain ⟨n, hcontent, hwaits, hgrades⟩ := hw.record
  have hvtu : w.vtu = s.vtu := (zoneKept_fields hw.kept).2.2.2.1
  have hcfg : cfg w = cfg s := (zoneKept_cfg hw.kept :)
  have hopen : w.rcp.record.isOpen = s.rcp.record.isOpen := by rw [hcontent]
  have hcount : w.rcp.record.count = s.rcp.record.count := by rw [hcontent]
  have hmax := hgrades g hg
  have hmax' : max g w.rcp.record.grade = max g s.rcp.record.grade := by rw [Nat.max_comm, hmax, Nat.max_comm]
  unfold Tripped at h ⊢
  rw [hvtu, hcfg, hw.ta, hnow, Nat.max_self, hwaits, hopen, hw.consoleHold, hw.cd, hmax, hmax', hcount] at h
  rw [hnow, Nat.max_eq_right hta]
  obtain ⟨armed, last, rearm, drives, wire, queued, ta, request, waits, zone⟩ := h
  refine ⟨armed, last, rearm, drives, wire, queued, ta, request, waits, fun hholds => ?_⟩
  obtain ⟨st, grade, consoleHold, shutting, cleared, ended, opened, new⟩ := zone hholds
  have hst (q : SeqState) (hq : s.zs.st = q) (hne : q ≠ .awaitPermit) : w.zs.st = q := by
    rcases hw.state with hs | ⟨hs, -⟩
    · exact hs.trans hq
    · exact absurd (hq.symm.trans hs) hne
  refine ⟨st, grade, consoleHold, fun hs => ?_, fun hs => cleared ?_, fun hs => ended ?_, fun ho => (opened ho).trans ?_, new⟩
  · obtain ⟨stage, current, gap⟩ := hw.shutting hs
    rw [← stage, ← current, ← gap]
    exact shutting (hst _ hs (by decide))
  · rcases hw.state with hs' | ⟨-, hs'⟩ <;> rw [hs']
    · exact hs
    · decide
  · rcases hs with hs | hs | hs
    · exact .inl (hst _ hs (by decide))
    · exact .inr (.inl (hst _ hs (by decide)))
    · exact .inr (.inr (hst _ hs (by decide)))
  · rw [hcontent]

/-- What a trip occasion does, whether it trips or not (R81, R85). -/
theorem tripOccasion_around (own origin : Cause) (votes received : Nat) (s : State) :
    SameAround s (tripOccasion own origin votes received s) ∧
      (tripOccasion own origin votes received s).nodeTime = s.nodeTime ∧
      (tripOccasion own origin votes received s).mp = s.mp ∧ (tripOccasion own origin votes received s).pv = s.pv := by
  obtain ⟨htime, hmp, hpv, hpins, hphase, hpending, -⟩ := voteKept_fields (tripOccasion_votes own origin votes received s).kept
  exact ⟨⟨hpins, hphase, hpending⟩, htime, hmp, hpv⟩

/-- No trip of cause WIRE moves the sensed state of the wire, its deadlines or the drive (R89, R94). -/
theorem tripOccasion_wire (votes received : Nat) (origin : Cause) (s : State) :
    (tripOccasion .wire origin votes received s).vtu.wire = s.vtu.wire ∧
      (tripOccasion .wire origin votes received s).vtu.confirmDue = s.vtu.confirmDue ∧
      (tripOccasion .wire origin votes received s).vtu.stuckDue = s.vtu.stuckDue ∧
      (tripOccasion .wire origin votes received s).vtu.driving = s.vtu.driving := by
  rcases tripOccasion_cases .wire origin votes received s with h | h | h <;> rw [h]
  · exact ⟨rfl, rfl, rfl, rfl⟩
  · exact ⟨rfl, rfl, rfl, rfl⟩
  · rw [(tripArmed_taken .wire origin votes received s).vtu]
    exact ⟨rfl, rfl, rfl, rfl⟩

/-! ## The deadlines -/

/-- The confirm deadline (R81, R85, R90). -/
theorem wireConfirmed (hrun : s.phase = .running) (hconf : configured s = true) (hq : queueOk s = true)
    (hta : s.zs.ta ≤ s.nodeTime) (hst : s.zs.st ≠ .unconfigured)
    (hu : u = tripOccasion .wire .wire 0 0 (activity s.nodeTime 0 false s)) :
    SameAround s u ∧ u.nodeTime = s.nodeTime ∧ u.vtu.wire = s.vtu.wire ∧ u.vtu.confirmDue = s.vtu.confirmDue ∧
      u.vtu.stuckDue = s.vtu.stuckDue ∧ u.vtu.driving = s.vtu.driving ∧ u.mp = s.mp ∧ u.pv = s.pv ∧ u.zs.ta = s.nodeTime ∧
      (s.vtu.armed = true → s.hm.mode = .armed → holdsAboveZero (cfg s) = true →
        ∃ g, s.zs.grade ≤ g ∧ Tripped .wire .wire 0 g (countedSet s) s u) ∧
      (s.vtu.armed = true → s.hm.mode = .listen →
        u.vtu.armed = false ∧ u.vtu.wouldTrip = min 255 (s.vtu.wouldTrip + 1)) ∧
      (s.vtu.armed = false → u.vtu = s.vtu ∧ (holdsAboveZero (cfg s) = true → u.rcp = s.rcp)) := by
  have calm := activity_calm 0 hst hta
  obtain ⟨hwst, hwta⟩ := activity_ta hst s.nodeTime 0 false
  have hvtu := activity_vtu s.nodeTime 0 false s
  have kept := zoneKept_activity s.nodeTime 0 false s
  have hwq : queueOk (activity s.nodeTime 0 false s) = true := (queueOk_iff _).mpr
    (((Moves.refl (motion := false) (line := false)).activityAt (Nat.le_refl _) 0 false).keeps_queue ((queueOk_iff s).mp hq))
  generalize activity s.nodeTime 0 false s = w at calm hwst hwta hvtu kept hwq hu
  obtain ⟨htime, hmp, hpv, -, hpins, hphase, hpending⟩ := zoneKept_fields kept
  have hmode : w.hm.mode = s.hm.mode := (congrArg (fun x => x.hm.mode) kept :)
  have hcounted : countedSet w = countedSet s := countedSet_of_voteKept (voteKept_of_zoneKept kept)
  have hworks : working w = true := by
    rw [working_of_voteKept (voteKept_of_zoneKept kept)]
    exact (working_iff s).mpr ⟨hrun, hconf⟩
  have hgrade (h : holdsAboveZero (cfg s) = true) : gradeOffered 0 s = s.zs.grade := by
    unfold gradeOffered
    split
    · exact Nat.max_zero _
    · rfl
  obtain ⟨⟨upins, uphase, upending⟩, utime, ump, upv⟩ := tripOccasion_around .wire .wire 0 0 w
  obtain ⟨uwire, uconfirm, ustuck, udriving⟩ := tripOccasion_wire 0 0 .wire w
  obtain ⟨-, uta⟩ := (tripOccasion_votes .wire .wire 0 0 w).zone hwst
  rw [← hu] at upins uphase upending utime ump upv uwire uconfirm ustuck udriving uta
  rw [hvtu] at uwire uconfirm ustuck udriving
  refine ⟨⟨upins.trans hpins, uphase.trans hphase, upending.trans hpending⟩, utime.trans htime, uwire, uconfirm, ustuck,
    udriving, ump.trans hmp, upv.trans hpv, ?_, fun harmed hm hholds => ?_, fun harmed hm => ?_, fun hclear => ?_⟩
  · rw [htime, hwta, Nat.max_assoc, Nat.max_self, or_self, Nat.max_eq_right hta] at uta
    exact uta
  · have heq : u = tripArmed .wire .wire 0 0 w :=
      hu.trans (tripOccasion_armed hworks (by rw [hvtu]; exact harmed) (hmode.trans hm) ..)
    have htripped := tripArmed_tripped .wire .wire 0 0 hwq hwst
    rw [← heq, hcounted] at htripped
    have hle : s.zs.grade ≤ tripGrade 0 w :=
      Nat.le_trans (Nat.le_of_eq ((calm hholds).grade.trans (hgrade hholds)).symm) (le_tripGrade 0 w).1
    exact ⟨_, hle, (calm hholds).tripped (Nat.le_trans (Nat.le_of_eq (hgrade hholds)) hle) hta (utime.trans htime) htripped⟩
  · rw [hu, tripOccasion_listen hworks (by rw [hvtu]; exact harmed) (hmode.trans hm)]
    refine ⟨rfl, ?_⟩
    change min 255 (w.vtu.wouldTrip + 1) = _
    rw [hvtu]
  · rw [hu, tripOccasion_none (.inr (by rw [hvtu]; exact hclear))]
    exact ⟨hvtu, fun hholds => (calm hholds).recordKept (hgrade hholds)⟩

/-- An arming evaluation of a part that is running, with no re-arm deadline (R84). -/
theorem armingEval_rearmed (hrun : s.phase = .running) (hnone : s.vtu.rearmDue = none) :
    armingEval s = s.setVtu { s.vtu with
      armed := s.vtu.armed || (configured s && decide (s.vtu.votes < (cfg s).k) &&
        !(s.mp.inProgress && decide ((cfg s).gsolo ≤ s.mp.grade)) &&
        (s.vtu.wire == .released || s.vtu.wire == .stuck)) } := by
  have hwork : working s = configured s := by rw [working, Machine.running, hrun]; rfl
  rw [armingEval_eq, mayArm_eq, hnone, hwork]
  dsimp only
  rw [Bool.and_true, ← Bool.and_assoc, ← Bool.and_assoc]

/-- A deadline of a running part that a condition of its own guards. -/
theorem RunsAt.fallsIf (h : RunsAt t s) {o : Option Nat} (ho : o = some d) (hd : d ≤ t) {b : Bool} (hb : b = true) :
    (Machine.running (s.setNodeTime t) && b && due o (s.setNodeTime t)) = true := by
  rw [hb, Bool.and_true]
  exact h.falls ho hd

/-- Settles O30. -/
theorem voteUnitDeadlines : Obligations.VoteUnitDeadlines := by
  unfold Obligations.VoteUnitDeadlines
  intro t d s h hd others
  refine ⟨fun hw hdue hq htimes hst hconf => ?confirm, fun hw hdue => ?stuck, fun hdue => ?rearm, fun hdrives hdue => ?drive⟩
  case confirm =>
    have hexec : exec (.confirmDeadline t) s = .next (confirmDeadline (advance t s)) := rfl
    rw [hexec, h.taken, confirmDeadline, if_pos (by exact h.fallsIf hdue hd (beq_iff_eq.mpr hw))]
    obtain ⟨hrun, hlate, -⟩ := h
    obtain ⟨-, hta⟩ := (timesOk_iff s).mp htimes
    refine ⟨_, rfl, ?_⟩
    obtain ⟨around, time, wire, confirm, stuck, driving, mp, pv, ta, armed, listen, clear⟩ := wireConfirmed
      (s := (s.setNodeTime t).setVtu { s.vtu with wire := .asserted, confirmDue := none })
      hrun hconf hq (Nat.le_trans hta hlate) hst rfl
    refine ⟨around, time, wire, confirm, stuck, driving, mp, pv, ta, fun harmed hm hholds => ?_, listen, clear⟩
    obtain ⟨g, hle, htripped⟩ := armed harmed hm hholds
    exact ⟨g, hle, htripped⟩
  case stuck =>
    have hexec : exec (.stuckDeadline t) s = .next (stuckDeadline (advance t s)) := rfl
    rw [hexec, h.taken, stuckDeadline, if_pos (by exact h.fallsIf hdue hd (beq_iff_eq.mpr hw))]
    refine ⟨_, rfl, ?_⟩
    rw [armingEval_quiet (by rw [raiseFault_eq]; exact h.1) (by rw [raiseFault_eq]; exact .inr rfl)]
    have hactive := active_raiseFault_same .wireStuck ((s.setNodeTime t).setVtu { s.vtu with wire := .stuck, stuckDue := none })
    have hsticky := sticky_raiseFault_same .wireStuck ((s.setNodeTime t).setVtu { s.vtu with wire := .stuck, stuckDue := none })
    rw [raiseFault_eq] at hactive hsticky ⊢
    exact ⟨rfl, hactive, hsticky, rfl, rfl⟩
  case rearm =>
    have hexec : exec (.rearmDeadline t) s = .next (rearmDeadline (advance t s)) := rfl
    rw [hexec, h.taken, rearmDeadline, if_pos (by exact h.falls hdue hd), armingEval_rearmed (by exact h.1) rfl]
    rfl
  case drive =>
    have hexec : exec (.driveDeadline t) s = .next (driveDeadline (advance t s)) := rfl
    rw [hexec, h.taken, driveDeadline, if_pos (by exact h.fallsIf hdue hd hdrives)]
    rfl

end Sys2Proof.Machine

/-! Console commands as they reach this node, and their effects (sections 11.1, 11.2 and 11.4). -/

namespace Sys2Proof.Machine

variable {s u : State} {t : Nat} {i : StationId} {p : CommandPayload}

/-! ## The way of a command -/

theorem exec_command {c : Instr} {code : Nat} (h : commandFrame c = some (code, t, i, p)) (ht : t ≤ maxNodeTime) (s : State) :
    ∃ effect, exec c s = .next (commandArrives code c.wellFormed i p effect (advance t s)) := by
  have hok : timeOk t = true := decide_eq_true ht
  cases c <;> simp only [commandFrame, Option.some.injEq, Prod.mk.injEq, reduceCtorEq] at h <;>
    obtain ⟨rfl, rfl, rfl, rfl⟩ := h <;> simp only [Instr.wellFormed, hok, Bool.true_and]
  all_goals exact ⟨_, rfl⟩

theorem heardFrame_inConsoleSet (hi : i ≠ ownId s) (t : Nat) (j : StationId) :
    inConsoleSet (heardFrame t i s) j = inConsoleSet s j := by
  unfold inConsoleSet
  rw [heardFrame_cfg hi]

/-- A command that reaches this node from outside the console set (R200). -/
theorem commandArrives_refused (h : RunsAt t s) (hl : s.slc.line = .receiving) (hi : i ≠ ownId s)
    (hc : configured s = true) (hp : Reaches p s) (hset : inConsoleSet s i = false) (code : Nat)
    (effect : State → CmdResult × State) :
    commandArrives code true i p effect (advance t s) = recordResult code .refused (heardFrame t i s) := by
  have hp' : p.target = 255 ∨ p.target = (ownId (heardFrame t i s)).val := by rw [heardFrame_ownId hi]; exact hp
  have hset' : inConsoleSet (heardFrame t i s) i = false := (heardFrame_inConsoleSet hi t i).trans hset
  unfold commandArrives
  rw [arrive_other h hl hi hc]
  unfold deliverCommand
  rw [if_pos hp', hset', if_neg Bool.false_ne_true]

/-- A command for another node (R200). -/
theorem commandArrives_elsewhere (h : RunsAt t s) (hl : s.slc.line = .receiving) (hi : i ≠ ownId s)
    (hc : configured s = true) (hp : ¬Reaches p s) (code : Nat) (effect : State → CmdResult × State) :
    commandArrives code true i p effect (advance t s) = heardFrame t i s := by
  have hp' : ¬(p.target = 255 ∨ p.target = (ownId (heardFrame t i s)).val) := by rw [heardFrame_ownId hi]; exact hp
  unfold commandArrives
  rw [arrive_other h hl hi hc]
  unfold deliverCommand
  rw [if_neg hp']

/-- Settles O51. -/
theorem commandIsRefused : Obligations.CommandIsRefused := by
  unfold Obligations.CommandIsRefused
  intro c code t i p s hcommand hform h hl hi hc
  obtain ⟨effect, hexec⟩ := exec_command hcommand h.2.2.1 s
  rw [hexec, hform]
  refine ⟨fun hall hown => ?_, fun hp hset => ?_⟩
  · rw [commandArrives_elsewhere h hl hi hc (not_or.mpr ⟨hall, hown⟩)]
  · rw [commandArrives_refused h hl hi hc hp hset]
    rfl

/-! ## ACK-FAULTS -/

/-- Settles O54. -/
theorem ackFaults : Obligations.AckFaults := by
  unfold Obligations.AckFaults
  refine ⟨fun t i p s h hl hi hc hrange hp => ?delivered, fun f s => ?orders⟩
  case delivered =>
    have hexec : exec (.ackFaults t i p) s =
        .next (commandArrives 7 (commandInRange p) i p ackFaultsEffect (advance t s)) := rfl
    rw [hexec, hrange]
    cases hset : inConsoleSet s i with
    | true =>
      rw [commandArrives_heard h hl hi hc hp hset]
      exact ⟨_, rfl, rfl, rfl, rfl, fun _ => ⟨rfl, rfl⟩, nofun⟩
    | false =>
      rw [commandArrives_refused h hl hi hc hp hset]
      exact ⟨_, rfl, rfl, rfl, rfl, nofun, fun _ => ⟨rfl, rfl⟩⟩
  case orders =>
    have hraise (v : State) : active f (raiseFault f v) = true := active_raiseFault_same f v
    have hclear (v : State) : active f (clearFault f v) = false := active_clearFault_same f v
    refine ⟨hraise s, hraise s, hraise _, sticky_raiseFault_same f _, hclear s, hclear s, hclear _,
      congrArg (hasFault f) (sticky_clearFault f _), fun hno => hno, rfl⟩

/-! ## MODE -/

theorem modeArgument_armed_iff (p : CommandPayload) : modeArgument p = .armed ↔ p.argument = 0 := by
  unfold modeArgument
  split <;> simp_all

theorem mayChangeMode_iff (p : CommandPayload) (s : State) : mayChangeMode (modeArgument p) s = true ↔
    s.zs.st = .running ∧ s.mp.det ≠ .event ∧
      (p.argument = 0 ∨ (s.vtu.driving = false ∧ ∀ e ∈ s.slc.queue, entryClass e ≠ 0)) := by
  have hquiet : tripQuiet s = true ↔ s.vtu.driving = false ∧ ∀ e ∈ s.slc.queue, entryClass e ≠ 0 := by
    rw [tripQuiet, Bool.and_eq_true, Bool.not_eq_true', Bool.not_eq_true', hasClass_eq_false]
  rw [mayChangeMode, Bool.and_eq_true, Bool.and_eq_true, Bool.or_eq_true, beq_iff_eq, bne_iff_ne, beq_iff_eq, hquiet,
    modeArgument_armed_iff, and_assoc]

theorem takeHealth_listen (h : s.hm.mode = .listen) : takeHealth s = s.setHm { s.hm with healthy := false } := by
  have hfit : fit s = false := by simp [fit, h]
  unfold takeHealth
  rw [hfit]
  rfl

end Sys2Proof.Machine

/-! A STATUS that stands in a queue with room stays there through a trip of a zone in RUNNING (R51, R52). -/

namespace Sys2Proof.Machine

variable {s u : State} {x : Nat}

/-- A queue in order that holds a STATUS, and beside it a TRIP, a CLAIM and frames of the class `x` at most. No place of
it overflows while these classes alone are placed. -/
structure StatusStays (x : Nat) (s : State) : Prop where
  order : InOrder s.slc.queue
  status : TxEntry.status ∈ s.slc.queue
  classes : ∀ e ∈ s.slc.queue, entryClass e ∈ [0, 2, 5, x]

namespace StatusStays

theorem of_slc (h : StatusStays x s) (hu : u.slc = s.slc) : StatusStays x u := by
  obtain ⟨order, status, classes⟩ := h
  rw [← hu] at order status classes
  exact ⟨order, status, classes⟩

theorem setsZs (h : StatusStays x s) (z : SeqRecord) : StatusStays x (s.setZs z) := h.of_slc rfl

theorem commands (h : StatusStays x s) (named : List Channel) (cmd : ChanCmd) : StatusStays x (stageCommand named cmd s) :=
  h.of_slc (by rw [stageCommand_eq]; rfl)

/-- A class that the queue may hold and does not leaves room for a frame of it. -/
theorem room {e : TxEntry} (h : StatusStays x s) (he : entryClass e ∈ [0, 2, 5, x])
    (hno : hasClass (entryClass e) s.slc.queue = false) : s.slc.queue.length < 4 := by
  have hnodup : (entryClass e :: s.slc.queue.map entryClass).Nodup := by
    refine List.nodup_cons.mpr ⟨fun hin => ?_, h.order.2.imp Nat.ne_of_lt⟩
    obtain ⟨y, hy, hc⟩ := List.mem_map.mp hin
    exact (hasClass_eq_false _ _).mp hno y hy hc
  have hsub : entryClass e :: s.slc.queue.map entryClass ⊆ [0, 2, 5, x] := by
    refine List.cons_subset.mpr ⟨he, fun c hc => ?_⟩
    obtain ⟨y, hy, rfl⟩ := List.mem_map.mp hc
    exact h.classes y hy
  have hlen := length_le_of_subset hnodup hsub
  rw [List.length_cons, List.length_map] at hlen
  exact hlen

theorem places {e : TxEntry} (h : StatusStays x s) (he : entryClass e ∈ [0, 2, 5, x]) : StatusStays x (place e s) := by
  refine ⟨h.order.place e, ?_, fun y hy => ?_⟩
  · by_cases hc : entryClass e = 5
    · have hes : e = .status := (entryClass_eq_five e).mp hc
      rcases mem_place e h.order with hin | ⟨-, -, heq⟩
      · rw [hes] at hin ⊢
        exact hin
      · rw [heq]
        exact h.status
    · cases hno : hasClass (entryClass e) s.slc.queue with
      | false => exact mem_place_of_mem h.order h.status (Ne.symm hc) (.inr (h.room he hno))
      | true =>
        unfold place
        rw [if_pos hno]
        exact List.mem_map.mpr ⟨.status, h.status, if_neg (Ne.symm hc)⟩
  · rcases of_mem_place h.order hy with rfl | ⟨hin, -⟩
    · exact he
    · exact h.classes y hin

theorem enters (h : StatusStays x s) (q : SeqState) : StatusStays x (enterState q s) := by
  unfold enterState
  split
  · exact h
  · exact places (h.of_slc rfl) (by simp [entryClass])

theorem pauses (h : StatusStays x s) (c : Causes) : StatusStays x (pauseWith c s) :=
  (h.setsZs { s.zs with pause := c }).enters .paused

theorem runsStage (h : StatusStays x s) (r : Nat) : StatusStays x (runStage r s) := by
  have entered := h.enters .restarting
  unfold runStage
  dsimp only
  generalize enterState .restarting s = v at entered ⊢
  exact ((entered.setsZs _).commands _ .run).setsZs _

theorem completesRestart (h : StatusStays x s) : StatusStays x (completeRestart s) := by
  refine (enters (h.of_slc (u := s.setZs { s.zs with
    grade := 0, currentStage := 0, nextRestart := 1, checkedStage := none, waiver := none }) rfl) .running).of_slc ?_
  unfold completeRestart
  rw [rcpClose_eq]
  rfl

theorem beginsClaim (h : StatusStays x s) (r : Nat) : StatusStays x (beginClaim r s) := by
  have weighed : StatusStays x (s.setZs { s.zs with stageWeight := weightOfStage r s }) := h.of_slc rfl
  unfold beginClaim
  dsimp only
  repeat' split
  · exact weighed.runsStage r
  · exact places ((weighed.enters .claiming).of_slc rfl) (by simp [entryClass])
  · exact weighed.runsStage r
  · exact weighed.pauses _

theorem beginsStage (h : StatusStays x s) : StatusStays x (beginStage s) := by
  have left (z : SeqRecord) : StatusStays x (s.setZs z) := h.of_slc rfl
  unfold beginStage
  dsimp only
  repeat' split
  · exact (left _).pauses _
  · exact (left _).pauses _
  · unfold beginPrecheck
    repeat' split
    · exact beginsClaim (left _) _
    · exact beginsClaim ((left _).of_slc rfl) _
    · exact pauses ((left _).of_slc rfl) _
  · exact (left _).completesRestart

theorem leavesPause (h : StatusStays x s) : StatusStays x (leavePause s) := by
  unfold leavePause
  split
  · exact h.beginsStage
  · exact h

theorem recomputesHold (h : StatusStays x s) : StatusStays x (recomputeHold s) := by
  have left (z : SeqRecord) : StatusStays x (s.setZs z) := h.of_slc rfl
  unfold recomputeHold
  repeat' split
  · unfold holdFalls
    dsimp only
    split
    · split
      · exact (left _).enters _
      · exact (left _).beginsStage
    · exact leavesPause ((left _).of_slc rfl)
    all_goals exact left _
  · exact left _
  · exact h

theorem entersWatch (h : StatusStays x s) : StatusStays x (enterWatch s) := (h.enters .watch).recomputesHold

theorem beginsShutdownStage (h : StatusStays x s) (k : Nat) : StatusStays x (beginShutdownStage k s) := by
  unfold beginShutdownStage
  dsimp only
  exact ((h.setsZs _).commands _ .shut).setsZs _

theorem runsShutdown (l : List Nat) (h : StatusStays x s) : StatusStays x (runShutdown l s) := by
  induction l generalizing s with
  | nil => exact h.entersWatch
  | cons k ks ih =>
    have begun := h.beginsShutdownStage k
    have skipped := ih h
    unfold runShutdown
    dsimp only
    generalize beginShutdownStage k s = v at begun ⊢
    have ran := ih (begun.setsZs { v.zs with currentStage := k, stage := none })
    repeat' split
    · exact begun.setsZs _
    · exact ran
    · exact begun
    · exact skipped

theorem shutsDown (h : StatusStays x s) : StatusStays x (shutdownStart s) := by
  have entered := h.enters .shutting
  unfold shutdownStart
  dsimp only
  generalize enterState .shutting s = v at entered ⊢
  exact runsShutdown allStages (entered.setsZs _)

theorem tripsZone (h : StatusStays x s) (hst : s.zs.st = .running) (g : Nat) : StatusStays x (zsTrip g s) := by
  have heffect : tripEffect (tripZone g s) = shutdownStart (tripZone g s) := by
    unfold tripEffect
    rw [show (tripZone g s).zs.st = .running from hst]
  rw [zsTrip_configured (by rw [hst]; decide), heffect]
  exact shutsDown (h.of_slc rfl)

theorem settlesClose (h : StatusStays x s) : StatusStays x (settleClose s) := by
  have taken : StatusStays x (takeWaitingClose s) := h.of_slc (by rw [takeWaitingClose_eq]; rfl)
  unfold settleClose
  split
  · exact taken.recomputesHold
  · exact h

theorem trips (h : StatusStays x s) (hst : s.zs.st = .running) (own origin : Cause) (votes received : Nat) :
    StatusStays x (tripOccasion own origin votes received s) := by
  rcases tripOccasion_cases own origin votes received s with heq | heq | heq <;> rw [heq]
  · exact h
  · exact h.of_slc rfl
  · obtain ⟨first, heq⟩ := tripArmed_eq own origin votes received s
    have placed := places (e := .trip own origin votes (tripGrade received s) s.nodeTime)
      (h.of_slc (u := disarm s) rfl) (by simp [entryClass])
    have sent : StatusStays x (tripSent own origin votes (tripGrade received s) s) := by
      unfold tripSent
      dsimp only
      split
      · exact placed.of_slc rfl
      · exact placed.of_slc rfl
    have hsent : (tripSent own origin votes (tripGrade received s) s).zs.st = .running := by
      rw [tripSent_eq, place_setSlc]
      exact hst
    rw [heq]
    refine settlesClose (inEitherOrder_of first ?_ ?_)
    · refine (sent.tripsZone hsent (tripGrade received s)).of_slc ?_
      rw [rcpTrip_eq]
      rfl
    · refine tripsZone (sent.of_slc ?_) ?_ _
      · rw [rcpTrip_eq]; rfl
      · rw [rcpTrip_eq]; exact hsent

theorem takesVotes (h : StatusStays x s) (hst : s.zs.st = .running) : StatusStays x (voteTest s) := by
  unfold voteTest
  dsimp only
  repeat' split
  · exact trips (s := s.setVtu { s.vtu with votes := (countedSet s).length }) (h.of_slc rfl) hst ..
  · rw [armingEval_eq]
    exact h.of_slc rfl
  · exact h

end StatusStays

/-- A STATUS placed in a queue with at most one frame is there whatever a trip places (R51). -/
theorem statusStays_of_room (h : s.slc.queue.length < 2) : ∃ x, StatusStays x (place .status s) := by
  have base (q : List TxEntry) (hq : s.slc.queue = q) (order : InOrder q) (x : Nat)
      (hx : ∀ e ∈ q, entryClass e ∈ [0, 2, 5, x]) : StatusStays x (place .status s) := by
    rw [← hq] at order hx
    refine ⟨order.place .status, status_mem_of_room (Nat.lt_trans h (by decide)), fun e he => ?_⟩
    rcases of_mem_place order he with rfl | ⟨hin, -⟩
    · simp [entryClass]
    · exact hx e hin
  cases hq : s.slc.queue with
  | nil => exact ⟨0, base [] hq ⟨by decide, .nil⟩ 0 nofun⟩
  | cons e l =>
    cases l with
    | nil =>
      refine ⟨entryClass e, base [e] hq ⟨by simp, by simp⟩ _ fun y hy => ?_⟩
      rw [List.mem_singleton.mp hy]
      simp
    | cons e' l =>
      rw [hq, List.length_cons, List.length_cons] at h
      omega

end Sys2Proof.Machine

/-! Commands from the console set: PERMIT, SHUTDOWN, TEST, MODE, ACK-FAULTS, REPORT, HOLD and RESUME (section 11.2). -/

namespace Sys2Proof.Machine

variable {s u : State} {t : Nat} {i : StationId} {p : CommandPayload}

theorem working_heardFrame (h : RunsAt t s) (hi : i ≠ ownId s) (hc : configured s = true) :
    working (heardFrame t i s) = true := by
  refine (working_iff _).mpr ⟨(heardFrame_phase hi t).trans h.1, ?_⟩
  rw [heardFrame_other hi]
  exact (hear_fields i (frameEnded t s)).2.2.2.1.trans hc

theorem queue_place (e : TxEntry) (h : u.slc.queue = s.slc.queue) : (place e u).slc.queue = (place e s).slc.queue := by
  unfold place
  rw [h]
  repeat' split
  · rfl
  · rfl
  · rfl
  · exact h

/-- Entry into LISTEN mode (R207, R213). -/
theorem changeMode_toListen (s : State) : (changeMode .listen s).hm = { s.hm with mode := .listen, healthy := false } ∧
    (changeMode .listen s).slc.queue = (place .status { s with slc := { s.slc with
      queue := s.slc.queue.filter (fun e => entryClass e != 1 && entryClass e != 3) } }).slc.queue ∧
    changeMode .listen s = { s with slc := (changeMode .listen s).slc, hm := (changeMode .listen s).hm } := by
  have hdrop : dropClass 3 (dropClass 1 s.slc.queue) =
      s.slc.queue.filter (fun e => entryClass e != 1 && entryClass e != 3) := by
    unfold dropClass
    rw [List.filter_filter]
    exact List.filter_congr fun e _ => Bool.and_comm _ _
  have heq : changeMode .listen s = place .status ((removeEntry 3 (removeEntry 1 s)).setHm {
      s.hm with mode := .listen, healthy := false }) := by
    rw [changeMode_listen, setMode, takeHealth_listen rfl]
    rfl
  rw [heq]
  refine ⟨by rw [place_setSlc]; rfl, queue_place .status (by rw [← hdrop]; rfl), ?_⟩
  rw [place_setSlc]
  rfl

/-- Entry into ARMED mode: the would-trip count is zeroed, a STATUS queued and the vote test taken (R207). -/
theorem changeMode_toArmed (s : State) : ∃ v, changeMode .armed s = voteTest v ∧
    v = { s with vtu := { s.vtu with wouldTrip := 0 }, slc := (place .status s).slc, hm := v.hm } ∧
    v.hm.mode = .armed ∧ v.hm.active = s.hm.active ∧ v.hm.sticky = s.hm.sticky := by
  refine ⟨setMode .armed (s.setVtu { s.vtu with wouldTrip := 0 }), rfl, ?_⟩
  obtain ⟨hm, heq, hmode, hactive, hsticky⟩ : ∃ hm, takeHealth ((s.setVtu { s.vtu with wouldTrip := 0 }).setHm {
      s.hm with mode := .armed }) = ((s.setVtu { s.vtu with wouldTrip := 0 }).setHm hm) ∧ hm.mode = .armed ∧
      hm.active = s.hm.active ∧ hm.sticky = s.hm.sticky := by
    unfold takeHealth
    repeat' split
    all_goals exact ⟨_, rfl, rfl, rfl, rfl⟩
  have hset : setMode .armed (s.setVtu { s.vtu with wouldTrip := 0 }) =
      ((s.setVtu { s.vtu with wouldTrip := 0 }).setHm hm).setSlc (place .status s).slc :=
    (congrArg (place .status) heq).trans (place_of_slc .status rfl)
  rw [hset]
  exact ⟨rfl, hmode, hactive, hsticky⟩

theorem voteTest_around (s : State) (h : working s = true) : (voteTest s).mp = s.mp ∧ (voteTest s).pv = s.pv ∧
    (voteTest s).vtu.votes = (countedSet s).length ∧ (voteTest s).hm.mode = s.hm.mode := by
  have votes := voteTest_votes s
  rw [voteTaken, if_pos h] at votes
  obtain ⟨-, hmp, hpv, -, -, -, -, -, hmode⟩ := voteKept_fields votes.kept
  exact ⟨hmp, hpv, votes.votes, hmode⟩

/-- A node in ARMED mode counts no would-trip (R94). -/
theorem voteTest_wouldTrip (hm : s.hm.mode = .armed) : (voteTest s).vtu.wouldTrip = s.vtu.wouldTrip := by
  have trips (own origin : Cause) (n received : Nat) (v : State) (hv : v.hm.mode = .armed) :
      (tripOccasion own origin n received v).vtu.wouldTrip = v.vtu.wouldTrip := by
    unfold tripOccasion
    rw [hv]
    split
    · rw [(tripArmed_taken own origin n received v).vtu]
      rfl
    · rfl
  unfold voteTest
  dsimp only
  repeat' split
  · exact trips _ _ _ _ _ hm
  · rw [armingEval_eq]
    rfl
  · rfl

theorem countedSet_congr (hpv : u.pv = s.pv) (htime : u.nodeTime = s.nodeTime) (hrcp : u.rcp = s.rcp)
    (hactive : u.hm.active = s.hm.active) : countedSet u = countedSet s := by
  refine List.filter_congr fun i _ => ?_
  unfold counted excluded active peer cfg ownId
  rw [hpv, htime, hrcp, hactive]

/-- Settles O52: each command is delivered in the state in which its frame has been heard. -/
theorem commandIsTaken : Obligations.CommandIsTaken := by
  unfold Obligations.CommandIsTaken
  intro t i p s h hl hi hc hset hrange hp h' answered mayTest takesMode mayMode
  have hworks : working h' = true := working_heardFrame h hi hc
  have hconf : configured h' = true := ((working_iff h').mp hworks).2
  have taken (code : Nat) (effect : State → CmdResult × State) :
      commandArrives code (commandInRange p) i p effect (advance t s) = answered code (effect h').1 (effect h').2 := by
    rw [hrange, commandArrives_heard h hl hi hc hp hset]
    rfl
  have takenMode (ha : p.argument ≤ 1) : exec (.mode t i p) s =
      .next (answered 6 (modeEffect (modeArgument p) h').1 (modeEffect (modeArgument p) h').2) := by
    have hform : modeCommandInRange p = true := by
      rw [modeCommandInRange, hrange, decide_eq_true ha]
      rfl
    have hexec : exec (.mode t i p) s = .next (commandArrives 6 (modeCommandInRange p) i p
      (modeEffect (modeArgument p)) (advance t s)) := rfl
    rw [hexec, hform, commandArrives_heard h hl hi hc hp hset]
    rfl
  have hmay : mayChangeMode (modeArgument p) h' = true ↔ mayMode := mayChangeMode_iff p h'
  have htest : canTest h' = true ↔ mayTest := by
    rw [canTest_iff]
    simp only [hconf, and_true]
    exact Iff.rfl
  refine ⟨fun hst => ?_, fun hst => ?_, fun hm ha => ?_, fun hno => ?_, fun ht => ?_, fun ht => ?_, fun ha hm => ?_,
    fun ha hm hsame => ?_, fun hm ha hmode => ?_, fun hm ha hmode => ?_, ?_, ?_⟩
  · have heffect : permitEffect h' = (.done, beginStage h') := if_pos hst
    exact congrArg Host.Outcome.next ((taken 1 permitEffect).trans (by rw [heffect]))
  · have heffect : permitEffect h' = (.ignored, h') := if_neg hst
    exact congrArg Host.Outcome.next ((taken 1 permitEffect).trans (by rw [heffect]))
  · have heffect : shutdownEffect h' = (.done, tripOccasion .console .console 0 0 h') := if_pos ⟨hm, ha⟩
    exact congrArg Host.Outcome.next ((taken 4 shutdownEffect).trans (by rw [heffect]))
  · have heffect : shutdownEffect h' = (.ignored, h') := by
      refine if_neg fun ⟨hm, ha⟩ => ?_
      rcases hno with hno | hno
      · exact absurd (hm.symm.trans hno) (by decide)
      · exact absurd (ha.symm.trans hno) (by decide)
    exact congrArg Host.Outcome.next ((taken 4 shutdownEffect).trans (by rw [heffect]))
  · have heffect : testEffect h' = (.done, startTest h') := if_pos (htest.mpr ht)
    exact congrArg Host.Outcome.next ((taken 5 testEffect).trans (by rw [heffect]; rfl))
  · have heffect : testEffect h' = (.ignored, h') := if_neg fun hcan => ht (htest.mp hcan)
    exact congrArg Host.Outcome.next ((taken 5 testEffect).trans (by rw [heffect]))
  · have heffect : modeEffect (modeArgument p) h' = (.ignored, h') := if_neg fun hcan => hm (hmay.mp hcan)
    rw [takenMode ha, heffect]
  · have hsame' : modeArgument p = h'.hm.mode := by
      cases hmode : h'.hm.mode <;> rw [hmode] at hsame <;> simp [modeArgument, hsame, modeCode]
    have heffect : modeEffect (modeArgument p) h' = (.done, h') := (if_pos (hmay.mpr hm)).trans (by rw [if_pos hsame'])
    rw [takenMode ha, heffect]
  · have harg : modeArgument p = .listen := by rw [modeArgument, ha]; rfl
    have heffect : modeEffect (modeArgument p) h' = (.done, changeMode .listen h') := by
      refine (if_pos (hmay.mpr hm)).trans ?_
      rw [harg, if_neg (by rw [hmode]; decide)]
    obtain ⟨hhm, hqueue, hrest⟩ := changeMode_toListen h'
    refine ⟨_, by rw [takenMode (Nat.le_of_eq ha), heffect], ?_⟩
    generalize changeMode .listen h' = u at hhm hqueue hrest
    refine ⟨congrArg HealthState.mode hhm, congrArg HealthState.healthy hhm, rfl, rfl, hqueue, ?_⟩
    rw [hrest]
    exact ⟨rfl, rfl, rfl, rfl, rfl, rfl, rfl⟩
  · have harg : modeArgument p = .armed := (modeArgument_armed_iff p).mpr ha
    have heffect : modeEffect (modeArgument p) h' = (.done, changeMode .armed h') := by
      refine (if_pos (hmay.mpr hm)).trans ?_
      rw [harg, if_neg (by rw [hmode]; decide)]
    obtain ⟨v, heq, hv, hvmode, hactive, hsticky⟩ := changeMode_toArmed h'
    have hvworks : working v = true := by rw [hv]; exact hworks
    obtain ⟨hmp, hpv, hvotes, humode⟩ := voteTest_around v hvworks
    have hexec : exec (.mode t i p) s = .next (answered 6 .done (voteTest v)) := by
      rw [takenMode (Nat.le_trans (Nat.le_of_eq ha) (Nat.zero_le 1)), heffect, heq]
    refine ⟨_, hexec, humode.trans hvmode, rfl, rfl, ?_, ?_, ?_, ?_,
      fun hroom => ?_, v, rfl, hv, hvmode, hactive, hsticky⟩
    · exact (voteTest_wouldTrip hvmode).trans (by rw [hv])
    · refine hvotes.trans (congrArg List.length ?_)
      exact countedSet_congr (by rw [hv]) (by rw [hv]) (by rw [hv]) hactive
    · exact hmp.trans (by rw [hv])
    · exact hpv.trans (by rw [hv])
    · obtain ⟨x, stays⟩ := statusStays_of_room hroom
      exact ((stays.of_slc (u := v) (by rw [hv])).takesVotes (by rw [hv]; exact hm.1)).status
  · exact congrArg Host.Outcome.next (taken 7 ackFaultsEffect)
  · exact congrArg Host.Outcome.next (taken 8 reportEffect)

/-! ## HOLD and RESUME -/

theorem heardFrame_around (hi : i ≠ ownId s) (t : Nat) : SameAround s (heardFrame t i s) := by
  have kept : arrivalKept (heardFrame t i s) = arrivalKept (setPeer i { peer (hearLine (scoreDown (frameEnded t s))) i with
      presence := .present, lastHeard := (hearLine (scoreDown (frameEnded t s))).slc.tEnd
      silenceDue := some ((hearLine (scoreDown (frameEnded t s))).slc.tEnd + threePs (hearLine (scoreDown (frameEnded t s)))) }
      (hearLine (scoreDown (frameEnded t s)))) := by
    rw [heardFrame_other hi]
    exact arrivalKept_presenceUpdate ..
  have line := arrivalKept_hearLine_scoreDown (frameEnded t s)
  exact ⟨(congrArg (fun x => x.pins) kept).trans (congrArg (fun x => x.pins) line),
    (congrArg (fun x => x.phase) kept).trans (congrArg (fun x => x.phase) line),
    (congrArg (fun x => x.pending) kept).trans (congrArg (fun x => x.pending) line)⟩

/-- PAUSED entered without AFTERSHOCK, where no hold runs (R139). -/
theorem enterPaused_plain {c : Causes} (hst : s.zs.st ≠ .paused) (hc : c.aftershock = false) : enterPaused c s =
    (s.setSlc (place .status s).slc).setZs { s.zs with st := .paused, pause := c } := by
  rw [enterPaused_later (v := s) rfl c hst (fun h => absurd (hc.symm.trans h) (by decide)), hc]
  rfl

/-- HOLD at the ZS, by its state (R148). -/
structure ZoneHeld (s u : State) : Prop where
  cd : u.cd = s.cd
  rcp : u.rcp = s.rcp
  flag : u.zs.consoleHold = true
  claiming : s.zs.st = .claiming → u.zs.st = .paused ∧ u.zs.pause = { noCauses with console := true } ∧
    (s.icu.own ≠ .inForce → u.icu.own = .none)
  inStage : s.zs.st = .restarting → s.zs.restartStage.isSome = true →
    u.zs = { s.zs with consoleHold := true, held := { s.zs.held with console := true } }
  inGap : s.zs.st = .restarting → s.zs.restartStage = none →
    u.zs.st = .paused ∧ u.zs.pause = { noCauses with console := true } ∧ u.zs.restartGap = none
  paused : s.zs.st = .paused → u.zs = { s.zs with consoleHold := true, pause := { s.zs.pause with console := true } }
  elsewhere : s.zs.st ≠ .claiming → s.zs.st ≠ .restarting → s.zs.st ≠ .paused → u.zs = { s.zs with consoleHold := true }
  claim : s.zs.st ≠ .claiming → u.icu = s.icu

theorem zsHold_held (s : State) : ZoneHeld s (zsHold s) := by
  have other (hc : s.zs.st ≠ .claiming) (hr : s.zs.st ≠ .restarting) (hp : s.zs.st ≠ .paused)
      (heq : zsHold s = s.setZs { s.zs with consoleHold := true }) : ZoneHeld s (zsHold s) := by
    rw [heq]
    exact ⟨rfl, rfl, rfl, fun h => absurd h hc, fun h => absurd h hr, fun h => absurd h hr, fun h => absurd h hp,
      fun _ _ _ => rfl, fun _ => rfl⟩
  cases hst : s.zs.st with
  | claiming =>
    obtain ⟨icu, slc, hw, hnone, -⟩ := withdrawClaim_eq (s.setZs { s.zs with consoleHold := true })
    have hne : s.zs.st ≠ .paused := by rw [hst]; decide
    have heq : zsHold s = enterPaused { noCauses with console := true }
        (withdrawClaim (s.setZs { s.zs with consoleHold := true })) := by
      unfold zsHold
      dsimp only [State.setZs_zs]
      rw [hst]
    rw [heq, hw, enterPaused_plain (by exact hne) rfl]
    exact ⟨rfl, rfl, rfl, fun _ => ⟨rfl, rfl, hnone⟩, fun h => by simp [hst] at h, fun h => by simp [hst] at h,
      fun h => absurd h hne, fun h => absurd hst h, fun h => absurd hst h⟩
  | restarting =>
    have hnp : s.zs.st ≠ .paused := by rw [hst]; decide
    have hnc : s.zs.st ≠ .claiming := by rw [hst]; decide
    cases hstage : s.zs.restartStage with
    | some r =>
      have heq : zsHold s = (s.setZs { s.zs with consoleHold := true, held := { s.zs.held with console := true } }) := by
        unfold zsHold
        dsimp only [State.setZs_zs]
        rw [hst, hstage]
        rfl
      rw [heq]
      exact ⟨rfl, rfl, rfl, fun h => absurd h hnc, fun _ _ => rfl, fun _ h => by simp [hstage] at h,
        fun h => absurd h hnp, fun _ h => absurd hst h, fun _ => rfl⟩
    | none =>
      have heq : zsHold s = enterPaused { noCauses with console := true }
          (s.setZs { s.zs with consoleHold := true, restartGap := none }) := by
        unfold zsHold
        dsimp only [State.setZs_zs]
        rw [hst, hstage]
        rfl
      rw [heq, enterPaused_plain (by exact hnp) rfl]
      exact ⟨rfl, rfl, rfl, fun h => absurd h hnc, fun _ h => by simp [hstage] at h, fun _ _ => ⟨rfl, rfl, rfl⟩,
        fun h => absurd h hnp, fun _ h => absurd hst h, fun _ => rfl⟩
  | paused =>
    have heq : zsHold s = s.setZs { s.zs with consoleHold := true, pause := { s.zs.pause with console := true } } := by
      unfold zsHold
      dsimp only [State.setZs_zs]
      rw [hst]
      rfl
    rw [heq]
    exact ⟨rfl, rfl, rfl, fun h => by simp [hst] at h, fun h => by simp [hst] at h, fun h => by simp [hst] at h,
      fun _ => rfl, fun _ _ h => absurd hst h, fun _ => rfl⟩
  | unconfigured | starting | running | shutting | watch | awaitPermit =>
    refine other (by rw [hst]; decide) (by rw [hst]; decide) (by rw [hst]; decide) ?_
    unfold zsHold
    dsimp only [State.setZs_zs]
    rw [hst]

/-- Settles O53. -/
theorem holdAndResume : Obligations.HoldAndResume := by
  unfold Obligations.HoldAndResume
  intro t i p s h hl hi hc hset hrange hp h' left resumed
  have taken (code : Nat) (effect : State → CmdResult × State) :
      commandArrives code (commandInRange p) i p effect (advance t s) =
        recordResult code (effect h').1 (effect h').2 := by
    rw [hrange, commandArrives_heard h hl hi hc hp hset]
  have hhold : exec (.hold t i p) s = .next (recordResult 2 .done (zsHold h')) :=
    congrArg Host.Outcome.next (taken 2 holdEffect)
  have hresume : exec (.resume t i p) s = .next (recordResult 3 .done (leavePause resumed)) :=
    congrArg Host.Outcome.next (taken 3 resumeEffect)
  refine ⟨⟨_, hhold, ?_⟩, fun hstays => ?_, fun hst hleft => ?_⟩
  · obtain ⟨pins, phase, pending⟩ := heardFrame_around hi t
    obtain ⟨htime, hmp, hpv, hvtu, hpins, hphase, hpending⟩ := zoneKept_fields (zoneKept_zsHold h')
    obtain ⟨cd, rcp, flag, claiming, inStage, inGap, paused, elsewhere, claim⟩ := zsHold_held h'
    exact ⟨⟨hpins.trans pins, hphase.trans phase, hpending.trans pending⟩, htime.trans (heardFrame_fields hi t).1, rfl, rfl,
      flag, hmp, hpv, hvtu, cd, rcp, claiming, inStage, inGap, paused, elsewhere, claim⟩
  · rw [hresume, leavePause_stays hstays]
    rfl
  · rw [hresume, leavePause_begins (s := resumed) hst hleft]
    rfl

end Sys2Proof.Machine

/-! A valid frame is heard (sections 2.5 to 2.7): the score falls, the line counts as heard, and a line that becomes usable
is handed to the zone. -/

namespace Sys2Proof.Machine

variable {s u v : State} {t : Nat} {i : StationId} {f : FaultId}

/-! ## The clearing of a line fault, handed to the zone -/

theorem lineUsable_iff (s : State) : lineUsable s = true ↔ active .lineIsolated s = false ∧ active .lineSuppressed s = false := by
  rw [lineUsable, Bool.not_eq_true', Bool.or_eq_false_iff]

/-- The state in which the zone is handed a line that has become usable while PAUSED for it (R143). -/
def lineLeaves (s : State) : State := s.setZs { s.zs with pause := { s.zs.pause with line := false } }

/-- The clearing of a fault makes the line usable while the zone is PAUSED for it (R143). -/
def Frees (f : FaultId) (s : State) : Prop :=
  lineUsable s = false ∧ lineUsable (clearFault f s) = true ∧ s.zs.st = .paused ∧ s.zs.pause.line = true

theorem active_of_clearFault_line {g : FaultId} (h : active g (clearFault f s) = true) : active g s = true := by
  by_cases hfg : f = g
  · rw [hfg, active_clearFault_same] at h
    cases h
  · rwa [active_clearFault_other hfg] at h

theorem lineUsable_clearFault (h : lineUsable s = true) : lineUsable (clearFault f s) = true := by
  obtain ⟨hiso, hsup⟩ := (lineUsable_iff s).mp h
  have stays {g : FaultId} (hg : active g s = false) : active g (clearFault f s) = false :=
    Bool.eq_false_iff.mpr fun hact => absurd (hg.symm.trans (active_of_clearFault_line hact)) Bool.false_ne_true
  exact (lineUsable_iff _).mpr ⟨stays hiso, stays hsup⟩

theorem clearLineFault_stays (h : ¬Frees f s) : clearLineFault f s = clearFault f s := by
  unfold clearLineFault lineChange
  split
  next => rfl
  next hsame =>
    split
    next hbefore => exact absurd (hbefore.trans (lineUsable_clearFault hbefore).symm) hsame
    next hbefore =>
      split
      next hpaused =>
        have hbefore := Bool.eq_false_iff.mpr hbefore
        rw [hbefore] at hsame
        have hzs : (clearFault f s).zs = s.zs := by rw [clearFault_eq]; rfl
        rw [hzs] at hpaused
        exact absurd ⟨hbefore, eq_true_of_ne_false (Ne.symm hsame), hpaused.1, hpaused.2⟩ h
      next => rfl

theorem clearLineFault_frees (h : Frees f s) : clearLineFault f s = leavePause (lineLeaves (clearFault f s)) := by
  obtain ⟨hno, hyes, hst, hline⟩ := h
  have hzs : (clearFault f s).zs = s.zs := by rw [clearFault_eq]; rfl
  unfold clearLineFault lineChange
  rw [hno, hyes, if_neg Bool.false_ne_true, if_neg Bool.false_ne_true, if_pos (by rw [hzs]; exact ⟨hst, hline⟩)]
  rfl

theorem zoneKept_clearFault (f : FaultId) (s : State) :
    zoneKept (clearFault f s) = zoneKept (s.setHm { s.hm with active := putFault f false s.hm.active }) :=
  zoneKept_takeHealth _

theorem zoneKept_clearLineFault (f : FaultId) (s : State) :
    zoneKept (clearLineFault f s) = zoneKept (s.setHm { s.hm with active := putFault f false s.hm.active }) :=
  (zoneKept_lineChange _ _).trans (zoneKept_clearFault f s)

/-- A clearing writes the active set and the health output alone (R210, R213). -/
theorem clearFault_setHm (f : FaultId) (s : State) : ∃ b n, clearFault f s =
    s.setHm { s.hm with active := putFault f false s.hm.active, healthy := b, healthSince := n } := by
  unfold clearFault takeHealth
  repeat' split
  all_goals exact ⟨_, _, rfl⟩

theorem putFault_false_of_not {a : FaultSet} (h : hasFault f a = false) : putFault f false a = a := by
  cases f <;> cases a <;> simp_all [putFault, hasFault]

/-! ## The state in which a frame has been heard, but for the hand-off -/

/-- The active set once a frame has been heard: suppression ends at a score of 64 or below, and isolation in any case
(R40, R45). -/
def faultsHeard (s : State) : FaultSet :=
  putFault .lineIsolated false
    (if s.slc.score - 1 ≤ 64 then putFault .lineSuppressed false s.hm.active else s.hm.active)

/-- `s` once a valid frame has been heard on the line, as nothing hands it to the zone (R39, R45). -/
def lineHeard (s : State) : State :=
  (s.setSlc { s.slc with score := s.slc.score - 1, lastHeard := s.nodeTime, heardDue := some (s.nodeTime + threePs s) }).setHm
    { s.hm with active := faultsHeard s }

/-- A line that a valid frame makes usable again while the zone is PAUSED for it (R143). -/
def Joins (s : State) : Prop :=
  lineUsable s = false ∧ (active .lineSuppressed s = false ∨ s.slc.score - 1 ≤ 64) ∧
    s.zs.st = .paused ∧ s.zs.pause.line = true

/-- The line's side of a valid frame, by whether the zone is handed a usable line. -/
structure LineTakes (s u : State) : Prop where
  kept : zoneKept u = zoneKept (lineHeard s)
  stays : ¬Joins s → ∃ hm, u = (lineHeard s).setHm hm
  returns : Joins s → ∃ v, lineUsable v = true ∧ v.nodeTime = s.nodeTime ∧
    v.zs = { s.zs with pause := { s.zs.pause with line := false } } ∧ v.cd = s.cd ∧ v.icu = s.icu ∧ v.rcp = s.rcp ∧
    v.draws = s.draws ∧ u.zs = (leavePause v).zs ∧ u.cd = (leavePause v).cd ∧ u.icu = (leavePause v).icu ∧
    u.rcp = (leavePause v).rcp

/-- `s` with the line marked as heard now (R45). -/
def lineMarked (s : State) : State :=
  s.setSlc { s.slc with lastHeard := s.nodeTime, heardDue := some (s.nodeTime + threePs s) }

/-- `s` with the line error score lowered (R39). -/
def scoreLowered (s : State) : State := s.setSlc { s.slc with score := s.slc.score - 1 }

theorem hearLine_isolated (h : active .lineIsolated s = true) : hearLine s = clearLineFault .lineIsolated (lineMarked s) :=
  if_pos h

theorem hearLine_free (h : active .lineIsolated s = false) : hearLine s = lineMarked s :=
  if_neg fun hact => absurd (h.symm.trans hact) Bool.false_ne_true

theorem scoreDown_ends (h : active .lineSuppressed s = true) (hlow : s.slc.score - 1 ≤ 64) :
    scoreDown s = clearLineFault .lineSuppressed (scoreLowered s) := if_pos ⟨h, hlow⟩

theorem scoreDown_stays (h : active .lineSuppressed s = false ∨ 64 < s.slc.score - 1) : scoreDown s = scoreLowered s := by
  refine if_neg fun ⟨hsup, hlow⟩ => ?_
  rcases h with h | h
  · exact absurd (h.symm.trans hsup) Bool.false_ne_true
  · exact absurd hlow (Nat.not_le.mpr h)

/-- A hand-off to the zone behind which nothing but the line's marks changes. -/
theorem lineTakes_of_frees {w : State} (hkept : zoneKept w = zoneKept (lineHeard s)) (hjoins : Joins s) {v : State}
    (husable : lineUsable v = true) (hv : ∃ slc hm, v = ((lineLeaves s).setSlc slc).setHm hm)
    (hu : w.zs = (leavePause v).zs ∧ w.cd = (leavePause v).cd ∧ w.icu = (leavePause v).icu ∧ w.rcp = (leavePause v).rcp) :
    LineTakes s w := by
  obtain ⟨zs, cd, icu, rcp⟩ := hu
  refine ⟨hkept, fun hno => absurd hjoins hno, fun _ => ⟨v, husable, ?_⟩⟩
  obtain ⟨slc, hm, rfl⟩ := hv
  exact ⟨rfl, rfl, rfl, rfl, rfl, rfl, zs, cd, icu, rcp⟩

theorem lineTakes_of_stays {w : State} (hjoins : ¬Joins s) (hkept : zoneKept w = zoneKept (lineHeard s))
    (hw : ∃ hm, w = (lineHeard s).setHm hm) : LineTakes s w :=
  ⟨hkept, fun _ => hw, fun h => absurd h hjoins⟩

theorem faultsHeard_of_stays (h : active .lineSuppressed s = false ∨ 64 < s.slc.score - 1) :
    faultsHeard s = putFault .lineIsolated false s.hm.active := by
  unfold faultsHeard
  split
  next hlow => rw [putFault_false_of_not (h.resolve_right (Nat.not_lt.mpr hlow))]
  next => rfl

/-- A valid frame whose score leaves suppression as it is (R39, R45). -/
theorem hearLine_scoreLowered_takes (h : active .lineSuppressed s = false ∨ 64 < s.slc.score - 1) :
    LineTakes s (hearLine (scoreLowered s)) := by
  have hfaults := faultsHeard_of_stays h
  cases hiso : active .lineIsolated s with
  | false =>
    have hsame : faultsHeard s = s.hm.active := hfaults.trans (putFault_false_of_not hiso)
    have heq : hearLine (scoreLowered s) = (lineHeard s).setHm s.hm := hearLine_free (by exact hiso)
    refine lineTakes_of_stays (fun ⟨hno, hsup, _⟩ => ?_) ?_ ⟨_, heq⟩
    · have hs : active .lineSuppressed s = false := hsup.elim id fun hlow => h.resolve_right (Nat.not_lt.mpr hlow)
      exact absurd (hno.symm.trans ((lineUsable_iff s).mpr ⟨hiso, hs⟩)) Bool.false_ne_true
    · rw [heq, lineHeard, hsame]
      rfl
  | true =>
    have hkept : zoneKept (hearLine (scoreLowered s)) = zoneKept (lineHeard s) := by
      rw [hearLine_isolated (by exact hiso), zoneKept_clearLineFault, lineHeard, hfaults]
      rfl
    have hno : lineUsable s = false := Bool.eq_false_iff.mpr fun hu =>
      absurd (((lineUsable_iff s).mp hu).1.symm.trans hiso) Bool.false_ne_true
    have hafter (hsup : active .lineSuppressed s = false) :
        lineUsable (clearFault .lineIsolated (lineMarked (scoreLowered s))) = true :=
      (lineUsable_iff _).mpr ⟨active_clearFault_same _ _, (active_clearFault_other (by decide) _).trans hsup⟩
    by_cases hjoins : Joins s
    · have hsup : active .lineSuppressed s = false :=
        hjoins.2.1.elim id fun hlow => h.resolve_right (Nat.not_lt.mpr hlow)
      have frees : Frees .lineIsolated (lineMarked (scoreLowered s)) := ⟨hno, hafter hsup, hjoins.2.2⟩
      have heq := (hearLine_isolated (s := scoreLowered s) hiso).trans (clearLineFault_frees frees)
      refine lineTakes_of_frees hkept hjoins (v := lineLeaves (clearFault .lineIsolated (lineMarked (scoreLowered s))))
        (hafter hsup) ?_ (by rw [heq]; exact ⟨rfl, rfl, rfl, rfl⟩)
      rw [clearFault_eq]
      exact ⟨_, _, rfl⟩
    · have hstays : ¬Frees .lineIsolated (lineMarked (scoreLowered s)) := fun ⟨_, hyes, hpaused⟩ => by
        have hsup := ((lineUsable_iff _).mp hyes).2
        rw [active_clearFault_other (by decide)] at hsup
        exact hjoins ⟨hno, .inl hsup, hpaused⟩
      have heq := (hearLine_isolated (s := scoreLowered s) hiso).trans (clearLineFault_stays hstays)
      rw [clearFault_eq] at heq
      exact lineTakes_of_stays hjoins hkept ⟨_, heq⟩

/-- A valid frame whose score ends suppression (R40, R45). -/
theorem hearLine_ends_takes (hsup : active .lineSuppressed s = true) (hlow : s.slc.score - 1 ≤ 64) :
    LineTakes s (hearLine (clearLineFault .lineSuppressed (scoreLowered s))) := by
  have hfaults : faultsHeard s = putFault .lineIsolated false (putFault .lineSuppressed false s.hm.active) := by
    rw [faultsHeard, if_pos hlow]
  have hno : lineUsable s = false := Bool.eq_false_iff.mpr fun hu =>
    absurd (((lineUsable_iff s).mp hu).2.symm.trans hsup) Bool.false_ne_true
  have hcleared : active .lineSuppressed (clearFault .lineSuppressed (scoreLowered s)) = false := active_clearFault_same _ _
  have hother : active .lineIsolated (clearFault .lineSuppressed (scoreLowered s)) = active .lineIsolated s :=
    active_clearFault_other (by decide) _
  have kept := zoneKept_clearLineFault .lineSuppressed (scoreLowered s)
  have hsame : active .lineIsolated (clearLineFault .lineSuppressed (scoreLowered s)) = active .lineIsolated s :=
    (zoneKept_active kept .lineIsolated (by decide)).trans
      (hasFault_putFault_other (f := .lineSuppressed) (g := .lineIsolated) (by decide) false s.hm.active :)
  have marked : zoneKept (lineMarked (clearLineFault .lineSuppressed (scoreLowered s))) =
      zoneKept (lineMarked ((scoreLowered s).setHm { s.hm with active := putFault .lineSuppressed false s.hm.active })) :=
    congrArg lineMarked kept
  cases hiso : active .lineIsolated s with
  | false =>
    rw [hearLine_free (hsame.trans hiso)]
    have hkept : zoneKept (lineMarked (clearLineFault .lineSuppressed (scoreLowered s))) = zoneKept (lineHeard s) := by
      have hiso' : hasFault .lineIsolated (putFault .lineSuppressed false s.hm.active) = false :=
        (hasFault_putFault_other (by decide) _ _).trans hiso
      rw [marked, lineHeard, hfaults, putFault_false_of_not hiso']
      rfl
    have hafter : lineUsable (clearFault .lineSuppressed (scoreLowered s)) = true :=
      (lineUsable_iff _).mpr ⟨hother.trans hiso, hcleared⟩
    by_cases hjoins : Joins s
    · have frees : Frees .lineSuppressed (scoreLowered s) := ⟨hno, hafter, hjoins.2.2⟩
      refine lineTakes_of_frees hkept hjoins (v := lineLeaves (clearFault .lineSuppressed (scoreLowered s))) hafter ?_
        (by rw [clearLineFault_frees frees]; exact ⟨rfl, rfl, rfl, rfl⟩)
      rw [clearFault_eq]
      exact ⟨_, _, rfl⟩
    · have hstays : ¬Frees .lineSuppressed (scoreLowered s) := fun h => hjoins ⟨hno, .inr hlow, h.2.2⟩
      have heq := congrArg lineMarked (clearLineFault_stays hstays)
      rw [clearFault_eq] at heq
      exact lineTakes_of_stays hjoins hkept ⟨_, heq⟩
  | true =>
    have hstays : ¬Frees .lineSuppressed (scoreLowered s) := fun ⟨_, hyes, _⟩ =>
      absurd ((((lineUsable_iff _).mp hyes).1.symm.trans hother).trans hiso) Bool.false_ne_true
    have heq := hearLine_isolated (hsame.trans hiso)
    rw [clearLineFault_stays hstays] at heq ⊢
    obtain ⟨b, n, hy⟩ := clearFault_setHm .lineSuppressed (scoreLowered s)
    rw [hy] at heq hcleared hother ⊢
    have hkept : zoneKept (hearLine ((scoreLowered s).setHm { (scoreLowered s).hm with
        active := putFault .lineSuppressed false (scoreLowered s).hm.active, healthy := b, healthSince := n })) =
          zoneKept (lineHeard s) := by
      rw [heq, zoneKept_clearLineFault, lineHeard, hfaults]
      rfl
    generalize ({ (scoreLowered s).hm with
      active := putFault .lineSuppressed false (scoreLowered s).hm.active, healthy := b, healthSince := n } :
        HealthState) = hm at *
    have hafter : lineUsable (clearFault .lineIsolated (lineMarked ((scoreLowered s).setHm hm))) = true :=
      (lineUsable_iff _).mpr ⟨active_clearFault_same _ _, (active_clearFault_other (by decide) _).trans hcleared⟩
    have hbefore : lineUsable (lineMarked ((scoreLowered s).setHm hm)) = false := Bool.eq_false_iff.mpr fun hu =>
      absurd ((((lineUsable_iff _).mp hu).1.symm.trans hother).trans hiso) Bool.false_ne_true
    by_cases hjoins : Joins s
    · have frees : Frees .lineIsolated (lineMarked ((scoreLowered s).setHm hm)) := ⟨hbefore, hafter, hjoins.2.2⟩
      refine lineTakes_of_frees hkept hjoins
        (v := lineLeaves (clearFault .lineIsolated (lineMarked ((scoreLowered s).setHm hm)))) hafter ?_
        (by rw [heq, clearLineFault_frees frees]; exact ⟨rfl, rfl, rfl, rfl⟩)
      rw [clearFault_eq]
      exact ⟨_, _, rfl⟩
    · have hstays' : ¬Frees .lineIsolated (lineMarked ((scoreLowered s).setHm hm)) := fun h => hjoins ⟨hno, .inr hlow, h.2.2⟩
      rw [clearLineFault_stays hstays', clearFault_eq] at heq
      exact lineTakes_of_stays hjoins hkept ⟨_, heq⟩

theorem hearLine_scoreDown_takes (s : State) : LineTakes s (hearLine (scoreDown s)) := by
  by_cases h : active .lineSuppressed s = true ∧ s.slc.score - 1 ≤ 64
  · rw [scoreDown_ends h.1 h.2]
    exact hearLine_ends_takes h.1 h.2
  · have h' : active .lineSuppressed s = false ∨ 64 < s.slc.score - 1 := by
      rcases Decidable.not_and_iff_or_not.mp h with h | h
      · exact .inl (Bool.eq_false_iff.mpr h)
      · exact .inr (Nat.not_le.mp h)
    rw [scoreDown_stays h']
    exact hearLine_scoreLowered_takes h'

end Sys2Proof.Machine

/-! The state in which a frame of another station has been heard (sections 2.5 to 2.7 and 3.2). -/

namespace Sys2Proof.Machine

variable {s u v : State} {t : Nat} {i : StationId} {f : FaultId}

/-- What a fault that follows a condition leaves of the HM (R210). -/
structure FollowsIn (f : FaultId) (s : State) (hm : HealthState) : Prop where
  mode : hm.mode = s.hm.mode
  lastCode : hm.lastCode = s.hm.lastCode
  lastResult : hm.lastResult = s.hm.lastResult
  others : ∀ g, f ≠ g → hasFault g hm.active = active g s

theorem followFault_setHm (f : FaultId) (b : Bool) (s : State) :
    ∃ hm, followFault f b s = s.setHm hm ∧ FollowsIn f s hm ∧ hasFault f hm.active = b := by
  have cleared : ∃ hm, clearFault f s = s.setHm hm ∧ FollowsIn f s hm ∧ hasFault f hm.active = false := by
    obtain ⟨b, n, h⟩ := clearFault_setHm f s
    exact ⟨_, h, ⟨rfl, rfl, rfl, fun g hg => hasFault_putFault_other hg _ _⟩, hasFault_putFault_same f _ _⟩
  have raised : ∃ hm, raiseFault f s = s.setHm hm ∧ FollowsIn f s hm ∧ hasFault f hm.active = true := by
    obtain ⟨b, n, h⟩ : ∃ b n, raiseFault f s = s.setHm { s.hm with
        active := putFault f true s.hm.active, sticky := putFault f true s.hm.sticky, healthy := b, healthSince := n } := by
      unfold raiseFault takeHealth
      repeat' split
      all_goals exact ⟨_, _, rfl⟩
    exact ⟨_, h, ⟨rfl, rfl, rfl, fun g hg => hasFault_putFault_other hg _ _⟩, hasFault_putFault_same f _ _⟩
  have stands (h : active f s = b) : ∃ hm, s = s.setHm hm ∧ FollowsIn f s hm ∧ hasFault f hm.active = b :=
    ⟨s.hm, rfl, ⟨rfl, rfl, rfl, fun _ _ => rfl⟩, h⟩
  unfold followFault
  cases b with
  | true =>
    rw [if_pos rfl]
    split
    next h => exact stands h
    next => exact raised
  | false =>
    rw [if_neg Bool.false_ne_true]
    split
    next => exact cleared
    next h => exact stands (Bool.eq_false_iff.mpr h)

/-- The sender's entry at a valid frame that ended at `t` (R58). -/
def presentEntry (i : StationId) (t : Nat) (s : State) : PeerEntry :=
  { peer s i with presence := .present, lastHeard := t, silenceDue := some (t + threePs s) }

theorem presenceUpdate_setHm (i : StationId) (t : Nat) (s : State) : ∃ hm,
    presenceUpdate i t s = (setPeer i (presentEntry i t s) s).setHm hm ∧ FollowsIn .configMismatch s hm := by
  unfold presenceUpdate digestCompare
  dsimp only
  split
  · obtain ⟨hm, heq, ⟨mode, code, result, others⟩, -⟩ :=
      followFault_setHm .configMismatch _ (setPeer i (presentEntry i t s) s)
    exact ⟨hm, heq, mode, code, result, others⟩
  · exact ⟨s.hm, rfl, rfl, rfl, rfl, fun _ _ => rfl⟩

/-! ## The frame heard -/

/-- `h` is `s` once a valid frame of station `i` has been heard at `t`, before it is delivered (R39, R41, R45, R58). -/
structure FrameHeard (t : Nat) (i : StationId) (s h : State) : Prop where
  around : SameAround s h
  time : h.nodeTime = t
  line : h.slc = { s.slc with
    line := .counting, tEnd := t, score := s.slc.score - 1, lastHeard := t, heardDue := some (t + threePs s)
    queue := h.slc.queue, inFlight := h.slc.inFlight }
  mp : h.mp = s.mp
  vtu : h.vtu = s.vtu
  sender : peer h i = presentEntry i t s
  others : ∀ j, j ≠ i → peer h j = peer s j
  config : h.rcp.config = s.rcp.config
  digest : h.rcp.digest = s.rcp.digest
  station : h.rcp.stationId = s.rcp.stationId
  mode : h.hm.mode = s.hm.mode
  lastCode : h.hm.lastCode = s.hm.lastCode
  lastResult : h.hm.lastResult = s.hm.lastResult
  isolated : active .lineIsolated h = false
  suppressed : active .lineSuppressed h = (active .lineSuppressed s && decide (64 < s.slc.score - 1))
  excluded : Machine.excluded h = Machine.excluded s
  returns : LineReturns t s h
  queue : ¬Joins s → h.slc.queue = s.slc.queue ∧ h.slc.inFlight = s.slc.inFlight

theorem LineTakes.returned (h : LineTakes s u) : LineReturns s.nodeTime s u := by
  obtain ⟨-, stays, returns⟩ := h
  refine ⟨fun hno => ?_, fun hjoins hleft => ?_, fun hjoins hleft => ?_⟩
  · obtain ⟨hm, rfl⟩ := stays hno
    exact ⟨rfl, rfl, rfl, rfl⟩
  · obtain ⟨v, -, -, vzs, vcd, vicu, vrcp, -, hzs, hcd, hicu, hrcp⟩ := returns hjoins
    have hstay : leavePause v = v := leavePause_stays (.inr (by rw [vzs]; exact hleft))
    rw [hstay] at hzs hcd hicu hrcp
    exact ⟨hzs.trans vzs, hcd.trans vcd, hicu.trans vicu, hrcp.trans vrcp⟩
  · obtain ⟨v, usable, time, vzs, vcd, vicu, vrcp, vdraws, hzs, hcd, hicu, hrcp⟩ := returns hjoins
    have hbegin : leavePause v = beginStage v :=
      leavePause_begins (by rw [vzs]; exact hjoins.2.2.1) (by rw [vzs]; exact hleft)
    rw [hbegin] at hzs hcd hicu hrcp
    exact ⟨v, usable, time, vzs, vcd, vicu, vrcp, vdraws, hzs, hcd, hicu, hrcp⟩

theorem active_lineHeard (s : State) : active .lineIsolated (lineHeard s) = false ∧
    active .lineSuppressed (lineHeard s) = (active .lineSuppressed s && decide (64 < s.slc.score - 1)) := by
  refine ⟨hasFault_putFault_same _ _ _, ?_⟩
  refine (hasFault_putFault_other (f := .lineIsolated) (g := .lineSuppressed) (by decide) _ _).trans ?_
  split
  next hlow =>
    rw [hasFault_putFault_same, decide_eq_false (Nat.not_lt.mpr hlow), Bool.and_false]
  next hhigh =>
    rw [decide_eq_true (Nat.not_le.mp hhigh), Bool.and_true]
    rfl

theorem excluded_lineHeard (s : State) : excluded (lineHeard s) = excluded s := by
  have other (g : FaultId) (hiso : .lineIsolated ≠ g) (hsup : .lineSuppressed ≠ g) : active g (lineHeard s) = active g s := by
    refine (hasFault_putFault_other hiso _ _).trans ?_
    split
    · exact hasFault_putFault_other hsup _ _
    · rfl
  unfold excluded
  rw [other .sensorLost (by decide) (by decide), other .selftestFail (by decide) (by decide)]

theorem heardFrame_heard (hi : i ≠ ownId s) (t : Nat) : FrameHeard t i s (heardFrame t i s) := by
  have takes := hearLine_scoreDown_takes (frameEnded t s)
  have returned := takes.returned
  rw [heardFrame_other hi, hear]
  generalize hearLine (scoreDown (frameEnded t s)) = x at takes returned
  obtain ⟨kept, stays, -⟩ := takes
  obtain ⟨htime, hmp, hpv, hvtu, hpins, hphase, hpending⟩ := zoneKept_fields kept
  obtain ⟨hconfig, hdigest, hstation, -⟩ := zoneKept_rcp kept
  obtain ⟨hmode, hcode, hresult⟩ := zoneKept_hm kept
  have hslc := zoneKept_slc kept
  obtain ⟨hiso, hsup⟩ := active_lineHeard (frameEnded t s)
  have hiso := (zoneKept_active kept .lineIsolated (by decide)).trans hiso
  have hsup := (zoneKept_active kept .lineSuppressed (by decide)).trans hsup
  have hend : x.slc.tEnd = t := by rw [hslc]; rfl
  have hpeer (j : StationId) : peer x j = peer s j := by unfold peer; rw [hpv]; rfl
  have hthree : threePs x = threePs s := by unfold threePs cfg; rw [hconfig]; rfl
  obtain ⟨hm, heq, follows⟩ := presenceUpdate_setHm i x.slc.tEnd x
  rw [heq, hend]
  exact {
    around := ⟨hpins, hphase, hpending⟩
    time := htime
    line := hslc
    mp := hmp
    vtu := hvtu
    sender := (peer_setPeer_same i _ x).trans (by rw [presentEntry, presentEntry, hpeer, hthree])
    others := fun j hj => (peer_setPeer_other hj.symm _ x).trans (hpeer j)
    config := hconfig
    digest := hdigest
    station := hstation
    mode := follows.mode.trans hmode
    lastCode := follows.lastCode.trans hcode
    lastResult := follows.lastResult.trans hresult
    isolated := (follows.others .lineIsolated (by decide)).trans hiso
    suppressed := (follows.others .lineSuppressed (by decide)).trans hsup
    excluded := (congr (congrArg or (follows.others .sensorLost (by decide))) (follows.others .selftestFail (by decide))).trans
      ((zoneKept_line kept).1.trans (excluded_lineHeard _))
    returns := returned
    queue := fun hno => by
      obtain ⟨hm', heq'⟩ := stays hno
      rw [heq']
      exact ⟨rfl, rfl⟩ }

end Sys2Proof.Machine

/-! The line's deadlines, a conflicting frame, and a line that becomes unusable (sections 2.5 to 2.9, 7.5 and 8.3). -/

namespace Sys2Proof.Machine

variable {s u v : State} {t d : Nat} {i : StationId} {f : FaultId}

/-! ## A conflicting frame -/

/-- A valid frame with the own station id (R44). -/
theorem arrive_conflict (h : RunsAt t s) (hl : s.slc.line = .receiving) (deliver : State → State) :
    arrive true (ownId s) deliver (advance t s) = takeConflict (hearLine (scoreDown (frameEnded t s))) := by
  obtain ⟨-, -, -, -, hown, -⟩ := arrivalKept_fields (arrivalKept_hearLine_scoreDown (frameEnded t s))
  rw [arrive_running h hl, takeFrame]
  exact if_pos hown.symm

theorem exec_conflict {c : Instr} (hc : frameArrival c = some (t, ownId s)) (hform : c.wellFormed = true) (h : RunsAt t s)
    (hl : s.slc.line = .receiving) : exec c s = .next (takeConflict (hearLine (scoreDown (frameEnded t s)))) := by
  obtain ⟨deliver, -, hexec⟩ := exec_frame hc h.2.2.1 s
  rw [hexec, hform, arrive_conflict h hl]

theorem raiseFault_setHm (f : FaultId) (s : State) : ∃ b n, raiseFault f s = s.setHm { s.hm with
    active := putFault f true s.hm.active, sticky := putFault f true s.hm.sticky, healthy := b, healthSince := n } := by
  unfold raiseFault takeHealth
  repeat' split
  all_goals exact ⟨_, _, rfl⟩

/-! ## The line lost while CLAIMING -/

/-- A stage that is decided again when the line is lost (R170). -/
structure Redecided (s u : State) : Prop where
  rcp : u.rcp = s.rcp
  claim : s.icu.own ≠ .inForce → u.icu.own = .none
  pauses : (cfg s).a < s.zs.stageWeight → u.zs.st = .paused ∧ u.zs.pause = { noCauses with line := true } ∧ u.cd = s.cd
  runs : s.zs.stageWeight ≤ (cfg s).a → u.zs.st = .restarting ∧ u.zs.restartStage = some s.zs.nextRestart

theorem redecideStage_redecided (s : State) : Redecided s (redecideStage s) := by
  obtain ⟨icu, slc, hw, hnone, -⟩ := withdrawClaim_eq s
  have hzs : (withdrawClaim s).zs = s.zs := by rw [hw]; rfl
  have hcd : (withdrawClaim s).cd = s.cd := by rw [hw]; rfl
  have hrcp : (withdrawClaim s).rcp = s.rcp := by rw [hw]; rfl
  have hown (hno : s.icu.own ≠ .inForce) : (withdrawClaim s).icu.own = .none := by rw [hw]; exact hnone hno
  unfold redecideStage
  dsimp only
  generalize withdrawClaim s = w at hzs hcd hrcp hown
  have hcfg : cfg w = cfg s := by unfold cfg; rw [hrcp]
  rw [hzs, hcfg]
  split
  next hle =>
    obtain ⟨⟨waiver, uzs⟩, uicu, urcp, -⟩ := runStage_runs s.zs.nextRestart w
    generalize runStage s.zs.nextRestart w = u at uzs uicu urcp
    refine ⟨urcp.trans hrcp, fun hno => by rw [uicu]; exact hown hno, fun hlt => absurd hle (Nat.not_le.mpr hlt), fun _ => ?_⟩
    rw [uzs]
    exact ⟨rfl, rfl⟩
  next hgt =>
    rw [pauseWith, enterState_eq]
    exact ⟨hrcp, hown, fun _ => ⟨rfl, rfl, hcd⟩, fun hle => absurd hle hgt⟩

theorem lineUsable_isolated (s : State) : lineUsable (raiseFault .lineIsolated s) = false :=
  Bool.eq_false_iff.mpr fun hu => absurd (((lineUsable_iff _).mp hu).1.symm.trans (active_raiseFault_same _ _)) (by decide)

theorem raiseLineFault_stays (h : ¬(lineUsable s = true ∧ s.zs.st = .claiming)) :
    raiseLineFault .lineIsolated s = raiseFault .lineIsolated s := by
  have hzs : (raiseFault .lineIsolated s).zs = s.zs := by rw [raiseFault_eq]; rfl
  unfold raiseLineFault lineChange
  rw [lineUsable_isolated, hzs]
  split
  next => rfl
  next hsame =>
    split
    next hbefore => exact if_neg fun hst => h ⟨hbefore, hst⟩
    next hbefore => exact absurd (Bool.eq_false_iff.mpr hbefore) hsame

theorem raiseLineFault_redecides (h : lineUsable s = true ∧ s.zs.st = .claiming) :
    Redecided (raiseFault .lineIsolated s) (raiseLineFault .lineIsolated s) := by
  have hzs : (raiseFault .lineIsolated s).zs = s.zs := by rw [raiseFault_eq]; rfl
  have heq : raiseLineFault .lineIsolated s = redecideStage (raiseFault .lineIsolated s) := by
    unfold raiseLineFault lineChange
    rw [lineUsable_isolated, h.1, if_neg (by decide), if_pos rfl, hzs, if_pos h.2]
  rw [heq]
  exact redecideStage_redecided _

/-- LINE-ISOLATED is raised and handed to the zone (R45, R143, R170). -/
theorem lineLost (hu : u = raiseLineFault .lineIsolated s) :
    SameAround s u ∧ u.nodeTime = s.nodeTime ∧ active .lineIsolated u = true ∧ hasFault .lineIsolated u.hm.sticky = true ∧
      lineUsable u = false ∧ u.slc = { s.slc with queue := u.slc.queue, inFlight := u.slc.inFlight } ∧ u.mp = s.mp ∧
      u.pv = s.pv ∧ u.vtu = s.vtu ∧ u.rcp = s.rcp ∧
      (s.zs.st ≠ .claiming ∨ lineUsable s = false → u.zs = s.zs ∧ u.cd = s.cd ∧ u.icu = s.icu) ∧
      (s.zs.st = .claiming → lineUsable s = true → (cfg s).a < s.zs.stageWeight →
        u.zs.st = .paused ∧ u.zs.pause = { noCauses with line := true } ∧ u.cd = s.cd ∧
        (s.icu.own ≠ .inForce → u.icu.own = .none)) ∧
      (s.zs.st = .claiming → lineUsable s = true → s.zs.stageWeight ≤ (cfg s).a →
        u.zs.st = .restarting ∧ u.zs.restartStage = some s.zs.nextRestart ∧
        (s.icu.own ≠ .inForce → u.icu.own = .none)) := by
  obtain ⟨b, n, hraise⟩ := raiseFault_setHm .lineIsolated s
  have kept : zoneKept (raiseLineFault .lineIsolated s) = zoneKept (raiseFault .lineIsolated s) := zoneKept_lineChange _ _
  have hactive := active_raiseFault_same .lineIsolated s
  have hsticky := sticky_raiseFault_same .lineIsolated s
  have husable := lineUsable_isolated s
  have stays := raiseLineFault_stays (s := s)
  have redecides := raiseLineFault_redecides (s := s)
  rw [← hu] at kept stays redecides
  rw [← zoneKept_active kept .lineIsolated (by decide)] at hactive
  rw [← viewKept_sticky (viewKept_of_voteKept (voteKept_of_zoneKept kept)) .lineIsolated (by decide) (by decide)] at hsticky
  rw [← (zoneKept_line kept).2.2] at husable
  rw [hraise] at kept stays redecides
  obtain ⟨htime, hmp, hpv, hvtu, hpins, hphase, hpending⟩ := zoneKept_fields kept
  have hslc := zoneKept_slc kept
  refine ⟨⟨hpins, hphase, hpending⟩, htime, hactive, hsticky, husable, hslc, hmp, hpv, hvtu, ?_, fun hno => ?_,
    fun hst hu hlt => ?_, fun hst hu hle => ?_⟩
  · by_cases hyes : lineUsable s = true ∧ s.zs.st = .claiming
    · exact (redecides hyes).rcp
    · rw [stays hyes]; rfl
  · have hnot : ¬(lineUsable s = true ∧ s.zs.st = .claiming) := fun ⟨hu, hst⟩ =>
      hno.elim (fun h => h hst) fun h => absurd (h.symm.trans hu) Bool.false_ne_true
    rw [stays hnot]
    exact ⟨rfl, rfl, rfl⟩
  · obtain ⟨-, claim, pauses, -⟩ := redecides ⟨hu, hst⟩
    obtain ⟨st, pause, cd⟩ := pauses hlt
    exact ⟨st, pause, cd, claim⟩
  · obtain ⟨-, claim, -, runs⟩ := redecides ⟨hu, hst⟩
    obtain ⟨st, stage⟩ := runs hle
    exact ⟨st, stage, claim⟩

/-- Settles O18. -/
theorem lineDeadlinesAndConflict : Obligations.LineDeadlinesAndConflict := by
  unfold Obligations.LineDeadlinesAndConflict
  refine ⟨?clears, ?period, ?plain, ?conflict, fun t i s _ hi => (heardFrame_heard hi t).returns, ?heard⟩
  case clears =>
    intro t d s h hdue hd
    have hexec : exec (.idConflictDeadline t) s = .next (idConflictDeadline (advance t s)) := rfl
    rw [hexec, h.taken, idConflictDeadline, if_pos (by exact h.falls hdue hd)]
    rfl
  case period =>
    intro t d s h hdue hd
    have hexec : exec (.statusPeriod t) s = .next (statusPeriod (advance t s)) := rfl
    rw [hexec, h.taken, statusPeriod, if_pos (by exact h.falls hdue hd)]
    dsimp only [State.setNodeTime_slc]
    rw [hdue]
    rfl
  case plain =>
    intro c t s hc hform h hl hsup hiso
    rw [exec_conflict hc hform h hl, scoreDown_stays (s := frameEnded t s) (.inl hsup),
      hearLine_free (s := scoreLowered (frameEnded t s)) hiso]
    rfl
  case conflict =>
    intro c t s hc hform h hl _
    refine ⟨_, exec_conflict hc hform h hl, ?_⟩
    have takes := hearLine_scoreDown_takes (frameEnded t s)
    have returned := takes.returned
    generalize hearLine (scoreDown (frameEnded t s)) = x at takes returned
    obtain ⟨kept, -, -⟩ := takes
    obtain ⟨htime, hmp, hpv, hvtu, hpins, hphase, hpending⟩ := zoneKept_fields kept
    have hslc := zoneKept_slc kept
    have hthree : threePs x = threePs s := by unfold threePs; rw [zoneKept_cfg kept]; rfl
    have hend : x.slc.tEnd = t := by rw [hslc]; rfl
    obtain ⟨hiso, hsup⟩ := active_lineHeard (frameEnded t s)
    have hiso := (zoneKept_active kept .lineIsolated (by decide)).trans hiso
    have hsup := (zoneKept_active kept .lineSuppressed (by decide)).trans hsup
    obtain ⟨b, n, hraise⟩ := raiseFault_setHm .idConflict (x.setSlc { x.slc with conflictDue := some (t + threePs s) })
    have heq : takeConflict x = raiseFault .idConflict (x.setSlc { x.slc with conflictDue := some (t + threePs s) }) := by
      rw [takeConflict, hend, hthree]
    rw [heq, hraise]
    refine ⟨⟨hpins, hphase, hpending⟩, htime, (congrArg LineCtl.line hslc :), (congrArg LineCtl.tSof hslc :), hend,
      (congrArg LineCtl.score hslc :), (congrArg LineCtl.lastHeard hslc :), (congrArg LineCtl.heardDue hslc :), rfl,
      hasFault_putFault_same _ _ _, hasFault_putFault_same _ _ _, ?_, ?_, hmp, hpv, hvtu, returned⟩
    · exact (hasFault_putFault_other (f := .idConflict) (g := .lineIsolated) (by decide) _ _).trans hiso
    · exact (hasFault_putFault_other (f := .idConflict) (g := .lineSuppressed) (by decide) _ _).trans hsup
  case heard =>
    intro t d s h hdue hd
    have hexec : exec (.heardDeadline t) s = .next (heardDeadline (advance t s)) := rfl
    rw [hexec, h.taken, heardDeadline, if_pos (by exact h.falls hdue hd)]
    refine ⟨_, rfl, ?_⟩
    obtain ⟨around, time, hactive, hsticky, husable, hslc, mp, pv, vtu, rcp, stands, pauses, runs⟩ :=
      lineLost (u := raiseLineFault .lineIsolated ((s.setNodeTime t).setSlc { s.slc with heardDue := none })) rfl
    exact ⟨around, time, hactive, hsticky, husable, (congrArg LineCtl.heardDue hslc :), (congrArg LineCtl.line hslc :),
      (congrArg LineCtl.score hslc :), mp, pv, vtu, rcp, stands, pauses, runs⟩

end Sys2Proof.Machine

/-! What a delivered frame leaves of the line and of the Peer View's presence and summaries (sections 2.5 to 2.7, 3.2 and
3.3). -/

namespace Sys2Proof.Machine

variable {s u v : State} {t d : Nat} {i : StationId} {f : FaultId}

/-- What the delivery of a frame leaves as hearing the frame has made it. -/
structure Delivered (s u : State) : Prop where
  around : SameAround s u
  time : u.nodeTime = s.nodeTime
  line : u.slc = { s.slc with queue := u.slc.queue, inFlight := u.slc.inFlight }
  isolated : active .lineIsolated u = active .lineIsolated s
  suppressed : active .lineSuppressed u = active .lineSuppressed s
  present : ∀ j, (peer u j).presence = (peer s j).presence ∧ (peer u j).lastHeard = (peer s j).lastHeard ∧
    (peer u j).silenceDue = (peer s j).silenceDue
  config : u.rcp.config = s.rcp.config
  digest : u.rcp.digest = s.rcp.digest
  station : u.rcp.stationId = s.rcp.stationId

/-- What every delivery but that of a STATUS leaves of the digest comparison (R62). -/
structure SummariesKept (s u : State) : Prop where
  summary : ∀ j, (peer u j).summary = (peer s j).summary
  mismatch : active .configMismatch u = active .configMismatch s

theorem Delivered.trans (h : Delivered s v) (g : Delivered v u) : Delivered s u where
  around := ⟨g.around.1.trans h.around.1, g.around.2.1.trans h.around.2.1, g.around.2.2.trans h.around.2.2⟩
  time := g.time.trans h.time
  line := by
    have hg := g.line
    rw [h.line] at hg
    exact hg
  isolated := g.isolated.trans h.isolated
  suppressed := g.suppressed.trans h.suppressed
  present j := by
    obtain ⟨hp, hl, hs⟩ := h.present j
    obtain ⟨gp, gl, gs⟩ := g.present j
    exact ⟨gp.trans hp, gl.trans hl, gs.trans hs⟩
  config := g.config.trans h.config
  digest := g.digest.trans h.digest
  station := g.station.trans h.station

theorem SummariesKept.trans (h : SummariesKept s v) (g : SummariesKept v u) : SummariesKept s u :=
  ⟨fun j => (g.summary j).trans (h.summary j), g.mismatch.trans h.mismatch⟩

/-- A delivery of any class but STATUS. -/
def Kept (s u : State) : Prop := Delivered s u ∧ SummariesKept s u

theorem Kept.trans (h : Kept s v) (g : Kept v u) : Kept s u := ⟨h.1.trans g.1, h.2.trans g.2⟩

theorem kept_of_voteKept (h : voteKept u = voteKept s) : Kept s u := by
  obtain ⟨htime, -, hpv, hpins, hphase, hpending, hconfig, hstation, -⟩ := voteKept_fields h
  have hview := viewKept_of_voteKept h
  have hactive (g : FaultId) (hg : g ≠ .channelUnconfirmed) : active g u = active g s := by
    have h' : putFault .channelUnconfirmed false u.hm.active = putFault .channelUnconfirmed false s.hm.active :=
      congrArg (fun x => x.hm.active) h
    exact (hasFault_putFault_other hg.symm false u.hm.active).symm.trans
      ((congrArg (hasFault g) h').trans (hasFault_putFault_other hg.symm false s.hm.active))
  have hpeer (j : StationId) : peer u j = peer s j := by unfold peer; rw [hpv]
  exact ⟨{ around := ⟨hpins, hphase, hpending⟩
           time := htime
           line := viewKept_slc hview
           isolated := hactive _ (by decide)
           suppressed := hactive _ (by decide)
           present := fun j => by rw [hpeer]; exact ⟨rfl, rfl, rfl⟩
           config := hconfig
           digest := congrArg (fun x => x.rcp.digest) h
           station := hstation },
    fun j => by rw [hpeer], hactive _ (by decide)⟩

theorem kept_refl (s : State) : Kept s s := kept_of_voteKept rfl

theorem kept_abortTest (s : State) : Kept s (abortTest s) := by
  unfold abortTest
  split
  · exact ⟨⟨⟨rfl, rfl, rfl⟩, rfl, rfl, rfl, rfl, fun _ => ⟨rfl, rfl, rfl⟩, rfl, rfl, rfl⟩, fun _ => rfl, rfl⟩
  · exact kept_refl s

theorem kept_storeObservation (i : StationId) (o : Observation) (s : State) : Kept s (storeObservation i o s) := by
  have hentry (j : StationId) : (peer (storeObservation i o s) j).presence = (peer s j).presence ∧
      (peer (storeObservation i o s) j).lastHeard = (peer s j).lastHeard ∧
      (peer (storeObservation i o s) j).silenceDue = (peer s j).silenceDue ∧
      (peer (storeObservation i o s) j).summary = (peer s j).summary := by
    by_cases hj : j = i
    · subst hj
      unfold storeObservation
      dsimp only
      repeat' split
      all_goals rw [peer_setPeer_same]; exact ⟨rfl, rfl, rfl, rfl⟩
    · rw [peer_storeObservation_other hj]
      exact ⟨rfl, rfl, rfl, rfl⟩
  have heq := storeObservation_eq i o s
  generalize storeObservation i o s = w at heq hentry
  rw [heq] at hentry ⊢
  refine ⟨⟨⟨rfl, rfl, rfl⟩, rfl, rfl, rfl, rfl, fun j => ?_, rfl, rfl, rfl⟩, fun j => ?_, rfl⟩
  · obtain ⟨hp, hl, hs, -⟩ := hentry j
    exact ⟨hp, hl, hs⟩
  · obtain ⟨-, -, -, hm⟩ := hentry j
    exact hm

theorem kept_inEitherOrder {a b : State → State} (first : Bool) (ha : ∀ x, Kept x (a x)) (hb : ∀ x, Kept x (b x))
    (s : State) : Kept s (inEitherOrder first a b s) :=
  inEitherOrder_of first ((ha s).trans (hb _)) ((hb s).trans (ha _))

theorem kept_drawn (s : State) : Kept s (drawn s) := kept_of_voteKept rfl

theorem kept_deliverTrip (p : TripPayload) (s : State) : Kept s (deliverTrip p s) := by
  have aborted := kept_abortTest s
  unfold deliverTrip
  dsimp only
  generalize abortTest s = x at aborted ⊢
  exact (aborted.trans (kept_drawn x)).trans (kept_inEitherOrder _
    (fun y => kept_of_voteKept (voteKept_vtuTripArrival p y)) (fun y => kept_of_voteKept (voteKept_activity _ _ _ y)) _)

theorem kept_deliverObserve (i : StationId) (p : ObservePayload) (s : State) : Kept s (deliverObserve i p s) := by
  have stored := kept_storeObservation i (observationOf p s) s
  unfold deliverObserve
  dsimp only
  rw [← observationOf]
  generalize storeObservation i (observationOf p s) s = x at stored ⊢
  have aborted : Kept x (if freshPhase p.phase then abortTest x else x) := by
    split
    · exact kept_abortTest x
    · exact kept_refl x
  generalize (if freshPhase p.phase then abortTest x else x) = y at aborted ⊢
  exact ((stored.trans aborted).trans (kept_drawn y)).trans (kept_inEitherOrder _
    (fun z => kept_of_voteKept (voteKept_voteTest z)) (fun z => kept_of_voteKept (voteKept_activity _ _ _ z)) _)

/-- A change of the HM outside the faults. -/
theorem kept_setHm {hm : HealthState} (h : hm.active = s.hm.active) : Kept s (s.setHm hm) :=
  ⟨⟨⟨rfl, rfl, rfl⟩, rfl, rfl, congrArg (hasFault _) h, congrArg (hasFault _) h, fun _ => ⟨rfl, rfl, rfl⟩, rfl, rfl, rfl⟩,
    fun _ => rfl, congrArg (hasFault _) h⟩

theorem kept_setMode (m : Mode) (s : State) : Kept s (setMode m s) := by
  unfold setMode queueStatus
  rw [takeHealth_eq]
  refine Kept.trans ?_ (kept_of_voteKept (voteKept_place .status _))
  exact kept_setHm (s := s) (hm := { s.hm with mode := m, healthy := _, healthSince := _ }) rfl

theorem kept_changeMode (m : Mode) (s : State) : Kept s (changeMode m s) := by
  cases m with
  | armed =>
    have zeroed : Kept s (s.setVtu { s.vtu with wouldTrip := 0 }) := kept_of_voteKept rfl
    exact (zeroed.trans (kept_setMode .armed _)).trans (kept_of_voteKept (voteKept_voteTest _))
  | listen =>
    have removed : Kept s (removeEntry 3 (removeEntry 1 s)) := kept_of_voteKept rfl
    exact removed.trans (kept_setMode .listen _)

theorem kept_command {effect : State → CmdResult × State} (h : Command effect) (s : State) : Kept s (effect s).2 := by
  cases h with
  | permit =>
    unfold permitEffect
    split
    · exact kept_of_voteKept (voteKept_of_zoneKept (zoneKept_beginStage s))
    · exact kept_refl s
  | hold => exact kept_of_voteKept (voteKept_of_zoneKept (zoneKept_zsHold s))
  | resume => exact kept_of_voteKept (voteKept_of_zoneKept (zoneKept_zsResume s))
  | shutdown =>
    unfold shutdownEffect
    split
    · exact kept_of_voteKept (voteKept_tripOccasion ..)
    · exact kept_refl s
  | test =>
    unfold testEffect
    split
    · exact ⟨⟨⟨rfl, rfl, rfl⟩, rfl, rfl, rfl, rfl, fun _ => ⟨rfl, rfl, rfl⟩, rfl, rfl, rfl⟩, fun _ => rfl, rfl⟩
    · exact kept_refl s
  | mode m =>
    unfold modeEffect
    split
    · dsimp only
      split
      · exact kept_refl s
      · exact kept_changeMode m s
    · exact kept_refl s
  | ackFaults =>
    exact ⟨⟨⟨rfl, rfl, rfl⟩, rfl, rfl, rfl, rfl, fun _ => ⟨rfl, rfl, rfl⟩, rfl, rfl, rfl⟩, fun _ => rfl, rfl⟩
  | report => exact kept_of_voteKept (voteKept_place .status s)

theorem kept_recordResult (code : Nat) (r : CmdResult) (s : State) : Kept s (recordResult code r s) :=
  ⟨⟨⟨rfl, rfl, rfl⟩, rfl, rfl, rfl, rfl, fun _ => ⟨rfl, rfl, rfl⟩, rfl, rfl, rfl⟩, fun _ => rfl, rfl⟩

theorem kept_deliverCommand (code : Nat) (i : StationId) (p : CommandPayload) {effect : State → CmdResult × State}
    (h : Command effect) (s : State) : Kept s (deliverCommand code i p effect s) := by
  unfold deliverCommand
  repeat' split
  · exact (kept_command h s).trans (kept_recordResult ..)
  · exact kept_recordResult ..
  · exact kept_refl s

theorem kept_deliverClaim (i : StationId) (p : ClaimPayload) (s : State) : Kept s (deliverClaim i p s) :=
  kept_of_voteKept rfl

theorem kept_deliverRelease (i : StationId) (p : ReleasePayload) (s : State) : Kept s (deliverRelease i p s) :=
  kept_of_voteKept rfl

theorem delivered_deliverStatus (i : StationId) (p : StatusPayload) (s : State) : Delivered s (deliverStatus i p s) := by
  unfold deliverStatus storeSummary digestCompare
  obtain ⟨hm, heq, follows, -⟩ := followFault_setHm .configMismatch
    (allStations.any (mismatched (setPeer i { peer s i with summary := some { sequencer := p.sequencer, digest := p.digest } } s)))
    (setPeer i { peer s i with summary := some { sequencer := p.sequencer, digest := p.digest } } s)
  rw [heq]
  refine ⟨⟨rfl, rfl, rfl⟩, rfl, rfl, follows.others _ (by decide), follows.others _ (by decide), fun j => ?_, rfl, rfl, rfl⟩
  by_cases hj : j = i
  · subst hj
    rw [show peer ((setPeer j _ s).setHm hm) j = _ from peer_setPeer_same j _ s]
    exact ⟨rfl, rfl, rfl⟩
  · rw [show peer ((setPeer i _ s).setHm hm) j = _ from peer_setPeer_other (Ne.symm hj) _ s]
    exact ⟨rfl, rfl, rfl⟩

/-- A received frame of any class goes its way by its range check alone, and its delivery leaves the line and the
presence as hearing it has made them (R37, R41). -/
theorem exec_frame_kept {c : Instr} (h : frameArrival c = some (t, i)) (ht : t ≤ maxNodeTime) (s : State) :
    ∃ deliver, exec c s = .next (arrive c.wellFormed i deliver (advance t s)) ∧ (∀ x, Delivered x (deliver x)) ∧
      ((∃ p, c = .statusFrame t i p ∧ deliver = deliverStatus i p) ∨ ∀ x, Kept x (deliver x)) := by
  have hok : timeOk t = true := decide_eq_true ht
  have other {g : State → State} (hg : ∀ x, Kept x (g x)) : (∀ x, Delivered x (g x)) ∧
      ((∃ p, c = .statusFrame t i p ∧ g = deliverStatus i p) ∨ ∀ x, Kept x (g x)) := ⟨fun x => (hg x).1, .inr hg⟩
  cases c <;> simp only [frameArrival, Option.some.injEq, Prod.mk.injEq, reduceCtorEq] at h <;> obtain ⟨rfl, rfl⟩ := h <;>
    simp only [Instr.wellFormed, hok, Bool.true_and]
  case tripFrame p => exact ⟨_, rfl, other (kept_deliverTrip p)⟩
  case observeFrame p => exact ⟨_, rfl, other (kept_deliverObserve _ p)⟩
  case claimFrame p => exact ⟨_, rfl, other (kept_deliverClaim _ p)⟩
  case releaseFrame p => exact ⟨_, rfl, other (kept_deliverRelease _ p)⟩
  case statusFrame p => exact ⟨_, rfl, delivered_deliverStatus _ p, .inl ⟨p, rfl, rfl⟩⟩
  case permit p => exact ⟨_, rfl, other (kept_deliverCommand 1 _ p .permit)⟩
  case hold p => exact ⟨_, rfl, other (kept_deliverCommand 2 _ p .hold)⟩
  case resume p => exact ⟨_, rfl, other (kept_deliverCommand 3 _ p .resume)⟩
  case shutdown p => exact ⟨_, rfl, other (kept_deliverCommand 4 _ p .shutdown)⟩
  case test p => exact ⟨_, rfl, other (kept_deliverCommand 5 _ p .test)⟩
  case mode p => exact ⟨_, rfl, other (kept_deliverCommand 6 _ p (.mode _))⟩
  case ackFaults p => exact ⟨_, rfl, other (kept_deliverCommand 7 _ p .ackFaults)⟩
  case report p => exact ⟨_, rfl, other (kept_deliverCommand 8 _ p .report)⟩

end Sys2Proof.Machine

/-! A valid frame of any class is heard, and the digest comparison follows the stations' summaries (sections 2.5 to 2.7,
3.2 and 3.3). -/

namespace Sys2Proof.Machine

variable {s u v : State} {t d : Nat} {i : StationId} {f : FaultId}

/-! ## The frame heard and delivered -/

theorem arrive_heard (h : RunsAt t s) (hl : s.slc.line = .receiving) (hi : i ≠ ownId s) (deliver : State → State) :
    arrive true i deliver (advance t s) = if configured s then deliver (heardFrame t i s) else heardFrame t i s := by
  rw [arrive_running h hl, takeFrame_other (s := frameEnded t s) hi, heardFrame_other hi]
  rfl

/-- Settles O19: what the frame's delivery leaves as hearing the frame has made it. -/
theorem validFrameIsHeard : Obligations.ValidFrameIsHeard := by
  unfold Obligations.ValidFrameIsHeard
  intro c t i s hc hform h hl hi
  obtain ⟨deliver, hexec, hdelivered, -⟩ := exec_frame_kept hc h.2.2.1 s
  rw [hexec, hform, arrive_heard h hl hi]
  have heard := heardFrame_heard hi t
  generalize heardFrame t i s = x at heard
  obtain ⟨u, hu, delivered, hself⟩ : ∃ u, (if configured s then deliver x else x) = u ∧ Delivered x u ∧
      (configured s = false → u = x) := by
    split
    next hconf => exact ⟨_, rfl, hdelivered x, fun hno => absurd (hconf.symm.trans hno) (by decide)⟩
    next => exact ⟨_, rfl, (kept_refl x).1, fun _ => rfl⟩
  obtain ⟨present, lastHeard, silence⟩ := delivered.present i
  have hline := delivered.line
  rw [heard.line] at hline
  rw [hu]
  refine ⟨u, rfl, ⟨delivered.around.1.trans heard.around.1, delivered.around.2.1.trans heard.around.2.1,
    delivered.around.2.2.trans heard.around.2.2⟩, delivered.time.trans heard.time, (congrArg LineCtl.line hline :),
    (congrArg LineCtl.tSof hline :), (congrArg LineCtl.tEnd hline :), (congrArg LineCtl.score hline :),
    (congrArg LineCtl.lastError hline :), (congrArg LineCtl.lastHeard hline :), (congrArg LineCtl.heardDue hline :),
    delivered.isolated.trans heard.isolated, delivered.suppressed.trans heard.suppressed, ?_, ?_, ?_, fun hno hst => ?_⟩
  · rw [present, heard.sender]; rfl
  · rw [lastHeard, heard.sender]; rfl
  · rw [silence, heard.sender]; rfl
  · obtain ⟨zs, cd, icu, rcp⟩ := heard.returns.1 fun hjoins => absurd (hst.symm.trans hjoins.2.2.1) (by decide)
    rw [hself hno, heard.sender]
    exact ⟨heard.mp, heard.vtu, cd, zs, icu, rcp, heard.lastCode, heard.lastResult, rfl, rfl⟩

/-! ## The digest comparison -/

/-- CONFIG-MISMATCH is active exactly while an entry that takes part in the comparison differs (R62). -/
def Compared (s : State) : Prop := active .configMismatch s = true ↔ ∃ j, mismatched s j = true

theorem mismatched_iff (s : State) (j : StationId) : mismatched s j = true ↔
    j ≠ ownId s ∧ (peer s j).presence = .present ∧ inConsoleSet s j = false ∧
      ∃ m, (peer s j).summary = some m ∧ m.sequencer ≠ .unconfigured ∧ m.digest ≠ s.rcp.digest := by
  unfold mismatched
  cases hm : (peer s j).summary <;> simp [and_assoc]

theorem mismatched_congr (h : Delivered s u) (hs : ∀ j, (peer u j).summary = (peer s j).summary) (j : StationId) :
    mismatched u j = mismatched s j := by
  obtain ⟨hp, -, -⟩ := h.present j
  unfold mismatched ownId inConsoleSet cfg
  rw [hp, hs, h.config, h.digest, h.station]

theorem Compared.kept (h : Compared s) (hk : Kept s u) : Compared u := by
  obtain ⟨delivered, summary, mismatch⟩ := hk
  unfold Compared
  rw [mismatch]
  simp only [mismatched_congr delivered summary]
  exact h

theorem compared_digestCompare (s : State) : Compared (digestCompare s) := by
  unfold digestCompare
  obtain ⟨hm, heq, -, hactive⟩ := followFault_setHm .configMismatch (allStations.any (mismatched s)) s
  rw [heq]
  have hany : allStations.any (mismatched s) = true ↔ ∃ j, mismatched s j = true := by
    rw [List.any_eq_true]
    exact ⟨fun ⟨j, _, hj⟩ => ⟨j, hj⟩, fun ⟨j, hj⟩ => ⟨j, mem_allStations j, hj⟩⟩
  exact (Bool.eq_iff_iff.mp hactive).trans hany

theorem digestCompare_setHm (s : State) : ∃ hm, digestCompare s = s.setHm hm ∧ FollowsIn .configMismatch s hm := by
  obtain ⟨hm, heq, follows, -⟩ := followFault_setHm .configMismatch (allStations.any (mismatched s)) s
  exact ⟨hm, heq, follows⟩

/-- A SILENT station that returns has its summary compared again (R58, R62). -/
theorem presenceUpdate_compared (hp : (peer s i).presence = .silent) (hs : (peer s i).summary.isSome = true) (t : Nat) :
    Compared (presenceUpdate i t s) := by
  unfold presenceUpdate
  dsimp only
  rw [if_pos ⟨hp, hs⟩]
  exact compared_digestCompare _

theorem heardFrame_compared (hi : i ≠ ownId s) (hp : (peer s i).presence = .silent) (hs : (peer s i).summary.isSome = true)
    (t : Nat) : Compared (heardFrame t i s) := by
  rw [heardFrame_other hi, hear]
  have kept := arrivalKept_hearLine_scoreDown (frameEnded t s)
  generalize hearLine (scoreDown (frameEnded t s)) = x at kept ⊢
  have hpeer : peer x i = peer s i := (arrivalKept_fields kept).2.2.2.2.2 i
  exact presenceUpdate_compared (by rw [hpeer]; exact hp) (by rw [hpeer]; exact hs) _

/-- Settles O24. -/
theorem summariesAreCompared : Obligations.SummariesAreCompared := by
  unfold Obligations.SummariesAreCompared
  intro differs
  have compared {u : State} (h : Compared u) : active .configMismatch u = true ↔ ∃ j, differs u j :=
    h.trans (exists_congr fun j => mismatched_iff u j)
  refine ⟨?status, ?returns, ?silence⟩
  case status =>
    intro t i p s h hl hi hc hp
    have hexec : exec (.statusFrame t i p) s = .next (arrive (statusInRange p) i (deliverStatus i p) (advance t s)) := rfl
    rw [hexec, hp, arrive_other h hl hi hc]
    have heard := heardFrame_heard hi t
    generalize heardFrame t i s = x at heard
    refine ⟨_, rfl, ?_⟩
    have hcompared := compared (compared_digestCompare
      (setPeer i { peer x i with summary := some { sequencer := p.sequencer, digest := p.digest } } x))
    obtain ⟨hm, heq, -⟩ := digestCompare_setHm
      (setPeer i { peer x i with summary := some { sequencer := p.sequencer, digest := p.digest } } x)
    unfold deliverStatus storeSummary
    rw [heq] at hcompared ⊢
    have hsame : peer ((setPeer i { peer x i with summary := some { sequencer := p.sequencer, digest := p.digest } } x).setHm hm) i =
        { peer x i with summary := some { sequencer := p.sequencer, digest := p.digest } } := peer_setPeer_same i _ x
    have hother (j : StationId) (hj : j ≠ i) : peer ((setPeer i { peer x i with
        summary := some { sequencer := p.sequencer, digest := p.digest } } x).setHm hm) j = peer x j :=
      peer_setPeer_other hj.symm _ x
    refine ⟨heard.around, heard.time, by rw [hsame], fun j hj => (hother j hj).trans (heard.others j hj), ?_, hcompared, rfl⟩
    rw [hsame, heard.sender]
    rfl
  case returns =>
    intro c t i m s hc hform h hl hi hsilent hsummary
    obtain ⟨deliver, hexec, hdelivered, hclass⟩ := exec_frame_kept hc h.2.2.1 s
    rw [hexec, hform, arrive_heard h hl hi]
    have heard := heardFrame_heard hi t
    have hx := heardFrame_compared hi hsilent (by rw [hsummary]; rfl) t
    generalize heardFrame t i s = x at heard hx
    obtain ⟨u, hu, delivered, hcompared, hsummaries⟩ : ∃ u, (if configured s then deliver x else x) = u ∧ Delivered x u ∧
        Compared u ∧ ((∀ p, c ≠ .statusFrame t i p) → SummariesKept x u) := by
      split
      next =>
        refine ⟨_, rfl, hdelivered x, ?_⟩
        rcases hclass with ⟨p, hp, rfl⟩ | hkept
        · exact ⟨compared_digestCompare _, fun hno => absurd hp (hno p)⟩
        · exact ⟨hx.kept (hkept x), fun _ => (hkept x).2⟩
      next => exact ⟨_, rfl, (kept_refl x).1, hx, fun _ => (kept_refl x).2⟩
    obtain ⟨present, lastHeard, silence⟩ := delivered.present i
    rw [hu]
    refine ⟨u, rfl, ⟨delivered.around.1.trans heard.around.1, delivered.around.2.1.trans heard.around.2.1,
      delivered.around.2.2.trans heard.around.2.2⟩, delivered.time.trans heard.time, ?_, ?_, ?_, fun hno => ?_,
      compared hcompared⟩
    · rw [present, heard.sender]; rfl
    · rw [lastHeard, heard.sender]; rfl
    · rw [silence, heard.sender]; rfl
    · rw [(hsummaries hno).summary, heard.sender]
      exact hsummary
  case silence =>
    intro t d i s h hpresent hdue hd
    have hexec : exec (.silenceDeadline t i) s = .next (silenceDeadline i (advance t s)) := rfl
    rw [hexec, h.taken, silenceDeadline, if_pos (by exact h.fallsIf hdue hd (beq_iff_eq.mpr hpresent))]
    refine ⟨_, rfl, ?_⟩
    have hcompared := compared (compared_digestCompare (setPeer i { peer (removeClaimOf i (s.setNodeTime t)) i with
      presence := .silent, silenceDue := none } (removeClaimOf i (s.setNodeTime t))))
    obtain ⟨hm, heq, -⟩ := digestCompare_setHm (setPeer i { peer (removeClaimOf i (s.setNodeTime t)) i with
      presence := .silent, silenceDue := none } (removeClaimOf i (s.setNodeTime t)))
    unfold goSilent
    rw [heq] at hcompared ⊢
    exact ⟨⟨rfl, rfl, rfl⟩, rfl, peer_setPeer_same i _ _, fun j hj => peer_setPeer_other hj.symm _ _, rfl, hcompared,
      rfl, rfl, rfl, rfl, rfl, rfl⟩

end Sys2Proof.Machine

/-! An OBSERVE of another station is stored and handed on (sections 1.7, 3.4, 3.6, 4.1 and 7.1). -/

namespace Sys2Proof.Machine

variable {s u v : State} {t d : Nat} {i : StationId} {f : FaultId}

/-- Hearing a frame leaves Ta alone, and a zone that is configured stays so (R143). -/
theorem FrameHeard.zone (h : FrameHeard t i s u) :
    u.zs.ta = s.zs.ta ∧ (s.zs.st ≠ .unconfigured → u.zs.st ≠ .unconfigured) := by
  obtain ⟨stays, leaves, begins⟩ := h.returns
  by_cases hjoins : Joins s
  · by_cases hleft : ({ s.zs.pause with line := false } : Causes) = noCauses
    · obtain ⟨v, -, -, vzs, -, -, -, -, hzs, -⟩ := begins hjoins hleft
      have moves : ZoneMoves v (beginStage v) := ZoneMoves.refl.beginsStage
      have hpaused : s.zs.st = .paused := hjoins.2.2.1
      refine ⟨?_, fun _ => ?_⟩
      · rw [hzs, moves.ta_consoleHold.1, vzs]
      · rw [hzs]
        exact moves.configured (by rw [vzs]; exact fun hun => absurd (hpaused.symm.trans hun) (by decide))
    · obtain ⟨hzs, -⟩ := leaves hjoins hleft
      rw [hzs]
      exact ⟨rfl, id⟩
  · obtain ⟨hzs, -⟩ := stays hjoins
    rw [hzs]
    exact ⟨rfl, id⟩

theorem abortTest_mp (s : State) :
    (measuring s = true → (abortTest s).mp.testPart = .aborted ∧ (abortTest s).mp.deflection = false ∧
      hasFault .selftestAborted (abortTest s).hm.sticky = true) ∧ (measuring s = false → abortTest s = s) := by
  unfold abortTest
  refine ⟨fun h => ?_, fun h => if_neg (by rw [h]; decide)⟩
  rw [if_pos h]
  exact ⟨rfl, rfl, hasFault_putFault_same .selftestAborted true s.hm.sticky⟩

theorem abortTest_eq (s : State) : ∃ mp hm, abortTest s = (s.setMp mp).setHm hm := by
  unfold abortTest
  split
  · exact ⟨_, _, rfl⟩
  · exact ⟨s.mp, s.hm, rfl⟩

theorem measuring_iff (s : State) : measuring s = true ↔ s.mp.det = .masked ∧ s.mp.testPart = .measuring := by
  simp [measuring]

/-! ## The entry as it is written -/

/-- An update of the event that the entry holds (R67). -/
theorem entry_update {o held : Observation} (h : (peer s i).observation = some held) (he : held.event = o.event) :
    peer (storeObservation i o s) i = { peer s i with observation := some { o with onset := held.onset } } := by
  unfold storeObservation
  dsimp only
  rw [h]
  dsimp only
  rw [if_pos he, peer_setPeer_same]

/-- An observation of an event that the entry does not hold (R66, R72). -/
theorem entry_fresh {o : Observation} (h : ∀ held, (peer s i).observation = some held → held.event ≠ o.event) :
    peer (storeObservation i o s) i = { peer s i with
      observation := some o, windowDue := windowFor (cfg s).w s.nodeTime (i == ownId s && excluded s) o.onset } := by
  unfold storeObservation
  dsimp only
  split
  next held hheld => rw [if_neg (h held hheld), peer_setPeer_same]
  next => rw [peer_setPeer_same]

theorem not_counted {o : Observation} (ho : (peer s i).observation = some o) (hn : o.onset = none) : i ∉ countedSet s := by
  intro hin
  have hcounted := (List.mem_filter.mp hin).2
  unfold counted at hcounted
  rw [ho] at hcounted
  dsimp only at hcounted
  rw [hn] at hcounted
  cases hcounted

/-! ## The delivery -/

/-- An OBSERVE delivered: written, and then handed to the VTU and to the ZS (R28, R64 to R68). -/
structure ObserveTaken (i : StationId) (p : ObservePayload) (s u : State) : Prop where
  entries : ∀ j, peer u j = peer (storeObservation i (observationOf p s) s) j
  votes : working s = true → u.vtu.votes = (countedSet u).length
  zone : s.zs.st ≠ .unconfigured → u.zs.ta = max s.zs.ta s.slc.tEnd
  aborts : freshPhase p.phase = true → measuring s = true → u.mp.testPart = .aborted ∧ u.mp.deflection = false ∧
    hasFault .selftestAborted u.hm.sticky = true
  motion : freshPhase p.phase = false ∨ measuring s = false → u.mp = s.mp

theorem deliverObserve_taken (i : StationId) (p : ObservePayload) (s : State) (hnow : s.slc.tEnd = s.nodeTime) :
    ObserveTaken i p s (deliverObserve i p s) := by
  obtain ⟨pv, hstore⟩ : ∃ pv, storeObservation i (observationOf p s) s = s.setPv pv := ⟨_, storeObservation_eq _ _ _⟩
  obtain ⟨mp, hm, haborted, haborts, hmotion⟩ : ∃ mp hm, (if freshPhase p.phase then abortTest (s.setPv pv) else s.setPv pv) =
      ((s.setPv pv).setMp mp).setHm hm ∧
      (freshPhase p.phase = true → measuring s = true → mp.testPart = .aborted ∧ mp.deflection = false ∧
        hasFault .selftestAborted hm.sticky = true) ∧ (freshPhase p.phase = false ∨ measuring s = false → mp = s.mp) := by
    obtain ⟨haborts, hstays⟩ := abortTest_mp (s.setPv pv)
    obtain ⟨mp, hm, heq⟩ := abortTest_eq (s.setPv pv)
    split
    next hfresh =>
      rw [heq] at haborts hstays ⊢
      refine ⟨mp, hm, rfl, fun _ hmeasuring => haborts hmeasuring, fun hno => ?_⟩
      have hquiet := hno.resolve_left (by rw [hfresh]; decide)
      exact (congrArg State.mp (hstays hquiet) :)
    next hold => exact ⟨s.mp, s.hm, rfl, fun hfresh => absurd hfresh hold, fun _ => rfl⟩
  have hdeliver : deliverObserve i p s = inEitherOrder (drawOrder (((s.setPv pv).setMp mp).setHm hm)) voteTest
      (activity (((s.setPv pv).setMp mp).setHm hm).nodeTime p.grade (freshPhase p.phase))
      (drawn (((s.setPv pv).setMp mp).setHm hm)) := by
    have hslc : (((s.setPv pv).setMp mp).setHm hm).slc.tEnd = (((s.setPv pv).setMp mp).setHm hm).nodeTime := hnow
    unfold deliverObserve
    dsimp only
    rw [← observationOf, hstore, haborted, hslc]
  have handed := HandedToBoth.ofOrders voteTest_votes p.grade (freshPhase p.phase)
    (drawOrder (((s.setPv pv).setMp mp).setHm hm)) (drawn (((s.setPv pv).setMp mp).setHm hm))
  rw [hdeliver]
  obtain ⟨kept, votes, -, zone⟩ := handed
  have hsticky := viewKept_sticky (viewKept_of_voteKept kept) .selftestAborted (by decide) (by decide)
  obtain ⟨-, ump, upv, -⟩ := voteKept_fields kept
  refine ⟨fun j => by rw [hstore]; exact (congrArg (fun x : PeerView => x.entries[j.val]) upv :), votes,
    fun hst => (zone hst).2.trans (by rw [hnow]; rfl), fun hfresh hmeasuring => ?_,
    fun hno => ump.trans (hmotion hno)⟩
  · obtain ⟨part, deflection, notice⟩ := haborts hfresh hmeasuring
    exact ⟨(congrArg MotionState.testPart ump).trans part, (congrArg MotionState.deflection ump).trans deflection,
      hsticky.trans notice⟩

/-- Settles O23. -/
theorem observeIsStored : Obligations.ObserveIsStored := by
  unfold Obligations.ObserveIsStored
  intro t i p s h hl hi hc hp onset
  refine ⟨_, exec_observeFrame h hl hi hc hp, ?_⟩
  have heard := heardFrame_heard hi t
  obtain ⟨-, hsof, hcfg, -⟩ := heardFrame_fields hi t
  have hown := heardFrame_ownId hi t
  have hend := heardFrame_tEnd hi t
  have hworks := working_heardFrame h hi hc
  generalize heardFrame t i s = x at heard hsof hcfg hown hend hworks
  have honset : (observationOf p x).onset = onset := by
    rw [observationOf, hsof, hcfg]
    rfl
  have hobservation : (peer x i).observation = (peer s i).observation := by rw [heard.sender]; rfl
  have hwindow : (peer x i).windowDue = (peer s i).windowDue := by rw [heard.sender]; rfl
  obtain ⟨entries, votes, zone, aborts, motion⟩ := deliverObserve_taken i p x (hend.trans heard.time.symm)
  obtain ⟨delivered, -⟩ := kept_deliverObserve i p x
  have hmeasuring : measuring x = measuring s := by unfold measuring; rw [heard.mp]
  generalize deliverObserve i p x = u at entries votes zone aborts motion delivered
  refine ⟨⟨delivered.around.1.trans heard.around.1, delivered.around.2.1.trans heard.around.2.1,
    delivered.around.2.2.trans heard.around.2.2⟩, delivered.time.trans heard.time, fun held hheld he => ?_, fun hnew => ?_,
    fun j hj => ?_, votes hworks, fun hst => ?_, fun hdet hpart hphase => ?_, fun hno => ?_⟩
  · have hentry := entry_update (o := observationOf p x) (hobservation.trans hheld) he
    rw [entries, hentry]
    exact ⟨rfl, hwindow⟩
  · have hentry := entry_fresh (o := observationOf p x) (s := x) (i := i) (by rw [hobservation]; exact hnew)
    have hother : (i == ownId x) = false := by
      rw [hown]
      exact beq_eq_false_iff_ne.mpr hi
    rw [honset, hother, heard.time, hcfg, Bool.false_and] at hentry
    have hobs : (peer u i).observation = some { event := p.event, phase := p.phase, onset := onset, peak := p.peak, grade := p.grade } := by
      rw [entries, hentry, ← honset]
      rfl
    refine ⟨hobs, fun on hon => ?_, fun hnone => ⟨?_, not_counted hobs hnone⟩⟩
    · rw [entries, hentry, hon]
      simp [windowFor]
    · rw [entries, hentry, hnone]
      rfl
  · rw [entries, peer_storeObservation_other hj, heard.others j hj]
  · rw [zone (heard.zone.2 hst), heard.zone.1, hend]
  · have hfresh : freshPhase p.phase = true := by rcases hphase with hp | hp <;> rw [hp] <;> rfl
    exact aborts hfresh (hmeasuring.trans ((measuring_iff s).mpr ⟨hdet, hpart⟩))
  · refine (motion ?_).trans heard.mp
    rw [hmeasuring]
    rcases hno with hno | hno | hno | hno
    · exact .inr (Bool.eq_false_iff.mpr fun hm => hno ((measuring_iff s).mp hm).1)
    · exact .inr (Bool.eq_false_iff.mpr fun hm => hno ((measuring_iff s).mp hm).2)
    · exact .inl (by rw [hno]; rfl)
    · exact .inl (by rw [hno]; rfl)

end Sys2Proof.Machine

/-! A TRIP frame of another station (sections 1.7, 4.2, 4.6 and 4.7). -/

namespace Sys2Proof.Machine

variable {s u v w x : State} {t d : Nat} {i : StationId} {p : TripPayload}

/-! ## The arrival at the VTU -/

theorem permitRequest_eq (tripped : Bool) (origin : Cause) (s : State) :
    permitRequest tripped origin s = s.setRcp (permitRequest tripped origin s).rcp := by
  unfold permitRequest
  split
  · exact rcpPermit_eq s
  · rfl

theorem vtuTripArrival_votes (p : TripPayload) (s : State) : VoteMoves s (vtuTripArrival p s) := by
  obtain ⟨kept, votes, observes, zone⟩ := tripOccasion_votes .frame p.origin 0 p.grade s
  have hkept := voteKept_vtuTripArrival p s
  unfold vtuTripArrival at hkept ⊢
  have heq := permitRequest_eq s.vtu.armed p.origin (tripOccasion .frame p.origin 0 p.grade s)
  generalize permitRequest s.vtu.armed p.origin (tripOccasion .frame p.origin 0 p.grade s) = u at heq hkept
  rw [heq] at hkept ⊢
  exact ⟨hkept, votes, observes, zone⟩

/-- A trip of an armed node by a received TRIP, which asks for no permission of its own (R93). -/
theorem vtuTripArrival_trips (hworks : working s = true) (ha : s.vtu.armed = true) (hm : s.hm.mode = .armed) :
    vtuTripArrival p s = tripArmed .frame p.origin 0 p.grade s := by
  have hmode : (tripArmed .frame p.origin 0 p.grade s).hm.mode = .armed := by
    obtain ⟨-, -, -, -, -, -, -, -, hmode⟩ := voteKept_fields (voteKept_tripArmed .frame p.origin 0 p.grade s)
    exact hmode.trans hm
  unfold vtuTripArrival permitRequest
  rw [tripOccasion_armed hworks ha hm, ha]
  refine if_neg fun ⟨_, h⟩ => ?_
  rcases h with h | h
  · cases h
  · exact absurd (hmode.symm.trans h) (by decide)

/-- A received TRIP that finds the flag clear, or in LISTEN mode: at most a permit request and a would-trip (R93, R94). -/
theorem vtuTripArrival_listens (h : s.vtu.armed = false ∨ s.hm.mode = .listen) : ∃ vtu,
    vtuTripArrival p s = if p.origin = .console then rcpPermit (s.setVtu vtu) else s.setVtu vtu := by
  have request (b : Bool) (v : State) (hv : b = false ∨ v.hm.mode = .listen) :
      permitRequest b p.origin v = if p.origin = .console then rcpPermit v else v := by
    unfold permitRequest
    simp only [hv, and_true]
  unfold vtuTripArrival
  by_cases htrip : working s = true ∧ s.vtu.armed = true
  · have hm := h.resolve_left (by rw [htrip.2]; decide)
    rw [tripOccasion_listen htrip.1 htrip.2 hm, request s.vtu.armed (tripListen s) (.inr hm)]
    exact ⟨_, rfl⟩
  · have hno : working s = false ∨ s.vtu.armed = false :=
      (Decidable.not_and_iff_or_not.mp htrip).imp Bool.eq_false_iff.mpr Bool.eq_false_iff.mpr
    rw [tripOccasion_none hno, request _ _ h]
    exact ⟨s.vtu, rfl⟩

/-- The VTU behind a received TRIP without a trip in ARMED mode (R83, R92, R94). -/
theorem vtuTripArrival_vtu (p : TripPayload) (s : State) :
    (s.vtu.armed = false → (vtuTripArrival p s).vtu = s.vtu) ∧
      (working s = true → s.vtu.armed = true → s.hm.mode = .listen → (vtuTripArrival p s).vtu = { s.vtu with
        armed := false, lastTrip := some s.nodeTime, rearmDue := some (s.nodeTime + (cfg s).hw)
        wouldTrip := min 255 (s.vtu.wouldTrip + 1) }) := by
  unfold vtuTripArrival
  rw [permitRequest_eq]
  refine ⟨fun h => ?_, fun hw ha hm => ?_⟩
  · rw [tripOccasion_none (.inr h)]
    rfl
  · rw [tripOccasion_listen hw ha hm]
    rfl

/-! ## The record without a trip -/

/-- A record to which `c` may have added that permission is required, and a grade raise its grade (R93, R133). -/
structure PermitAsked (c : Bool) (s u : State) : Prop where
  isOpen : u.rcp.record.isOpen = s.rcp.record.isOpen
  count : u.rcp.record.count = s.rcp.record.count
  waits : u.rcp.closeWaits = s.rcp.closeWaits
  permit : recordOpen s = true → u.rcp.record.permit = (s.rcp.record.permit || c)
  closed : recordOpen s = false → u.rcp.record = s.rcp.record

theorem PermitAsked.trans {c e : Bool} (h : PermitAsked c s v) (g : PermitAsked e v u) : PermitAsked (c || e) s u := by
  have hopen : recordOpen v = recordOpen s := by unfold recordOpen; rw [h.isOpen, h.waits]
  refine ⟨g.isOpen.trans h.isOpen, g.count.trans h.count, g.waits.trans h.waits, fun ho => ?_, fun ho => ?_⟩
  · rw [g.permit (hopen.trans ho), h.permit ho, Bool.or_assoc]
  · rw [g.closed (hopen.trans ho), h.closed ho]

theorem permitAsked_rcp (h : u.rcp = s.rcp) : PermitAsked false s u := by
  rw [← Bool.or_self false]
  exact ⟨by rw [h], by rw [h], by rw [h], fun _ => by rw [h, Bool.or_self, Bool.or_false], fun _ => by rw [h]⟩

theorem rcpPermit_asked (s : State) : PermitAsked true s (rcpPermit s) := by
  unfold rcpPermit
  split
  next h =>
    obtain ⟨hrecord, hwaits, -⟩ := setRecord_rcp { s.rcp.record with permit := true } s
    refine ⟨by rw [hrecord], by rw [hrecord], hwaits, fun _ => by rw [hrecord, Bool.or_true], fun hno => ?_⟩
    exact absurd (hno.symm.trans h.1) Bool.false_ne_true
  next h =>
    refine ⟨rfl, rfl, rfl, fun ho => ?_, fun _ => rfl⟩
    have hyes : s.rcp.record.permit = true := eq_true_of_ne_false fun hno => h ⟨ho, hno⟩
    rw [hyes]
    rfl

theorem vtuTripArrival_asked (h : s.vtu.armed = false ∨ s.hm.mode = .listen) :
    PermitAsked (p.origin == .console) s (vtuTripArrival p s) := by
  obtain ⟨vtu, heq⟩ := vtuTripArrival_listens (p := p) h
  rw [heq]
  split
  next ho =>
    rw [ho]
    exact (permitAsked_rcp (s := s) (u := s.setVtu vtu) rfl).trans (rcpPermit_asked _)
  next ho =>
    rw [beq_eq_false_iff_ne.mpr ho]
    exact permitAsked_rcp rfl

theorem CalmReport.asked {offer : Nat} (h : CalmReport offer s w) : PermitAsked false s w := by
  obtain ⟨n, hrecord, hwaits, -⟩ := h.record
  refine ⟨by rw [hrecord], by rw [hrecord], hwaits, fun _ => by rw [hrecord, Bool.or_false], fun hno => ?_⟩
  have hsame : gradeOffered offer s = s.zs.grade := by rw [gradeOffered, hno]; rfl
  rw [h.recordKept hsame]

/-! ## The report behind a trip -/

/-- An activity report that neither moves Ta nor raises the grade of a zone that is shutting down or in WATCH changes
nothing (R131 to R133, R145). -/
theorem activity_stands {g : Nat} (b : Bool) (hst : s.zs.st = .shutting ∨ s.zs.st = .watch) (hta : t ≤ s.zs.ta)
    (hg : g ≤ s.zs.grade) : activity t g b s = s := by
  have htaken : takeActivity t g s = s := by
    unfold takeActivity
    rw [Nat.max_eq_left hta, if_neg fun h => absurd h.2 (Nat.not_lt.mpr hg)]
    rfl
  unfold activity
  rw [if_neg (by rcases hst with h | h <;> rw [h] <;> decide)]
  dsimp only
  rw [htaken, if_pos ⟨rfl, rfl⟩]
  unfold activityEffect
  rcases hst with h | h <;> rw [h]

/-! ## The delivery -/

/-- `u` follows `s` by a trip of cause FRAME, at a grade that covers the frame's and the site's (R78, R87). -/
def TripFollowed (p : TripPayload) (s u : State) : Prop :=
  ∃ g, p.grade ≤ g ∧ s.zs.grade ≤ g ∧ Tripped .frame p.origin 0 g (countedSet s) s u

/-- A node that is to trip follows a TRIP frame in whichever order the VTU and the ZS are handed it (R78, R86, R131). -/
theorem tripFollowed (hworks : working s = true) (ha : s.vtu.armed = true) (hm : s.hm.mode = .armed) (hq : queueOk s = true)
    (hst : s.zs.st ≠ .unconfigured) (hta : s.zs.ta ≤ s.nodeTime) (hholds : holdsAboveZero (cfg s) = true) (first : Bool) :
    TripFollowed p s (inEitherOrder first (vtuTripArrival p) (activity s.nodeTime p.grade false) s) := by
  refine inEitherOrder_of first ?vtuFirst ?zoneFirst
  case vtuFirst =>
    obtain ⟨hzone, hreceived, -⟩ := le_tripGrade p.grade s
    have htripped := tripArmed_tripped .frame p.origin 0 p.grade hq hst
    have htime := (tripArmed_taken .frame p.origin 0 p.grade s).kept
    rw [vtuTripArrival_trips hworks ha hm]
    generalize tripArmed .frame p.origin 0 p.grade s = x at htripped htime
    have htime : x.nodeTime = s.nodeTime := (voteKept_fields htime).1
    obtain ⟨-, -, -, -, -, -, xta, -, -, zone⟩ := id htripped
    obtain ⟨xst, xgrade, -⟩ := zone hholds
    have hle : p.grade ≤ x.zs.grade := by
      rw [xgrade]
      split
      · exact Nat.le_trans hreceived (Nat.le_max_left ..)
      · exact hreceived
    rw [activity_stands false xst (by rw [xta, htime]; exact Nat.le_max_right ..) hle]
    exact ⟨_, hreceived, hzone, htripped⟩
  case zoneFirst =>
    have calm := activity_calm p.grade hst hta hholds
    obtain ⟨hwst, -⟩ := activity_ta hst s.nodeTime p.grade false
    have hwvtu := activity_vtu s.nodeTime p.grade false s
    have hwq : queueOk (activity s.nodeTime p.grade false s) = true := (queueOk_iff _).mpr
      (((Moves.refl (motion := false) (line := false)).activityAt (Nat.le_refl _) p.grade false).keeps_queue ((queueOk_iff s).mp hq))
    generalize activity s.nodeTime p.grade false s = w at calm hwst hwvtu hwq
    have hwmode : w.hm.mode = s.hm.mode := (congrArg (fun y => y.hm.mode) calm.kept :)
    have hcounted : countedSet w = countedSet s := countedSet_of_voteKept (voteKept_of_zoneKept calm.kept)
    have hwworks : working w = true := by rw [working_of_voteKept (voteKept_of_zoneKept calm.kept)]; exact hworks
    have hwtime : w.nodeTime = s.nodeTime := (zoneKept_fields calm.kept).1
    rw [vtuTripArrival_trips hwworks (by rw [hwvtu]; exact ha) (hwmode.trans hm)]
    obtain ⟨hzone, hreceived, -⟩ := le_tripGrade p.grade w
    have htripped := tripArmed_tripped .frame p.origin 0 p.grade hwq hwst
    rw [hcounted] at htripped
    have hoffered : gradeOffered p.grade s ≤ tripGrade p.grade w := Nat.le_trans (Nat.le_of_eq calm.grade.symm) hzone
    have hnow : (tripArmed .frame p.origin 0 p.grade w).nodeTime = s.nodeTime :=
      (voteKept_fields (tripArmed_taken .frame p.origin 0 p.grade w).kept).1.trans hwtime
    exact ⟨_, hreceived, Nat.le_trans (le_gradeOffered _ s) hoffered, calm.tripped hoffered hta hnow htripped⟩

/-- What a TRIP frame does to a node that is not to trip (R93, R94). -/
structure TripHeard (p : TripPayload) (s u : State) : Prop where
  trips : ofClass 0 u.slc.queue = ofClass 0 s.slc.queue
  record : PermitAsked (p.origin == .console) s u

theorem tripHeard (h : s.vtu.armed = false ∨ s.hm.mode = .listen) (hst : s.zs.st ≠ .unconfigured)
    (hta : s.zs.ta ≤ s.nodeTime) (hholds : holdsAboveZero (cfg s) = true) (first : Bool) :
    TripHeard p s (inEitherOrder first (vtuTripArrival p) (activity s.nodeTime p.grade false) s) := by
  have heard (x : State) (hx : x.vtu.armed = false ∨ x.hm.mode = .listen) :
      (vtuTripArrival p x).slc = x.slc ∧ (vtuTripArrival p x).zs = x.zs ∧ (vtuTripArrival p x).nodeTime = x.nodeTime := by
    obtain ⟨vtu, heq⟩ := vtuTripArrival_listens (p := p) hx
    rw [heq]
    split
    · rw [rcpPermit_eq]
      exact ⟨rfl, rfl, rfl⟩
    · exact ⟨rfl, rfl, rfl⟩
  refine inEitherOrder_of first ?vtuFirst ?zoneFirst
  case vtuFirst =>
    obtain ⟨hslc, hzs, htime⟩ := heard s h
    have hasked := vtuTripArrival_asked (p := p) h
    have hcfg : cfg (vtuTripArrival p s) = cfg s := by
      unfold cfg
      rw [show (vtuTripArrival p s).rcp.config = s.rcp.config from (voteKept_fields (voteKept_vtuTripArrival p s)).2.2.2.2.2.2.1]
    generalize vtuTripArrival p s = x at hslc hzs htime hasked hcfg
    have calm := activity_calm (s := x) p.grade (by rw [hzs]; exact hst) (by rw [hzs, htime]; exact hta)
      (by rw [hcfg]; exact hholds)
    refine ⟨?_, ?_⟩
    · rw [activity_queue _ _ _ _ (by decide), hslc]
    · rw [← htime, ← Bool.or_false (p.origin == Cause.console)]
      exact hasked.trans calm.asked
  case zoneFirst =>
    have calm := activity_calm p.grade hst hta hholds
    have hqueue := activity_queue s.nodeTime p.grade false s (c := 0) (by decide)
    have hwvtu := activity_vtu s.nodeTime p.grade false s
    generalize activity s.nodeTime p.grade false s = w at calm hqueue hwvtu
    have hwmode : w.hm.mode = s.hm.mode := (congrArg (fun y => y.hm.mode) calm.kept :)
    have hw : w.vtu.armed = false ∨ w.hm.mode = .listen := by rw [hwvtu, hwmode]; exact h
    refine ⟨by rw [(heard w hw).1]; exact hqueue, ?_⟩
    rw [← Bool.false_or (p.origin == Cause.console)]
    exact calm.asked.trans (vtuTripArrival_asked hw)

/-- Ta and the VTU behind a TRIP frame, whether it trips or not (R83, R90, R94, R131). -/
structure TripDelivered (s u : State) : Prop where
  kept : voteKept u = voteKept s
  ta : s.zs.st ≠ .unconfigured → s.zs.ta ≤ s.nodeTime → u.zs.ta = s.nodeTime
  clear : s.vtu.armed = false → u.vtu = s.vtu
  listens : working s = true → s.vtu.armed = true → s.hm.mode = .listen → u.vtu = { s.vtu with
    armed := false, lastTrip := some s.nodeTime, rearmDue := some (s.nodeTime + (cfg s).hw)
    wouldTrip := min 255 (s.vtu.wouldTrip + 1) }

theorem tripDelivered (p : TripPayload) (first : Bool) (s : State) :
    TripDelivered s (inEitherOrder first (vtuTripArrival p) (activity s.nodeTime p.grade false) s) := by
  refine inEitherOrder_of first ?vtuFirst ?zoneFirst
  case vtuFirst =>
    obtain ⟨kept, -, -, zone⟩ := vtuTripArrival_votes p s
    obtain ⟨clear, listens⟩ := vtuTripArrival_vtu p s
    generalize vtuTripArrival p s = x at kept zone clear listens
    refine ⟨(voteKept_activity ..).trans kept, fun hst hta => ?_, fun h => (activity_vtu ..).trans (clear h),
      fun hw ha hm => (activity_vtu ..).trans (listens hw ha hm)⟩
    obtain ⟨hxst, hxta⟩ := zone hst
    rw [Nat.max_eq_right hta] at hxta
    rw [(activity_ta hxst ..).2]
    rcases hxta with hxta | hxta <;> rw [hxta]
    · exact Nat.max_eq_right hta
    · exact Nat.max_self _
  case zoneFirst =>
    have hwkept := zoneKept_activity s.nodeTime p.grade false s
    have hwvtu := activity_vtu s.nodeTime p.grade false s
    have hwta (hst : s.zs.st ≠ .unconfigured) := activity_ta hst s.nodeTime p.grade false
    generalize activity s.nodeTime p.grade false s = w at hwkept hwvtu hwta
    have hwtime : w.nodeTime = s.nodeTime := (zoneKept_fields hwkept).1
    have hwcfg : cfg w = cfg s := zoneKept_cfg hwkept
    have hwmode : w.hm.mode = s.hm.mode := (congrArg (fun y => y.hm.mode) hwkept :)
    have hwworks : working w = working s := working_of_voteKept (voteKept_of_zoneKept hwkept)
    obtain ⟨kept, -, -, zone⟩ := vtuTripArrival_votes p w
    obtain ⟨clear, listens⟩ := vtuTripArrival_vtu p w
    rw [hwvtu, hwworks, hwmode, hwtime, hwcfg] at listens
    rw [hwvtu] at clear
    refine ⟨kept.trans (voteKept_of_zoneKept hwkept), fun hst hta => ?_, clear, listens⟩
    obtain ⟨hst', hta'⟩ := hwta hst
    obtain ⟨-, huta⟩ := zone hst'
    rw [hwtime, hta', Nat.max_eq_right hta, Nat.max_self, or_self] at huta
    exact huta

theorem tripped_congr {own origin : Cause} {votes g : Nat} {l : List StationId} (hzs : v.zs = s.zs) (hvtu : v.vtu = s.vtu)
    (hrcp : v.rcp = s.rcp) (hcd : v.cd = s.cd) (h : Tripped own origin votes g l v u) : Tripped own origin votes g l s u := by
  have hcfg : cfg v = cfg s := by unfold cfg; rw [hrcp]
  unfold Tripped at h ⊢
  rw [hzs, hvtu, hrcp, hcd, hcfg] at h
  exact h

theorem countedSet_heard (h : FrameHeard t i s u) : countedSet u = countedSet (s.setNodeTime t) := by
  refine List.filter_congr fun j _ => ?_
  have hobs : (peer u j).observation = (peer s j).observation := by
    by_cases hj : j = i
    · rw [hj, h.sender]
      rfl
    · rw [h.others j hj]
  have hcfg : cfg u = cfg s := by unfold cfg; rw [h.config]
  have hown : ownId u = ownId s := h.station
  unfold counted
  rw [hobs, h.time, hcfg, hown, h.excluded]
  rfl

theorem abortTest_setHm (s : State) : ∃ mp hm, abortTest s = (s.setMp mp).setHm hm ∧ hm.mode = s.hm.mode ∧
    hm.active = s.hm.active := by
  unfold abortTest
  split
  · exact ⟨_, _, rfl, rfl, rfl⟩
  · exact ⟨s.mp, s.hm, rfl, rfl, rfl⟩

/-- Settles O28: the frame is delivered in the state in which it has been heard, a self-test in its measuring samples
aborted first. -/
theorem tripFrameIsFollowed : Obligations.TripFrameIsFollowed := by
  unfold Obligations.TripFrameIsFollowed
  intro t i p s h hl hi hc hp hq htimes hst
  have hexec : exec (.tripFrame t i p) s = .next (arrive (tripInRange p) i (deliverTrip p) (advance t s)) := rfl
  rw [hexec, hp, arrive_other h hl hi hc]
  have heard := heardFrame_heard hi t
  have hworks := working_heardFrame h hi hc
  have hqueue : queueOk (heardFrame t i s) = true := (queueOk_iff _).mpr
    ((heardFrame_moves hi t).keeps_queue ((queueOk_iff s).mp hq))
  generalize heardFrame t i s = x at heard hworks hqueue
  obtain ⟨-, hta⟩ := (timesOk_iff s).mp htimes
  have hlate : s.nodeTime ≤ t := h.2.1
  have hend : x.slc.tEnd = x.nodeTime := by rw [heard.line, heard.time]
  obtain ⟨haborts, hstays⟩ := abortTest_mp x
  have hmeasuring : measuring x = measuring s := by unfold measuring; rw [heard.mp]
  have hdeliver : deliverTrip p x = inEitherOrder (drawOrder (abortTest x)) (vtuTripArrival p)
      (activity (drawn (abortTest x)).nodeTime p.grade false) (drawn (abortTest x)) := by
    obtain ⟨mp, hm, habort⟩ := abortTest_eq x
    have hslc : (abortTest x).slc.tEnd = (drawn (abortTest x)).nodeTime := by rw [habort]; exact hend
    unfold deliverTrip
    dsimp only
    rw [hslc]
  obtain ⟨mp, hm, habort, hmode, hactive⟩ := abortTest_setHm x
  rw [habort] at hdeliver haborts hstays
  rw [hdeliver]
  generalize drawOrder ((x.setMp mp).setHm hm) = first
  obtain ⟨y, hy⟩ : ∃ y, y = drawn ((x.setMp mp).setHm hm) := ⟨_, rfl⟩
  have hyworks : working y = true := by rw [hy]; exact hworks
  have hymode : y.hm.mode = s.hm.mode := by rw [hy]; exact hmode.trans heard.mode
  have hyvtu : y.vtu = s.vtu := by rw [hy]; exact heard.vtu
  have hytime : y.nodeTime = t := by rw [hy]; exact heard.time
  have hyst : y.zs.st ≠ .unconfigured := by rw [hy]; exact heard.zone.2 hst
  have hyta : y.zs.ta ≤ y.nodeTime := by rw [hytime, hy]; exact Nat.le_trans (Nat.le_of_eq heard.zone.1) (Nat.le_trans hta hlate)
  have hycfg : cfg y = cfg s := by rw [hy]; exact congrArg (fun c => c.getD defaultConfig) heard.config
  have hyq : queueOk y = true := by rw [hy]; exact hqueue
  have hycounted : countedSet y = countedSet (s.setNodeTime t) := by
    rw [← countedSet_heard heard, hy]
    exact countedSet_congr (u := drawn ((x.setMp mp).setHm hm)) rfl rfl rfl hactive
  have hyzone (hjoins : ¬Joins s) : y.zs = s.zs ∧ y.cd = s.cd ∧ y.icu = s.icu ∧ y.rcp = s.rcp := by
    rw [hy]; exact heard.returns.1 hjoins
  have hyqueue (hjoins : ¬Joins s) : y.slc.queue = s.slc.queue := by rw [hy]; exact (heard.queue hjoins).1
  have hymp : y.mp = mp := by rw [hy]; rfl
  have hysticky : y.hm.sticky = hm.sticky := by rw [hy]; rfl
  have hyaround : SameAround s y := by rw [hy]; exact heard.around
  rw [← hy]
  have nojoins (husable : s.zs.st = .paused → lineUsable s = true) : ¬Joins s := fun ⟨hno, _, hpaused, _⟩ =>
    absurd (hno.symm.trans (husable hpaused)) Bool.false_ne_true
  have delivered := tripDelivered p first y
  have followed := tripFollowed (p := p) (s := y) (first := first) hyworks
  have unfollowed := tripHeard (p := p) (s := y) (first := first)
  generalize inEitherOrder first (vtuTripArrival p) (activity y.nodeTime p.grade false) y = u at delivered followed unfollowed
  obtain ⟨kept, uta, clear, listens⟩ := delivered
  obtain ⟨utime, ump, -, upins, uphase, upending, -⟩ := voteKept_fields kept
  have usticky := viewKept_sticky (viewKept_of_voteKept kept) .selftestAborted (by decide) (by decide)
  rw [hyvtu] at clear listens followed unfollowed
  rw [hymode] at listens followed unfollowed
  rw [hytime] at listens uta
  rw [hycfg] at listens followed unfollowed
  refine ⟨u, rfl, ⟨upins.trans hyaround.1, uphase.trans hyaround.2.1, upending.trans hyaround.2.2⟩, utime.trans hytime,
    uta hyst (hytime ▸ hyta), fun hm => ?_, fun hm => ?_, fun ha hm husable hholds => ?_, listens hyworks, clear,
    fun hno husable hholds => ?_⟩
  · obtain ⟨part, deflection, notice⟩ := haborts (hmeasuring.trans hm)
    rw [ump, hymp, usticky, hysticky]
    exact ⟨part, deflection, notice⟩
  · rw [ump, hymp]
    exact (congrArg State.mp (hstays (hmeasuring.trans hm)) :).trans heard.mp
  · obtain ⟨hzs, hcd, -, hrcp⟩ := hyzone (nojoins husable)
    obtain ⟨g, hframe, hsite, htripped⟩ := followed ha hm hyq hyst hyta hholds
    rw [hzs] at hsite
    rw [hycounted] at htripped
    exact ⟨g, hframe, hsite, tripped_congr hzs hyvtu hrcp hcd htripped⟩
  · obtain ⟨-, -, -, hrcp⟩ := hyzone (nojoins husable)
    obtain ⟨trips, isOpen, count, -, permit, closed⟩ := unfollowed hno hyst hyta hholds
    have hopen : recordOpen y = recordOpen s := by unfold recordOpen; rw [hrcp]
    rw [hopen, hrcp] at permit closed
    rw [hrcp] at isOpen count
    refine ⟨fun e he hclass => ?_, isOpen, count, permit, closed⟩
    rw [hyqueue (nojoins husable)] at trips
    have hin := (mem_ofClass e 0 _).mpr ⟨he, hclass⟩
    rw [trips] at hin
    exact ((mem_ofClass e 0 _).mp hin).1

end Sys2Proof.Machine

/-! The trip record survives its own bytes (sections 10.4 and 10.5). -/

namespace Sys2Proof.Machine

variable {r : TripRecord}

/-! ## Bytes of numbers -/

theorem toNat_byte {n : Nat} (h : n ≤ 255) : (BitVec.ofNat 8 n).toNat = n :=
  (BitVec.toNat_ofNat n 8).trans (Nat.mod_eq_of_lt (by omega))

/-- The two bytes of a number below 2^16 spell it (section 6.3). -/
theorem twoBytes {n : Nat} (h : n ≤ 65535) : (BitVec.ofNat 8 (n / 256)).toNat * 256 + (BitVec.ofNat 8 n).toNat = n := by
  rw [BitVec.toNat_ofNat, BitVec.toNat_ofNat]
  omega

theorem length_of_ascending {l : List StationId} (h : ascending (l.map (fun i => i.val)) = true) : l.length ≤ 32 := by
  have hpairs := (ascending_iff_pairwise _).mp h
  have hnodup : (l.map (fun i => i.val)).Nodup := hpairs.imp Nat.ne_of_lt
  have hsub : l.map (fun i => i.val) ⊆ List.range 32 := fun n hn => by
    obtain ⟨i, -, rfl⟩ := List.mem_map.mp hn
    exact List.mem_range.mpr i.isLt
  have hlen := length_le_of_subset hnodup hsub
  rwa [List.length_map, List.length_range] at hlen

/-! ## The layout -/

/-- The bytes of the station list behind its length byte (R193). -/
def idBytes (l : List StationId) : List Byte :=
  l.map (fun i => BitVec.ofNat 8 i.val) ++ List.replicate (32 - l.length) 0#8

theorem length_idBytes {l : List StationId} (h : l.length ≤ 32) : (idBytes l).length = 32 := by
  rw [idBytes, List.length_append, List.length_map, List.length_replicate]
  omega

theorem idBytes_le {l : List StationId} {b : Byte} (h : b ∈ idBytes l) : b.toNat ≤ 31 := by
  rcases List.mem_append.mp h with h | h
  · obtain ⟨i, -, rfl⟩ := List.mem_map.mp h
    have hlt := i.isLt
    rw [toNat_byte (by omega)]
    omega
  · rw [List.eq_of_mem_replicate h]
    decide

theorem take_idBytes (l : List StationId) : ((idBytes l).take l.length).map (fun b => b.toNat) = l.map (fun i => i.val) := by
  rw [idBytes, List.take_left' (List.length_map ..), List.map_map]
  refine List.map_congr_left fun i _ => ?_
  have hlt := i.isLt
  exact toNat_byte (by omega)

theorem recordBody_eq (r : TripRecord) : recordBody r =
    BitVec.ofNat 8 (r.isOpen.toNat * 128 + r.permit.toNat * 64) :: BitVec.ofNat 8 (r.sequence / 256) ::
      BitVec.ofNat 8 r.sequence :: BitVec.ofNat 8 (recordCauseCode r.own) :: BitVec.ofNat 8 (recordCauseCode r.origin) ::
      BitVec.ofNat 8 r.votes :: BitVec.ofNat 8 r.grade :: BitVec.ofNat 8 r.count ::
      BitVec.ofNat 8 r.stations.length :: idBytes r.stations := rfl

theorem length_recordBody (h : r.stations.length ≤ 32) : (recordBody r).length = 41 := by
  rw [recordBody_eq]
  simp [length_idBytes h]

theorem take_recordBytes (h : r.stations.length ≤ 32) : (recordBytes r).take 41 = recordBody r :=
  List.take_left' (length_recordBody h)

theorem getD_behind {l m : List Byte} {i : Nat} (h : l.length ≤ i) {d : Byte} : (l ++ m).getD i d = m.getD (i - l.length) d := by
  rw [List.getD_eq_getElem?_getD, List.getElem?_append_right h, ← List.getD_eq_getElem?_getD]

theorem crc_recordBytes (h : r.stations.length ≤ 32) :
    crcOfBytes ((recordBytes r).take 41) = BitVec.ofNat 16 (u16 (recordBytes r) 41) := by
  have hlen := length_recordBody h
  have hlt := (crcOfBytes (recordBody r)).isLt
  have hcrc : u16 (recordBytes r) 41 = (crcOfBytes (recordBody r)).toNat := by
    unfold u16 u8 recordBytes
    rw [getD_behind (Nat.le_of_eq hlen), getD_behind (by omega), hlen]
    exact twoBytes (by omega)
  rw [take_recordBytes h, hcrc, BitVec.ofNat_toNat, BitVec.setWidth_eq]

/-- The bytes behind the length byte, with the CRC after them (R193). -/
theorem drop_recordBytes (r : TripRecord) : ∃ crc, (recordBytes r).drop 9 = idBytes r.stations ++ crc := ⟨_, rfl⟩

theorem recordIds_recordBytes (h : r.stations.length ≤ 32) : recordIds (recordBytes r) = r.stations.map (fun i => i.val) := by
  obtain ⟨crc, hdrop⟩ := drop_recordBytes r
  have hcount : u8 (recordBytes r) 8 = r.stations.length := toNat_byte (Nat.le_trans h (by decide))
  have hle : r.stations.length ≤ (idBytes r.stations).length := by rw [length_idBytes h]; exact h
  rw [recordIds, hdrop, hcount, List.take_append_of_le_length hle, take_idBytes]

/-! ## The round trip -/

theorem causeOfCode_recordCauseCode (c : Option Cause) : causeOfCode (recordCauseCode c) = c := by
  cases c with
  | none => rfl
  | some c => cases c <;> rfl

theorem recordCauseCode_le (c : Option Cause) : recordCauseCode c ≤ 5 := by
  cases c with
  | none => decide
  | some c => cases c <;> decide

theorem flagBits (a b : Bool) : (BitVec.ofNat 8 (a.toNat * 128 + b.toNat * 64)).toNat.testBit 7 = a ∧
    (BitVec.ofNat 8 (a.toNat * 128 + b.toNat * 64)).toNat.testBit 6 = b := by
  cases a <;> cases b <;> decide

/-- Settles O46. -/
theorem recordSurvivesTheMemory : Obligations.RecordSurvivesTheMemory := by
  unfold Obligations.RecordSurvivesTheMemory
  intro r hseq hvotes hgrade hcount hids
  have hstations := length_of_ascending hids
  have hlen : (recordBytes r).length = 43 := by
    rw [recordBytes, List.length_append, length_recordBody hstations]
    rfl
  have hown : u8 (recordBytes r) 3 = recordCauseCode r.own := toNat_byte (Nat.le_trans (recordCauseCode_le _) (by decide))
  have horigin : u8 (recordBytes r) 4 = recordCauseCode r.origin := toNat_byte (Nat.le_trans (recordCauseCode_le _) (by decide))
  have hvotes' : u8 (recordBytes r) 5 = r.votes := toNat_byte (Nat.le_trans hvotes (by decide))
  have hgrade' : u8 (recordBytes r) 6 = r.grade := toNat_byte (Nat.le_trans hgrade (by decide))
  have hcount' : u8 (recordBytes r) 7 = r.count := toNat_byte hcount
  have hlength : u8 (recordBytes r) 8 = r.stations.length := toNat_byte (Nat.le_trans hstations (by decide))
  have hseq' : u16 (recordBytes r) 1 = r.sequence := twoBytes hseq
  have hids' := recordIds_recordBytes hstations
  have hbytes : (((recordBytes r).drop 9).take 32).all (fun b => decide (b.toNat ≤ 31)) = true := by
    obtain ⟨crc, hdrop⟩ := drop_recordBytes r
    rw [hdrop, List.take_left' (length_idBytes hstations), List.all_eq_true]
    exact fun b hb => decide_eq_true (idBytes_le hb)
  have hvalid : recordValid (recordBytes r) = true := by
    simp only [recordValid, hown, horigin, hvotes', hgrade', hlength, hids', hids, hbytes, hlen, crc_recordBytes hstations,
      Bool.and_true, Bool.and_eq_true, decide_eq_true_eq]
    exact ⟨⟨⟨⟨⟨⟨rfl, trivial⟩, recordCauseCode_le _⟩, recordCauseCode_le _⟩, hvotes⟩, hgrade⟩, hstations⟩
  refine ⟨hlen, ?_⟩
  rw [parseRecord, if_pos hvalid]
  obtain ⟨hopen, hpermit⟩ := flagBits r.isOpen r.permit
  have hlist : (r.stations.map (fun i => i.val)).map (fun n => (⟨n % 32, Nat.mod_lt _ (by decide)⟩ : StationId)) = r.stations := by
    rw [List.map_map]
    refine List.map_id'' (fun i => ?_) _
    exact Fin.ext (Nat.mod_eq_of_lt i.isLt)
  rw [recordFields, hseq', hown, horigin, hvotes', hgrade', hcount', hids', causeOfCode_recordCauseCode,
    causeOfCode_recordCauseCode, hlist]
  exact congrArg some (congr (congrArg (fun a b : Bool => { r with isOpen := a, permit := b }) hopen) hpermit)

end Sys2Proof.Machine

/-! Every frame in range survives stuffing, CRC and delimiter (sections 2.3 and 2.10). -/

namespace Sys2Proof.Machine

/-! ## Numbers as bits -/

theorem foldl_natBits (w n acc : Nat) :
    (natBits w n).foldl (fun m b => 2 * m + b.toNat) acc = acc * 2 ^ w + n % 2 ^ w := by
  induction w generalizing acc with
  | zero => simp [natBits, Nat.mod_one]
  | succ w ih =>
    rw [natBits, List.foldl_cons, ih, Nat.mod_pow_succ, Nat.toNat_testBit]
    have hshift : 2 * acc * 2 ^ w = acc * 2 ^ (w + 1) := by
      rw [Nat.pow_succ, Nat.mul_comm 2 acc, Nat.mul_assoc, Nat.mul_comm 2]
    rw [Nat.add_mul, hshift, Nat.mul_comm (n / 2 ^ w % 2)]
    omega

theorem bitsNat_natBits {w n : Nat} (h : n < 2 ^ w) : bitsNat (natBits w n) = n := by
  rw [bitsNat, foldl_natBits, Nat.zero_mul, Nat.zero_add, Nat.mod_eq_of_lt h]

theorem length_natBits (w n : Nat) : (natBits w n).length = w := by
  induction w with
  | zero => rfl
  | succ w ih => rw [natBits, List.length_cons, ih]

theorem byteBits {n : Nat} (h : n ≤ 255) : bitsNat (natBits 8 n) = n := bitsNat_natBits (by omega)

theorem wordBits {n : Nat} (h : n ≤ 65535) : bitsNat (natBits 16 n) = n := bitsNat_natBits (by omega)

theorem vectorBits (v : BitVec 16) : BitVec.ofNat 16 (bitsNat (natBits 16 v.toNat)) = v := by
  rw [bitsNat_natBits v.isLt, BitVec.ofNat_toNat, BitVec.setWidth_eq]

/-! ## Stuffing -/

/-- The run count of sender and receiver after a list of unstuffed bits (R33). -/
def runAfter (last : Bool) (run : Nat) : List Bool → Bool × Nat
  | [] => (last, run)
  | b :: bs => runAfter b (if run = 6 then (if b = !last then 2 else 1) else if b = last then run + 1 else 1) bs

/-- A receiver takes from a stuffed span the bits that were stuffed, and leaves what follows them as a sender goes on
from the same run count (R33). -/
theorem unstuff_stuffFrom (l m rest : List Bool) (last : Bool) (run : Nat) :
    unstuff l.length last run (stuffFrom last run (l ++ m) ++ rest) =
      .taken l (runAfter last run l).1 (runAfter last run l).2
        (stuffFrom (runAfter last run l).1 (runAfter last run l).2 m ++ rest) := by
  have nothing (last : Bool) (run : Nat) (q : List Bool) : unstuff 0 last run q = .taken [] last run q := by
    cases q <;> simp [unstuff]
  induction l generalizing last run with
  | nil => exact nothing last run _
  | cons b bs ih =>
    by_cases hrun : run = 6
    · have hne : (!last) ≠ last := by cases last <;> decide
      simp only [List.cons_append, List.length_cons, stuffFrom, if_pos hrun, runAfter]
      rw [unstuff, if_neg (by omega), if_pos hrun, if_neg hne, unstuff, if_neg (by omega), if_neg (by decide),
        Nat.add_sub_cancel, ih]
      rfl
    · simp only [List.cons_append, List.length_cons, stuffFrom, if_neg hrun, runAfter]
      rw [unstuff, if_neg (by omega), if_neg hrun, Nat.add_sub_cancel, ih]
      rfl

/-- The stuff bit that falls due after the last bit of a span goes with it (R33). -/
theorem endSpan_stuffFrom (bits rest : List Bool) (last : Bool) (run : Nat) :
    ∃ last' run', endSpan (.taken bits last run (stuffFrom last run [] ++ rest)) = .taken bits last' run' rest := by
  by_cases hrun : run = 6
  · refine ⟨!last, 1, ?_⟩
    have hne : (!last) ≠ last := by cases last <;> decide
    simp only [stuffFrom, if_pos hrun, endSpan, List.cons_append, List.nil_append, if_neg hne]
  · refine ⟨last, run, ?_⟩
    simp only [stuffFrom, if_neg hrun, endSpan, List.nil_append]

/-! ## Payloads -/

theorem causeOfCode_causeCode (c : Cause) : causeOfCode (bitsNat (natBits 8 (causeCode c))) = some c := by
  cases c <;> rfl

theorem phaseOfCode_phaseCode (p : ReportPhase) : phaseOfCode (bitsNat (natBits 8 (phaseCode p))) = some p := by
  cases p <;> rfl

theorem reasonOfCode_reasonCode (r : ReleaseReason) : reasonOfCode (bitsNat (natBits 8 (reasonCode r))) = some r := by
  cases r <;> rfl

theorem modeOfCode_modeCode (m : Mode) : modeOfCode (bitsNat (natBits 8 (modeCode m))) = some m := by
  cases m <;> rfl

theorem detOfCode_detCode (d : DetState) : detOfCode (bitsNat (natBits 8 (detCode d))) = some d := by
  cases d <;> rfl

theorem seqOfCode_seqCode (q : SeqState) : seqOfCode (bitsNat (natBits 8 (seqCode q))) = some q := by
  cases q <;> rfl

theorem errOfCode_errCode (e : ErrKind) : errOfCode (bitsNat (natBits 3 (errCode e))) = some e := by
  cases e <;> rfl

theorem resultOfCode_resultCode (r : CmdResult) : resultOfCode (bitsNat (natBits 8 (resultCode r))) = some r := by
  cases r <;> rfl

theorem tripOfBits_payloadBits {p : TripPayload} (h : tripInRange p = true) :
    tripOfBits (payloadBits (.trip p)) = some (.trip p) := by
  have hrange := h
  simp only [tripInRange, Bool.and_eq_true, decide_eq_true_eq] at hrange
  obtain ⟨⟨hvotes, hgrade⟩, hage⟩ := hrange
  have hown : fieldAt (payloadBits (.trip p)) 0 8 = bitsNat (natBits 8 (causeCode p.own)) := rfl
  have horigin : fieldAt (payloadBits (.trip p)) 8 8 = bitsNat (natBits 8 (causeCode p.origin)) := rfl
  have hv : fieldAt (payloadBits (.trip p)) 16 8 = p.votes := byteBits (Nat.le_trans hvotes (by decide))
  have hg : fieldAt (payloadBits (.trip p)) 24 8 = p.grade := byteBits (Nat.le_trans hgrade (by decide))
  have ha : fieldAt (payloadBits (.trip p)) 32 16 = p.age := wordBits hage
  unfold tripOfBits
  rw [hown, horigin, hv, hg, ha, causeOfCode_causeCode, causeOfCode_causeCode]
  exact if_pos h

theorem observeOfBits_payloadBits {p : ObservePayload} (h : observeInRange p = true) :
    observeOfBits (payloadBits (.observe p)) = some (.observe p) := by
  have hrange := h
  simp only [observeInRange, Bool.and_eq_true, decide_eq_true_eq] at hrange
  obtain ⟨⟨⟨hevent, hage⟩, hpeak⟩, hgrade⟩ := hrange
  have hphase : fieldAt (payloadBits (.observe p)) 8 8 = bitsNat (natBits 8 (phaseCode p.phase)) := rfl
  have he : fieldAt (payloadBits (.observe p)) 0 8 = p.event := byteBits hevent
  have ha : fieldAt (payloadBits (.observe p)) 16 16 = p.age := wordBits hage
  have hp : fieldAt (payloadBits (.observe p)) 32 16 = p.peak := wordBits (Nat.le_trans hpeak (by decide))
  have hg : fieldAt (payloadBits (.observe p)) 48 8 = p.grade := byteBits (Nat.le_trans hgrade (by decide))
  unfold observeOfBits
  rw [hphase, he, ha, hp, hg, phaseOfCode_phaseCode]
  exact if_pos h

theorem claimOfBits_payloadBits {p : ClaimPayload} (h : claimInRange p = true) :
    claimOfBits (payloadBits (.claim p)) = some (.claim p) := by
  have hrange := h
  simp only [claimInRange, Bool.and_eq_true, decide_eq_true_eq] at hrange
  obtain ⟨⟨⟨⟨hnumber, -⟩, hweight⟩, -⟩, hduration⟩ := hrange
  have hn : fieldAt (payloadBits (.claim p)) 0 8 = p.number := byteBits hnumber
  have hw : fieldAt (payloadBits (.claim p)) 8 16 = p.weight := wordBits hweight
  have hd : fieldAt (payloadBits (.claim p)) 24 16 = p.duration := wordBits (Nat.le_trans hduration (by decide))
  unfold claimOfBits
  rw [hn, hw, hd]
  exact if_pos h

theorem releaseOfBits_payloadBits {p : ReleasePayload} (h : releaseInRange p = true) :
    releaseOfBits (payloadBits (.release p)) = some (.release p) := by
  have hreason : fieldAt (payloadBits (.release p)) 8 8 = bitsNat (natBits 8 (reasonCode p.reason)) := rfl
  have hn : fieldAt (payloadBits (.release p)) 0 8 = p.number := byteBits (of_decide_eq_true h)
  unfold releaseOfBits
  rw [hreason, hn, reasonOfCode_reasonCode]

theorem commandInRange_of_frame {code : Nat} {p : CommandPayload} (h : commandFrameInRange code p = true) :
    code ≤ 8 ∧ commandInRange p = true := by
  simp only [commandFrameInRange, Bool.and_eq_true, decide_eq_true_eq] at h
  obtain ⟨⟨-, hcode⟩, hp⟩ := h
  refine ⟨hcode, ?_⟩
  split at hp
  · exact (Bool.and_eq_true_iff.mp hp).1
  · exact hp

theorem commandOfBits_payloadBits {code : Nat} {p : CommandPayload} (h : commandFrameInRange code p = true) :
    commandOfBits (payloadBits (.command code p)) = some (.command code p) := by
  obtain ⟨hcode, hrange⟩ := commandInRange_of_frame h
  simp only [commandInRange, Bool.and_eq_true, Bool.or_eq_true, decide_eq_true_eq] at hrange
  obtain ⟨htarget, hargument⟩ := hrange
  have ht : fieldAt (payloadBits (.command code p)) 0 8 = p.target := byteBits (by omega)
  have hc : fieldAt (payloadBits (.command code p)) 8 8 = code := byteBits (Nat.le_trans hcode (by decide))
  have ha : fieldAt (payloadBits (.command code p)) 16 8 = p.argument := byteBits hargument
  unfold commandOfBits
  rw [ht, hc, ha]
  exact if_pos h

/-! A field of a STATUS is read behind the bits before it: the offset falls by their number. -/

theorem drop_skip {a l : List Bool} {n i : Nat} (ha : a.length = n) (h : n ≤ i) : (a ++ l).drop i = l.drop (i - n) := by
  rw [List.drop_append, ha, List.drop_eq_nil_of_le (Nat.le_trans (Nat.le_of_eq ha) h), List.nil_append]

@[simp] theorem drop_natBits {w i : Nat} (h : w ≤ i) (n : Nat) (l : List Bool) : (natBits w n ++ l).drop i = l.drop (i - w) :=
  drop_skip (length_natBits w n) h

@[simp] theorem drop_causeBits {i : Nat} (h : 8 ≤ i) (c : Causes) (l : List Bool) : (causeBits c ++ l).drop i = l.drop (i - 8) :=
  drop_skip rfl h

@[simp] theorem drop_faultBits {i : Nat} (h : 16 ≤ i) (a : FaultSet) (l : List Bool) : (faultBits a ++ l).drop i = l.drop (i - 16) :=
  drop_skip rfl h

@[simp] theorem take_natBits (w n : Nat) (l : List Bool) : (natBits w n ++ l).take w = natBits w n :=
  List.take_left' (length_natBits w n)

@[simp] theorem take_natBits_self (w n : Nat) : (natBits w n).take w = natBits w n :=
  List.take_of_length_le (Nat.le_of_eq (length_natBits w n))

theorem getD_of_drop {l r : List Bool} {n : Nat} {b : Bool} (h : l.drop n = b :: r) : l.getD n false = b := by
  have hfirst : (l.drop n)[0]? = some b := by rw [h, List.getElem?_cons_zero]
  rw [List.getElem?_drop, Nat.add_zero] at hfirst
  rw [List.getD_eq_getElem?_getD, hfirst, Option.getD_some]

@[simp] theorem take_faultBits (a : FaultSet) (l : List Bool) : (faultBits a ++ l).take 16 = faultBits a := List.take_left' rfl

@[simp] theorem take_causeBits (c : Causes) (l : List Bool) : (causeBits c ++ l).take 8 = causeBits c := List.take_left' rfl

/-- The STATUS payload up to its pause-cause set, and the rest of it by its bytes. -/
theorem payloadBits_status (p : StatusPayload) : payloadBits (.status p) =
    natBits 8 (modeCode p.mode) ++ (natBits 8 (detCode p.detector) ++ (natBits 8 (seqCode p.sequencer) ++
      (natBits 8 p.currentStage ++ (natBits 8 p.nextStage ++ (causeBits p.pause ++ (natBits 8 p.grade ++
      ([p.recordOpen, p.permit, false, false, false] ++ (natBits 3 (errCode p.lastError) ++ (faultBits p.active ++
      (faultBits p.sticky ++ (natBits 16 p.digest ++ (natBits 16 p.unconfirmed.toNat ++ (natBits 16 p.disagree.toNat ++
      (natBits 8 p.lastCode ++ (natBits 8 (resultCode p.lastResult) ++ natBits 8 p.wouldTrip))))))))))))))) := by
  simp only [payloadBits, List.append_assoc]

theorem statusOfBits_payloadBits {p : StatusPayload} (h : statusInRange p = true) :
    statusOfBits (payloadBits (.status p)) = some (.status p) := by
  have hrange := h
  simp only [statusInRange, Bool.and_eq_true, decide_eq_true_eq] at hrange
  obtain ⟨⟨⟨⟨⟨⟨hstage, -⟩, hnext⟩, hgrade⟩, hdigest⟩, hcode⟩, hwould⟩ := hrange
  generalize hl : payloadBits (.status p) = l
  rw [payloadBits_status] at hl
  have hmode : fieldAt l 0 8 = bitsNat (natBits 8 (modeCode p.mode)) := by simp [← hl, fieldAt]
  have hdet : fieldAt l 8 8 = bitsNat (natBits 8 (detCode p.detector)) := by simp [← hl, fieldAt]
  have hseq : fieldAt l 16 8 = bitsNat (natBits 8 (seqCode p.sequencer)) := by simp [← hl, fieldAt]
  have hs : fieldAt l 24 8 = bitsNat (natBits 8 p.currentStage) := by simp [← hl, fieldAt]
  have hn : fieldAt l 32 8 = bitsNat (natBits 8 p.nextStage) := by simp [← hl, fieldAt]
  have hpause : (l.drop 40).take 8 = causeBits p.pause := by simp [← hl]
  have hg : fieldAt l 48 8 = bitsNat (natBits 8 p.grade) := by simp [← hl, fieldAt]
  have hrecord : l.drop 56 = p.recordOpen :: l.drop 57 := by simp [← hl]
  have hasked : l.drop 57 = p.permit :: l.drop 58 := by simp [← hl]
  have herr : fieldAt l 61 3 = bitsNat (natBits 3 (errCode p.lastError)) := by simp [← hl, fieldAt]
  have hactive : (l.drop 64).take 16 = faultBits p.active := by simp [← hl]
  have hsticky : (l.drop 80).take 16 = faultBits p.sticky := by simp [← hl]
  have hd : fieldAt l 96 16 = bitsNat (natBits 16 p.digest) := by simp [← hl, fieldAt]
  have hu : fieldAt l 112 16 = bitsNat (natBits 16 p.unconfirmed.toNat) := by simp [← hl, fieldAt]
  have hdis : fieldAt l 128 16 = bitsNat (natBits 16 p.disagree.toNat) := by simp [← hl, fieldAt]
  have hc : fieldAt l 144 8 = bitsNat (natBits 8 p.lastCode) := by simp [← hl, fieldAt]
  have hresult : fieldAt l 152 8 = bitsNat (natBits 8 (resultCode p.lastResult)) := by simp [← hl, fieldAt]
  have hw : fieldAt l 160 8 = bitsNat (natBits 8 p.wouldTrip) := by simp [← hl, fieldAt]
  have hopen : l.getD 56 false = p.recordOpen := getD_of_drop hrecord
  have hpermit : l.getD 57 false = p.permit := getD_of_drop hasked
  unfold statusOfBits
  rw [hmode, hdet, hseq, herr, hresult, hs, hn, hg, hd, hu, hdis, hc, hw, hpause, hactive, hsticky, hopen, hpermit,
    modeOfCode_modeCode, detOfCode_detCode, seqOfCode_seqCode, errOfCode_errCode, resultOfCode_resultCode,
    byteBits (Nat.le_trans hstage (by decide)), byteBits (Nat.le_trans hnext (by decide)), byteBits (Nat.le_trans hgrade (by decide)),
    wordBits hdigest, vectorBits, vectorBits, byteBits (Nat.le_trans hcode (by decide)), byteBits hwould]
  exact if_pos h

/-! ## The frame -/

theorem bodyOfBits_payloadBits {f : Frame} (h : frameInRange f = true) :
    bodyOfBits (bodyClass f.body) (payloadBits f.body) = some f.body := by
  have way (b : FrameBody) (l : List Bool) : bodyOfBits (bodyClass b) l = match b with
      | .trip _ => tripOfBits l | .observe _ => observeOfBits l | .claim _ => claimOfBits l
      | .release _ => releaseOfBits l | .command _ _ => commandOfBits l | .status _ => statusOfBits l := by
    cases b <;> rfl
  rw [way]
  unfold frameInRange at h
  cases hb : f.body <;> rw [hb] at h <;> dsimp only at h ⊢
  case trip p => exact tripOfBits_payloadBits h
  case observe p => exact observeOfBits_payloadBits h
  case claim p => exact claimOfBits_payloadBits h
  case release p => exact releaseOfBits_payloadBits h
  case command code p => exact commandOfBits_payloadBits h
  case status p => exact statusOfBits_payloadBits h

theorem payloadBytes_bodyClass (b : FrameBody) :
    ∃ len, payloadBytes (bodyClass b) = some len ∧ (payloadBits b).length = 8 * len := by
  cases b <;> refine ⟨_, rfl, ?_⟩ <;> simp [payloadBits, length_natBits, causeBits, faultBits]

theorem headerByte_facts (f : Frame) : bitsNat (natBits 8 (headerByte f)) / 32 = bodyClass f.body ∧
    bitsNat (natBits 8 (headerByte f)) % 32 = f.sender.val := by
  have hsender := f.sender.isLt
  have hclass : bodyClass f.body ≤ 5 := by cases f.body <;> simp [bodyClass]
  rw [headerByte, byteBits (by omega)]
  omega

/-- Settles O21. -/
theorem frameSurvivesTheLine : Obligations.FrameSurvivesTheLine := by
  unfold Obligations.FrameSurvivesTheLine
  intro f h
  obtain ⟨len, hlen, hpayload⟩ := payloadBytes_bodyClass f.body
  obtain ⟨hclass, hsender⟩ := headerByte_facts f
  have hline : lineBits f = false :: (stuffFrom false 1 (natBits 8 (headerByte f) ++
      (payloadBits f.body ++ natBits 16 (crc16 (checkedBits f)).toNat)) ++ delimiter) := by
    rw [lineBits, spanBits, stuff, checkedBits, List.append_assoc]
    rfl
  have htaken := unstuff_stuffFrom (natBits 8 (headerByte f))
    (payloadBits f.body ++ natBits 16 (crc16 (checkedBits f)).toNat) delimiter false 1
  rw [length_natBits] at htaken
  rw [hline, receive, htaken]
  dsimp only
  rw [hclass, hlen]
  dsimp only
  generalize (runAfter false 1 (natBits 8 (headerByte f))).1 = last, (runAfter false 1 (natBits 8 (headerByte f))).2 = run
  have hspan := unstuff_stuffFrom (payloadBits f.body ++ natBits 16 (crc16 (checkedBits f)).toNat) [] delimiter last run
  rw [List.append_nil, List.length_append, hpayload, length_natBits] at hspan
  obtain ⟨last', run', hend⟩ := endSpan_stuffFrom (payloadBits f.body ++ natBits 16 (crc16 (checkedBits f)).toNat) delimiter
    (runAfter last run (payloadBits f.body ++ natBits 16 (crc16 (checkedBits f)).toNat)).1
    (runAfter last run (payloadBits f.body ++ natBits 16 (crc16 (checkedBits f)).toNat)).2
  rw [receiveBody, hspan, hend]
  dsimp only
  rw [List.take_left' hpayload, List.drop_left' hpayload, vectorBits, hsender, bodyOfBits_payloadBits h]
  have hcrc : crc16 (natBits 8 (headerByte f) ++ payloadBits f.body) = crc16 (checkedBits f) := rfl
  rw [hcrc, if_neg (by simp)]
  exact congrArg (fun i => Received.frame { sender := i, body := f.body }) (Fin.ext (Nat.mod_eq_of_lt f.sender.isLt))

end Sys2Proof.Machine

namespace Sys2Proof.Machine
open Sys2Proof

/-! # The cold reset and the configuration image (R185 to R190) -/

/-! ## The checks of R189 -/

theorem vector_all_iff {α : Type} {n : Nat} (v : Vector α n) (p : α → Bool) :
    v.toList.all p = true ↔ ∀ i : Fin n, p (v[i.val]'i.isLt) = true := by
  simp only [List.all_eq_true, Vector.mem_toList_iff, Vector.mem_iff_getElem]
  constructor
  · intro h i
    exact h _ ⟨i.val, i.isLt, rfl⟩
  · rintro h x ⟨i, hi, rfl⟩
    exact h ⟨i, hi⟩

theorem irOf_stage (c : NodeConfig) (r : Fin 8) : irOf c (r.val + 1) = c.ir[r.val]'r.isLt := by
  have hlength : r.val < c.ir.toList.length := by rw [Vector.length_toList]; exact r.isLt
  rw [irOf, Nat.add_sub_cancel, List.getD_eq_getElem?_getD, List.getElem?_eq_getElem hlength, Option.getD_some, Vector.getElem_toList]

theorem channelInRange_iff (ch : ChannelConfig) : channelInRange ch = true ↔
    ch.shutdownStage ≤ 8 ∧ ch.restartStage ≤ 8 ∧ 1 ≤ ch.ackTimeout ∧ ch.ackTimeout ≤ 3000 := by
  simp only [channelInRange, Bool.and_eq_true, decide_eq_true_eq, and_assoc]

theorem channelRestartable_iff {ch : ChannelConfig} (hrange : ch.restartStage ≤ 8) : channelRestartable ch = true ↔
    (ch.enabled = true → ch.shutdownStage ≠ 0 ∨ ch.kind = .permit → 1 ≤ ch.restartStage) := by
  cases henabled : ch.enabled
  case false => simp [channelRestartable, henabled]
  case true => cases hkind : ch.kind <;> by_cases hstage : ch.shutdownStage = 0 <;>
      simp [channelRestartable, henabled, hkind, hstage, hrange]

theorem inrushOutlastsSettle_iff (c : NodeConfig) (r : Fin 8) : inrushOutlastsSettle c (r.val + 1) = true ↔
    ∀ n : Channel, (c.channels[n.val]'n.isLt).enabled = true → (c.channels[n.val]'n.isLt).restartStage = r.val + 1 →
      c.ts < (c.ir[r.val]'r.isLt) * 1000 := by
  have hnone : (!c.channels.toList.any (fun ch => ch.enabled && ch.restartStage == r.val + 1)) = true ↔
      ∀ n : Channel, ¬((c.channels[n.val]'n.isLt).enabled = true ∧ (c.channels[n.val]'n.isLt).restartStage = r.val + 1) := by
    rw [List.not_any_eq_all_not, vector_all_iff]
    simp only [Bool.not_eq_true', ← Bool.not_eq_true, Bool.and_eq_true, beq_iff_eq]
  rw [inrushOutlastsSettle, Bool.or_eq_true, hnone, decide_eq_true_eq, irOf_stage]
  constructor
  · rintro (h | h) n he hs
    · exact absurd ⟨he, hs⟩ (h n)
    · exact h
  · intro h
    by_cases hlong : c.ts < (c.ir[r.val]'r.isLt) * 1000
    · exact .inr hlong
    · exact .inl fun n hn => hlong (h n hn.1 hn.2)

theorem allStages_all_iff (p : Nat → Bool) : allStages.all p = true ↔ ∀ r : Fin 8, p (r.val + 1) = true := by
  have hstages : allStages = (List.finRange 8).map (fun r => r.val + 1) := by decide
  rw [hstages, List.all_map, List.all_eq_true]
  exact ⟨fun h r => h r (List.mem_finRange r), fun h r _ => h r⟩

/-- The ranges of R189 and its checks 5 and 6, the numbers of the site and the local block alone. -/
def NumbersFit (c : NodeConfig) : Prop :=
  (2 ≤ c.k ∧ c.k ≤ 8 ∧ 100 ≤ c.w ∧ c.w ≤ 60000 ∧ 1 ≤ c.gs ∧ c.gs ≤ 4 ∧ 2 ≤ c.gsolo ∧ c.gsolo ≤ 5 ∧
    1 ≤ c.gpermit ∧ c.gpermit ≤ 5 ∧ c.uci ≤ 32767 ∧ 1 ≤ c.b ∧ 100 ≤ c.ts ∧ c.ts ≤ 5000 ∧
    100 ≤ c.bu ∧ c.bu ≤ 10000 ∧ 1000 ≤ c.hw ∧ c.hw ≤ 50000 ∧ 1 ≤ c.ps ∧ c.ps ≤ 60) ∧
  (c.timing.prescale ≤ 63 ∧ 3 ≤ c.timing.seg1 ∧ c.timing.seg1 ≤ 24 ∧ 2 ≤ c.timing.seg2 ∧
    c.timing.seg2 ≤ 12 ∧ 1 ≤ c.timing.jump ∧ c.timing.jump ≤ 6 ∧ c.timing.jump ≤ c.timing.seg2) ∧
  (2 ≤ c.ks ∧ c.ks ≤ 6 ∧ 8 ≤ c.kl ∧ c.kl ≤ 13 ∧ 17 ≤ c.onsetRatio ∧ 8 ≤ c.endRatio ∧
    c.endRatio < c.onsetRatio ∧ 20 ≤ c.endHold ∧ c.endHold ≤ 2000 ∧ 1 ≤ c.lmin ∧ c.lmin ≤ 4095 ∧
    10 ≤ c.emax ∧ c.emax ≤ 600 ∧ c.testHours ≤ 168 ∧ c.dmin ≤ c.dmax ∧ c.dmax ≤ 32767 ∧
    c.shutdownGap ≤ 600 ∧ c.restartGap ≤ 600) ∧
  (1 ≤ c.p1 ∧ c.p1 < c.p2 ∧ c.p2 < c.p3 ∧ c.p3 < c.p4 ∧ c.p4 ≤ 32767 ∧
    1 ≤ c.c1 ∧ c.c1 < c.c2 ∧ c.c2 < c.c3 ∧ c.c3 < c.c4)

/-- The checks of R189 on the numbers and on the lists. Bounds that the strictly rising thresholds imply are
left out. -/
theorem configValid_split (c : NodeConfig) : configValid c = true ↔ NumbersFit c ∧
    c.ir.toList.all (fun v => decide (1 ≤ v) && decide (v ≤ 6000)) = true ∧ c.channels.toList.all channelInRange = true ∧
    c.channels.toList.all channelRestartable = true ∧ allStages.all (inrushOutlastsSettle c) = true := by
  unfold configValid siteInRange localInRange thresholdsRise NumbersFit
  generalize c.ir.toList.all _ = irs, c.channels.toList.all channelInRange = ranges,
    c.channels.toList.all channelRestartable = restarts, allStages.all (inrushOutlastsSettle c) = inrush
  simp only [Bool.and_eq_true, decide_eq_true_eq]
  constructor
  · rintro ⟨⟨⟨⟨⟨hsite, hlocal⟩, hrise⟩, hjump⟩, hrestart⟩, hinrush⟩
    obtain ⟨⟨hlocal, hir⟩, hrange⟩ := hlocal
    refine ⟨⟨?_, ?_, ?_, ?_⟩, hir, hrange, hrestart, hinrush⟩ <;> omega
  · rintro ⟨⟨hsite, htiming, hlocal, hrise⟩, hir, hrange, hrestart, hinrush⟩
    refine ⟨⟨⟨⟨⟨?_, ⟨?_, hir⟩, hrange⟩, ?_⟩, ?_⟩, hrestart⟩, hinrush⟩ <;> omega

/-! ## The reads of the cold start -/

theorem parseImage_eq_some (image : List Byte) (c : NodeConfig) : parseImage image = some c ↔
    image.length = 196 ∧ image.getD 0 0#8 = 0x31#8 ∧
    (crcOfBytes (image.take 194)).toNat = (image.getD 194 0#8).toNat * 256 + (image.getD 195 0#8).toNat ∧
    (image.getD 62 0#8).toNat ≤ 1 ∧ c = imageFields image ∧ configValid c = true := by
  have hformat : u8 image 0 = 0x31 ↔ image.getD 0 0#8 = 0x31#8 := BitVec.toNat_inj (y := 0x31#8)
  have hcrc : crcOfBytes (image.take 194) = BitVec.ofNat 16 (u16 image 194) ↔
      (crcOfBytes (image.take 194)).toNat = (image.getD 194 0#8).toNat * 256 + (image.getD 195 0#8).toNat := by
    have hhigh := (image.getD 194 0#8).isLt
    have hlow := (image.getD 195 0#8).isLt
    rw [← BitVec.toNat_inj, BitVec.toNat_ofNat, Nat.mod_eq_of_lt (by change (image.getD 194 0#8).toNat * 256 + (image.getD 195 0#8).toNat < _; omega)]
    rfl
  have hvalid : imageValid image = true ↔ image.length = 196 ∧ image.getD 0 0#8 = 0x31#8 ∧
      (crcOfBytes (image.take 194)).toNat = (image.getD 194 0#8).toNat * 256 + (image.getD 195 0#8).toNat ∧
      (image.getD 62 0#8).toNat ≤ 1 ∧ configValid (imageFields image) = true := by
    simp only [imageValid, Bool.and_eq_true, decide_eq_true_eq, hformat, hcrc, and_assoc]
    exact Iff.rfl
  rw [parseImage, Option.ite_none_right_eq_some, hvalid, Option.some.injEq]
  constructor
  · rintro ⟨⟨hlength, hcode, hcheck, hmode, hfit⟩, rfl⟩
    exact ⟨hlength, hcode, hcheck, hmode, rfl, hfit⟩
  · rintro ⟨hlength, hcode, hcheck, hmode, rfl, hfit⟩
    exact ⟨⟨hlength, hcode, hcheck, hmode, hfit⟩, rfl⟩

theorem parseImage_nil : parseImage [] = none := rfl

theorem parseRecord_nil : parseRecord [] = none := rfl

/-- A read that fails for the second time has the effect of a region that fails its checks, whatever the
deadline of the read was. -/
theorem finishColdStart_readDue (r : Option TripRecord) (s : State) (d : Option Nat) :
    finishColdStart r { s with rcp := { s.rcp with readDue := d } } = finishColdStart r s := by
  have h : takeRecord r { s with rcp := { s.rcp with readDue := d } } = takeRecord r s := by
    cases r <;> rfl
  rw [finishColdStart, h]
  rfl

section
variable {t : Nat} {s : State}

theorem advance_reading (hp : s.phase = .readImage ∨ s.phase = .readRecord) (h : s.nodeTime ≤ t) (hm : t ≤ maxNodeTime) :
    advance t s = s.setNodeTime t := by
  cases hp with
  | inl hp => exact advance_starting (by rw [hp]; decide) (by rw [hp]; decide) h hm
  | inr hp => exact advance_starting (by rw [hp]; decide) (by rw [hp]; decide) h hm

theorem readOpen_of_due {d : Nat} (hdue : s.rcp.readDue = some d) (hd : t ≤ d) : readOpen (s.setNodeTime t) = true := by
  rw [readOpen]
  change (match s.rcp.readDue with | some d => decide (t ≤ d) | none => false) = true
  rw [hdue]
  exact decide_eq_true hd

theorem imageRead_valid {d : Nat} {image : List Byte} {c : NodeConfig} (hp : s.phase = .readImage) (h : s.nodeTime ≤ t)
    (hm : t ≤ maxNodeTime) (hdue : s.rcp.readDue = some d) (hd : t ≤ d) (hc : parseImage image = some c) :
    exec (.imageRead t image) s = .next (takeImage (some c) (siteDigest image) (s.setNodeTime t)) := by
  have hexec : exec (.imageRead t image) s = .next (imageRead image (advance t s)) := rfl
  rw [hexec, advance_reading (.inl hp) h hm, imageRead, if_pos ⟨hp, readOpen_of_due hdue hd⟩, hc]

theorem imageRead_invalid {d : Nat} {image : List Byte} (hp : s.phase = .readImage) (h : s.nodeTime ≤ t)
    (hm : t ≤ maxNodeTime) (hdue : s.rcp.readDue = some d) (hd : t ≤ d) (hc : parseImage image = none) :
    exec (.imageRead t image) s = .next (takeImage none 0 (s.setNodeTime t)) := by
  have hexec : exec (.imageRead t image) s = .next (imageRead image (advance t s)) := rfl
  rw [hexec, advance_reading (.inl hp) h hm, imageRead, if_pos ⟨hp, readOpen_of_due hdue hd⟩, hc]

theorem recordRead_taken {d : Nat} (bytes : List Byte) (hp : s.phase = .readRecord) (h : s.nodeTime ≤ t) (hm : t ≤ maxNodeTime)
    (hdue : s.rcp.readDue = some d) (hd : t ≤ d) :
    exec (.recordRead t bytes) s = .next (finishColdStart (parseRecord bytes) (s.setNodeTime t)) := by
  have hexec : exec (.recordRead t bytes) s = .next (recordRead bytes (advance t s)) := rfl
  rw [hexec, advance_reading (.inr hp) h hm, recordRead, if_pos ⟨hp, readOpen_of_due hdue hd⟩]

end

/-- A raising in a part that is not running is of the two fault sets alone. -/
theorem raiseFault_starting (f : FaultId) {s : State} (hp : s.phase ≠ .running) : raiseFault f s = s.setHm { s.hm with
    active := putFault f true s.hm.active, sticky := putFault f true s.hm.sticky, healthy := false } := by
  unfold raiseFault takeHealth fit running
  rw [if_neg (by simp [hp])]
  rfl

/-- Settles O47. -/
theorem coldResetAndImage : Obligations.ColdResetAndImage := by
  unfold Obligations.ColdResetAndImage
  refine ⟨fun id range16 identity s => ?_, parseImage_eq_some, fun c => ?_, fun t d image s hp h hm hdue hd => ?_,
    fun t s h hm => ⟨fun hp hfirst => ?_, fun hp hagain => ?_, fun hp hagain => ?_⟩⟩
  case refine_1 =>
    refine ⟨coldReset id range16 identity s, rfl, ?_⟩
    by_cases hid : identity = 0x5C#8
    · rw [coldReset, if_pos hid, decide_eq_false (not_not_intro hid)]
      exact ⟨rfl, rfl, rfl, rfl, rfl, rfl, rfl, rfl, rfl, rfl, rfl, rfl, rfl, rfl, rfl, rfl, rfl, rfl, rfl, rfl,
        fun n => Vector.getElem_replicate n.isLt, rfl, rfl⟩
    · rw [coldReset, if_neg hid, raiseFault_starting _ (by exact Phase.noConfusion), decide_eq_true hid]
      exact ⟨rfl, rfl, rfl, rfl, rfl, rfl, rfl, rfl, rfl, rfl, rfl, rfl, rfl, rfl, rfl, rfl, rfl, rfl, rfl, rfl,
        fun n => Vector.getElem_replicate n.isLt, rfl, rfl⟩
  case refine_2 =>
    intro ch
    rw [configValid_split, vector_all_iff, vector_all_iff, vector_all_iff, allStages_all_iff]
    simp only [channelInRange_iff, inrushOutlastsSettle_iff, Bool.and_eq_true, decide_eq_true_eq]
    constructor
    · rintro ⟨⟨hsite, htiming, hlocal, hrise⟩, hir, hrange, hrestart, hinrush⟩
      exact ⟨hsite, htiming, hlocal, hrise, hir, hrange, fun n => (channelRestartable_iff (hrange n).2.1).mp (hrestart n),
        fun n r => hinrush r n⟩
    · rintro ⟨hsite, htiming, hlocal, hrise, hir, hrange, hrestart, hinrush⟩
      exact ⟨⟨hsite, htiming, hlocal, hrise⟩, hir, hrange, fun n => (channelRestartable_iff (hrange n).2.1).mpr (hrestart n),
        fun r n => hinrush n r⟩
  case refine_3 =>
    refine ⟨?_, fun c hc => imageRead_valid hp h hm hdue hd hc, fun hc => imageRead_invalid hp h hm hdue hd hc⟩
    cases hc : parseImage image with
    | none => exact ⟨_, imageRead_invalid hp h hm hdue hd hc, rfl⟩
    | some c => exact ⟨_, imageRead_valid hp h hm hdue hd hc, rfl⟩
  case refine_4 =>
    have hexec : exec (.memoryReadTimeout t) s = .next (readFails (advance t s)) := rfl
    rw [hexec, advance_reading hp h hm, readFails, if_pos (by exact hp), if_neg (by exact ne_true_of_eq_false hfirst)]
    rfl
  case refine_5 =>
    have hexec : exec (.memoryReadTimeout t) s = .next (readFails (advance t s)) := rfl
    rw [imageRead_invalid (s := { s with rcp := { s.rcp with readDue := some t } }) hp h hm rfl (Nat.le_refl _) parseImage_nil,
      hexec, advance_reading (.inl hp) h hm, readFails, if_pos (by exact .inl hp), if_pos (by exact hagain),
      if_pos (by exact hp)]
    rfl
  case refine_6 =>
    have hexec : exec (.memoryReadTimeout t) s = .next (readFails (advance t s)) := rfl
    have hnot : (s.setNodeTime t).phase ≠ .readImage := by
      change s.phase ≠ .readImage
      rw [hp]
      decide
    rw [recordRead_taken (s := { s with rcp := { s.rcp with readDue := some t } }) [] hp h hm rfl (Nat.le_refl _), parseRecord_nil,
      hexec, advance_reading (.inr hp) h hm, readFails, if_pos (by exact .inr hp), if_pos (by exact hagain), if_neg hnot]
    exact congrArg Host.Outcome.next (finishColdStart_readDue none (s.setNodeTime t) (some t)).symm

end Sys2Proof.Machine

/-! Timers, wire and waits as a part starts them, at the end of the cold start and of a warm reset (R150, R187). -/

namespace Sys2Proof.Machine

variable {s u : State}

/-- The detector as a reset ends (R18, R29). -/
theorem startDetector_eq (s : State) : ∃ count, startDetector s = s.setMp { s.mp with
    det := if configured s = true ∧ active .sensorLost s = false ∧ active .selftestFail s = false then .warmup else .idle
    warmupCount := count } := by
  have hwarm : (configured s && !active .sensorLost s && !active .selftestFail s) = true ↔
      configured s = true ∧ active .sensorLost s = false ∧ active .selftestFail s = false := by
    simp only [Bool.and_eq_true, Bool.not_eq_true', and_assoc]
  unfold startDetector
  by_cases h : (configured s && !active .sensorLost s && !active .selftestFail s) = true
  · rw [if_pos h, if_pos (hwarm.mp h)]
    exact ⟨0, rfl⟩
  · rw [if_neg h, if_neg (mt hwarm.mpr h)]
    exact ⟨s.mp.warmupCount, rfl⟩

theorem place_setDeadlines (e : TxEntry) (s : State) (status : Option Nat) (heard : Nat) (isolated : Option Nat) :
    place e (s.setSlc { s.slc with statusDue := status, lastHeard := heard, heardDue := isolated }) =
      s.setSlc { (place e s).slc with statusDue := status, lastHeard := heard, heardDue := isolated } := by
  unfold place
  change (if hasClass (entryClass e) s.slc.queue then _ else if s.slc.queue.length < 4 then _
    else if entryClass e ≠ 5 ∧ hasClass 5 s.slc.queue = true then _ else _) = _
  repeat' split
  all_goals rfl

/-- The deadlines and the last-heard time are no part of how a STATUS is queued (R5, R45, R52). -/
theorem startTimers_eq (s : State) : startTimers s = { s with
    mp := { s.mp with missingDue := some (s.nodeTime + 100) }
    slc := { (place .status s).slc with
      statusDue := some (s.nodeTime + (cfg s).ps * 10000), lastHeard := s.nodeTime
      heardDue := some (s.nodeTime + threePs s) } } := by
  unfold startTimers queueStatus
  dsimp only
  rw [place_setDeadlines, place_slc .status (u := s.setMp { s.mp with missingDue := some (s.nodeTime + 100) }) (s := s) rfl]
  rfl

/-- The VTU with the wire sensed and the flag taken, at the end of a reset (R84, R85, R96). -/
def vtuSensed (s : State) : VoteState :=
  { s.vtu with
    wire := if s.pins.wireAsserted then .rising else .released
    confirmDue := if s.pins.wireAsserted then some (s.nodeTime + 20) else none
    stuckDue := if s.pins.wireAsserted then some (s.nodeTime + 100000) else none
    armed := s.vtu.armed || (working s && decide (s.vtu.votes < (cfg s).k) &&
      !(s.mp.inProgress && decide ((cfg s).gsolo ≤ s.mp.grade)) && !s.pins.wireAsserted &&
      (match s.vtu.rearmDue with | some d => decide (d ≤ s.nodeTime) | none => true)) }

theorem armed_senseWire (s : State) : armingEval (senseWire s) = s.setVtu (vtuSensed s) := by
  have sensed : senseWire s = s.setVtu { s.vtu with
      wire := if s.pins.wireAsserted then .rising else .released
      confirmDue := if s.pins.wireAsserted then some (s.nodeTime + 20) else none
      stuckDue := if s.pins.wireAsserted then some (s.nodeTime + 100000) else none } := by
    unfold senseWire
    cases s.pins.wireAsserted <;> rfl
  have quiet : ((if s.pins.wireAsserted then WireState.rising else .released) == .released ||
      (if s.pins.wireAsserted then WireState.rising else .released) == .stuck) = !s.pins.wireAsserted := by
    cases s.pins.wireAsserted <;> rfl
  have arms : (working (senseWire s) && mayArm (senseWire s)) = (working s && decide (s.vtu.votes < (cfg s).k) &&
      !(s.mp.inProgress && decide ((cfg s).gsolo ≤ s.mp.grade)) && !s.pins.wireAsserted &&
      (match s.vtu.rearmDue with | some d => decide (d ≤ s.nodeTime) | none => true)) := by
    rw [← quiet, sensed, mayArm_eq, Bool.and_assoc (working s), Bool.and_assoc (working s), Bool.and_assoc (working s)]
    rfl
  rw [armingEval_eq, arms, sensed]
  rfl

/-- The timers started, the own entry PRESENT, the wire sensed and the flag taken, as one state. -/
theorem sensed_eq (s : State) : armingEval (senseWire (ownPresent (startTimers s))) = { s with
    mp := { s.mp with missingDue := some (s.nodeTime + 100) }
    slc := { (place .status s).slc with
      statusDue := some (s.nodeTime + (cfg s).ps * 10000), lastHeard := s.nodeTime
      heardDue := some (s.nodeTime + threePs s) }
    pv := (ownPresent s).pv
    vtu := vtuSensed s } := by
  rw [armed_senseWire, startTimers_eq]
  rfl

theorem peer_ownPresent (s : State) : (peer (ownPresent s) (ownId s)).presence = .present := by
  rw [ownPresent, peer_setPeer_same]

/-! ## The waits -/

theorem zoneKept_startWaits (s : State) : zoneKept (startWaits s) = zoneKept s := by
  unfold startWaits
  split
  · rfl
  · exact zoneKept_recomputeHold s

theorem ZoneMoves.startsWaits (s : State) : ZoneMoves s (startWaits s) := by
  unfold startWaits
  split
  · exact ZoneMoves.refl.setsZs.recomputesStart
  · exact ZoneMoves.refl.recomputesHold

theorem startWaits_starting (h : s.zs.st = .starting) : startWaits s = s.setZs { s.zs with
    startFloor := s.nodeTime + threePs s
    startDue := some (max (s.nodeTime + threePs s) (s.zs.ta + (cfg s).q0 * 10000)) } := by
  rw [startWaits, if_pos h]
  rfl

/-- Where the hold has not run out, it alone moves (R135). -/
theorem startWaits_later (hst : s.zs.st ≠ .starting) (h : s.nodeTime < holdEnd s) : startWaits s =
    if holdRuns s then s.setZs { s.zs with holdDue := some (holdEnd s) } else s := by
  rw [startWaits, if_neg hst, recomputeHold_later h]

theorem startWaits_rests (hst : s.zs.st ≠ .starting) (h : holdRuns s = false) : startWaits s = s := by
  rw [startWaits, if_neg hst, recomputeHold, h]
  rfl

end Sys2Proof.Machine

/-! # The end of the cold start (R85, R112, R116, R131, R134, R187, R188, R194) -/

namespace Sys2Proof.Machine

variable {r : Option TripRecord} {s u w : State}

/-! ## Steps 4 to 6 -/

/-- The RCP with the record read or the lost record (R194). -/
def recordTaken (r : Option TripRecord) (s : State) : RecordState :=
  { s.rcp with record := r.getD lostRecord, readRetry := false, readDue := none, closeWaits := false }

theorem takeRecord_eq (r : Option TripRecord) (s : State) :
    takeRecord r s = (s.setRcp (recordTaken r s)).setHm (takeRecord r s).hm := by
  unfold takeRecord
  dsimp only
  split
  · rfl
  · rw [raiseFault_eq]
    rfl

theorem active_takeRecord (r : Option TripRecord) (s : State) :
    (r = none → active .recordLost (takeRecord r s) = true) ∧
    (∀ f, f ≠ .recordLost → active f (takeRecord r s) = active f s) := by
  cases r with
  | some r => exact ⟨nofun, fun _ _ => rfl⟩
  | none =>
    have hactive (f : FaultId) : active f (takeRecord none s) = hasFault f (putFault .recordLost true s.hm.active) := by
      change active f (raiseFault .recordLost (s.setRcp (recordTaken none s))) = _
      rw [raiseFault, takeHealth_eq]
      rfl
    exact ⟨fun _ => by rw [hactive, hasFault_putFault_same], fun f hf => by rw [hactive, hasFault_putFault_other hf.symm]; rfl⟩

/-- The channels classified with the record taken. -/
def channelsTaken (r : Option TripRecord) (s : State) : State :=
  if configured (takeRecord r s) then classify (takeRecord r s) else takeRecord r s

theorem beforeDetector_taken (r : Option TripRecord) (s : State) :
    beforeDetector r s = takeStartState (channelsTaken r s) := rfl

theorem channelsTaken_eq (r : Option TripRecord) (s : State) : channelsTaken r s =
    ((s.setRcp (recordTaken r s)).setHm (takeRecord r s).hm).setCd (channelsTaken r s).cd := by
  unfold channelsTaken
  rw [takeRecord_eq]
  split <;> rfl

theorem chan_channelsTaken (hv : configured s = true) (c : Channel) : chan (channelsTaken r s) c =
    if (chanCfg s c).enabled then some (classifyChannel (chanCfg s c) (rawAck s c) (r.getD lostRecord).isOpen
      (cfg s).startMode s.nodeTime) else none := by
  have htaken : configured (takeRecord r s) = true := by rw [takeRecord_eq]; exact hv
  unfold channelsTaken
  rw [if_pos htaken, takeRecord_eq]
  exact Vector.getElem_ofFn c.isLt

theorem channelsTaken_unconfigured (hv : configured s = false) : (channelsTaken r s).cd = s.cd := by
  have htaken : configured (takeRecord r s) = false := by rw [takeRecord_eq]; exact hv
  unfold channelsTaken
  rw [htaken, takeRecord_eq]
  rfl

theorem classifyChannel_first (c : ChannelConfig) (high isOpen : Bool) (mode : Mode) (now : Nat) :
    ∃ q, classifyChannel c high isOpen mode now = q ∧ q.cmd = firstCommand mode isOpen c ∧
      q.readsShut = (high != c.inverted) ∧ q.disagree = false ∧
      (q.conf = .confirmed ∨ (q.conf = .pending ∧ c.ackUsed = true ∧ q.ackDue = some (now + c.ackTimeout * 1000))) := by
  refine ⟨_, rfl, ?_⟩
  unfold classifyChannel takeConfirmation
  cases hused : c.ackUsed with
  | false => exact ⟨rfl, rfl, rfl, .inl rfl⟩
  | true =>
    rw [if_neg (by simp)]
    split
    · exact ⟨rfl, rfl, rfl, .inl rfl⟩
    · exact ⟨rfl, rfl, rfl, .inr ⟨rfl, rfl, rfl⟩⟩

/-! ## The first state of the sequencer -/

/-- The state that the sequencer of a configured node starts in (the table of R188). -/
def firstZone (x : State) : SeqRecord :=
  match (cfg x).startMode with
  | .listen => { x.zs with st := .running }
  | .armed =>
    if x.rcp.record.isOpen then { x.zs with st := .watch, currentStage := highestStage x }
    else if allChannels.any (hasCmd .shut x) then { x.zs with st := .starting } else { x.zs with st := .running }

theorem takeStartState_configured {x : State} (h : configured x = true) : takeStartState x =
    (x.setHm { x.hm with mode := (cfg x).startMode }).setZs (firstZone x) := by
  unfold takeStartState firstZone
  rw [if_pos h]
  cases hmode : (cfg x).startMode with
  | listen => rfl
  | armed =>
    dsimp only
    change (if x.rcp.record.isOpen = true then _ else if allChannels.any (hasCmd .shut x) = true then _ else _) = _
    split
    · rfl
    · split <;> rfl

theorem takeStartState_unconfigured {x : State} (h : configured x = false) : takeStartState x = x := by
  unfold takeStartState
  rw [h]
  rfl

theorem highestStage_spec (x : State) :
    (∀ e, (chan x e).isSome = true → (chanCfg x e).shutdownStage ≤ 8 → (chanCfg x e).shutdownStage ≤ highestStage x) ∧
    (highestStage x = 0 ∨ ∃ e, (chan x e).isSome = true ∧ (chanCfg x e).shutdownStage = highestStage x) := by
  have hsorted : (allStages.filter (stageHasChannels x)).Pairwise (· < ·) := (by decide : allStages.Pairwise (· < ·)).filter _
  have hmem (k : Nat) : k ∈ allStages.filter (stageHasChannels x) ↔ 1 ≤ k ∧ k ≤ 8 ∧
      ∃ e, (chan x e).isSome = true ∧ (chanCfg x e).shutdownStage = k := by
    rw [List.mem_filter, stageHasChannels_iff]
    simp only [allStages, List.mem_cons, List.not_mem_nil, or_false]
    constructor
    · rintro ⟨hk, he⟩
      exact ⟨by omega, by omega, he⟩
    · rintro ⟨hlow, hhigh, he⟩
      exact ⟨by omega, he⟩
  unfold highestStage
  generalize allStages.filter (stageHasChannels x) = l at hsorted hmem
  cases hlast : l.getLast? with
  | none =>
    rw [List.getLast?_eq_none_iff] at hlast
    subst hlast
    refine ⟨fun e hsome hle => ?_, .inl rfl⟩
    refine Decidable.byContradiction fun hpos => ?_
    exact List.not_mem_nil ((hmem _).mpr ⟨by have := Nat.pos_of_ne_zero fun h0 => hpos (Nat.le_of_eq h0); exact this, hle, e, hsome, rfl⟩)
  | some k =>
    obtain ⟨init, rfl⟩ := List.getLast?_eq_some_iff.mp hlast
    refine ⟨fun e hsome hle => ?_, .inr ((hmem k).mp (List.mem_append_right _ List.mem_cons_self)).2.2⟩
    by_cases h0 : (chanCfg x e).shutdownStage = 0
    · rw [h0]
      exact Nat.zero_le _
    · have hin := (hmem _).mpr ⟨Nat.pos_of_ne_zero h0, hle, e, hsome, rfl⟩
      rw [List.pairwise_append] at hsorted
      rcases List.mem_append.mp hin with hin | hin
      · exact Nat.le_of_lt (hsorted.2.2 _ hin k List.mem_cons_self)
      · exact Nat.le_of_eq (List.mem_singleton.mp hin)

/-! ## Steps 7 and 8 -/

/-- Behind step 6: the record, the channels, the first state and the mode. -/
theorem beforeDetector_eq (r : Option TripRecord) (s : State) : beforeDetector r s = { s with
    rcp := recordTaken r s, cd := (channelsTaken r s).cd
    zs := if configured s then firstZone (channelsTaken r s) else s.zs
    hm := { (takeRecord r s).hm with mode := if configured s then (cfg s).startMode else (takeRecord r s).hm.mode } } := by
  have htaken := channelsTaken_eq r s
  rw [beforeDetector_taken]
  cases hv : configured s with
  | true =>
    have hv' : configured (channelsTaken r s) = true := by rw [htaken]; exact hv
    have hcfg : cfg (channelsTaken r s) = cfg s := by rw [htaken]; rfl
    rw [takeStartState_configured hv', hcfg]
    generalize firstZone (channelsTaken r s) = z
    rw [htaken]
    rfl
  | false =>
    have hv' : configured (channelsTaken r s) = false := by rw [htaken]; exact hv
    rw [takeStartState_unconfigured hv', htaken]
    rfl

/-- The state from which the waits of step 8 are measured. -/
def beforeWaits (r : Option TripRecord) (s : State) : State :=
  let v := (startDetector (beforeDetector r s)).setPhase .running
  startActivity (armingEval (senseWire (ownPresent (startTimers (v.setMp { v.mp with
    testDue := if configured v then nextTestDue v else none })))))

theorem startedUp_waits (r : Option TripRecord) (s : State) :
    startedUp r s = takeHealth (startWaits (beforeWaits r s)) := rfl

/-- What step 8 finds before its waits, block by block. -/
structure ColdStarted (r : Option TripRecord) (s w : State) : Prop where
  around : w = { s with
    phase := .running, mp := w.mp, pv := (ownPresent s).pv, vtu := w.vtu, cd := w.cd, zs := w.zs
    rcp := recordTaken r s, hm := w.hm
    slc := { (place .status s).slc with
      statusDue := some (s.nodeTime + (cfg s).ps * 10000), lastHeard := s.nodeTime
      heardDue := some (s.nodeTime + threePs s) } }
  cd : w.cd = (channelsTaken r s).cd
  zs : w.zs = if configured s then { firstZone (channelsTaken r s) with
    ta := s.nodeTime, grade := if (r.getD lostRecord).isOpen then (r.getD lostRecord).grade else 0 } else s.zs
  det : w.mp.det =
    if configured s = true ∧ active .sensorLost s = false ∧ active .selftestFail s = false then .warmup else .idle
  test : w.mp.testDue = if configured s then nextTestDue s else none
  missing : w.mp.missingDue = some (s.nodeTime + 100)
  wire : w.vtu.wire = if s.pins.wireAsserted then .rising else .released
  armed : s.vtu = VoteState.reset → s.mp.inProgress = false →
    w.vtu.armed = (configured s && decide (0 < (cfg s).k) && !s.pins.wireAsserted)
  mode : configured s = true → w.hm.mode = (cfg s).startMode
  lost : r = none → active .recordLost w = true
  others : ∀ f, f ≠ .recordLost → active f w = active f s

theorem startActivity_eq (s : State) : startActivity s = s.setZs (if configured s then { s.zs with
    ta := s.nodeTime, grade := if s.rcp.record.isOpen then s.rcp.record.grade else 0 } else s.zs) := by
  unfold startActivity
  split <;> rfl

/-- Step 8 from a state with the parts of the steps before it. -/
theorem coldStarted_of {m : MotionState} {h : HealthState} {v : State} (hv : v = { s with
      phase := .running, mp := m, rcp := recordTaken r s, cd := (channelsTaken r s).cd
      zs := if configured s then firstZone (channelsTaken r s) else s.zs, hm := h })
    (hdet : m.det = if configured s = true ∧ active .sensorLost s = false ∧ active .selftestFail s = false
      then .warmup else .idle)
    (htest : m.testDue = if configured s then nextTestDue s else none) (hprog : m.inProgress = s.mp.inProgress)
    (hmode : configured s = true → h.mode = (cfg s).startMode) (hlost : r = none → hasFault .recordLost h.active = true)
    (hothers : ∀ f, f ≠ .recordLost → hasFault f h.active = active f s) :
    ColdStarted r s (startActivity (armingEval (senseWire (ownPresent (startTimers v))))) := by
  have hplaced : (place .status v).slc = (place .status s).slc := place_slc .status (by rw [hv])
  rw [sensed_eq, startActivity_eq, hplaced, hv]
  refine ⟨rfl, rfl, ?_, hdet, htest, rfl, rfl, fun hvtu hidle => ?_, hmode, hlost, hothers⟩
  · cases hconf : configured s with
    | true => exact if_pos hconf
    | false => exact if_neg (ne_true_of_eq_false hconf)
  · have hnone : m.inProgress = false := hprog.trans hidle
    change (s.vtu.armed || (configured s && decide (s.vtu.votes < (cfg s).k) &&
      !(m.inProgress && decide ((cfg s).gsolo ≤ m.grade)) && !s.pins.wireAsserted &&
      (match s.vtu.rearmDue with | some d => decide (d ≤ s.nodeTime) | none => true))) = _
    rw [hvtu, hnone]
    exact (Bool.and_true _).trans (congrArg (· && !s.pins.wireAsserted) (Bool.and_true _))

theorem beforeWaits_started (r : Option TripRecord) (s : State) : ColdStarted r s (beforeWaits r s) := by
  have hbefore := beforeDetector_eq r s
  obtain ⟨count, hdet⟩ := startDetector_eq (beforeDetector r s)
  obtain ⟨hlost, hothers⟩ := active_takeRecord r s
  have hsensor : active .sensorLost (beforeDetector r s) = active .sensorLost s := by
    rw [hbefore]; exact hothers .sensorLost nofun
  have htest : active .selftestFail (beforeDetector r s) = active .selftestFail s := by
    rw [hbefore]; exact hothers .selftestFail nofun
  have hconf : configured (beforeDetector r s) = configured s := by rw [hbefore]; rfl
  rw [hsensor, htest, hconf] at hdet
  unfold beforeWaits
  dsimp only
  rw [hdet, hbefore]
  exact coldStarted_of rfl rfl rfl rfl (fun h => if_pos h) hlost hothers

/-! ## The first state, case by case -/

theorem anyShut_iff (hv : configured s = true) (hmode : (cfg s).startMode = .armed)
    (hopen : (r.getD lostRecord).isOpen = false) : allChannels.any (hasCmd .shut (channelsTaken r s)) = true ↔
      ∃ e : Channel, (chanCfg s e).enabled = true ∧ (chanCfg s e).kind = .permit := by
  have hshut (e : Channel) : hasCmd .shut (channelsTaken r s) e = true ↔
      (chanCfg s e).enabled = true ∧ (chanCfg s e).kind = .permit := by
    rw [hasCmd_iff, chan_channelsTaken hv, hmode, hopen]
    split
    case isFalse hoff => simp [hoff]
    case isTrue hon =>
      obtain ⟨q, hq, hcmd, -⟩ := classifyChannel_first (chanCfg s e) (rawAck s e) false .armed s.nodeTime
      rw [hq]
      simp only [Option.some.injEq, exists_eq_left', hcmd, hon, true_and]
      unfold firstCommand
      cases (chanCfg s e).kind with
      | permit => exact ⟨fun _ => rfl, fun _ => rfl⟩
      | request => exact ⟨nofun, nofun⟩
  simp only [List.any_eq_true, mem_allChannels, true_and, hshut]

theorem firstZone_listen (hmode : (cfg s).startMode = .listen) :
    firstZone (channelsTaken r s) = { s.zs with st := .running } := by
  have hcfg : cfg (channelsTaken r s) = cfg s := by rw [channelsTaken_eq]; rfl
  unfold firstZone
  rw [hcfg, hmode, channelsTaken_eq]
  rfl

theorem firstZone_open (hmode : (cfg s).startMode = .armed) (hopen : (r.getD lostRecord).isOpen = true) :
    firstZone (channelsTaken r s) =
      { s.zs with st := .watch, currentStage := highestStage (channelsTaken r s) } := by
  have hcfg : cfg (channelsTaken r s) = cfg s := by rw [channelsTaken_eq]; rfl
  have hrecord : (channelsTaken r s).rcp.record.isOpen = true := by rw [channelsTaken_eq]; exact hopen
  have hzs : (channelsTaken r s).zs = s.zs := by rw [channelsTaken_eq]; rfl
  unfold firstZone
  rw [hcfg, hmode]
  dsimp only
  rw [if_pos hrecord, hzs]

theorem firstZone_closed (hmode : (cfg s).startMode = .armed) (hopen : (r.getD lostRecord).isOpen = false) :
    firstZone (channelsTaken r s) = if allChannels.any (hasCmd .shut (channelsTaken r s))
      then { s.zs with st := .starting } else { s.zs with st := .running } := by
  have hcfg : cfg (channelsTaken r s) = cfg s := by rw [channelsTaken_eq]; rfl
  have hrecord : (channelsTaken r s).rcp.record.isOpen = false := by rw [channelsTaken_eq]; exact hopen
  have hzs : (channelsTaken r s).zs = s.zs := by rw [channelsTaken_eq]; rfl
  unfold firstZone
  rw [hcfg, hmode]
  dsimp only
  rw [if_neg (ne_true_of_eq_false hrecord), hzs]

namespace ColdStarted

theorem cfg_eq (h : ColdStarted r s w) : cfg w = cfg s := by rw [h.around]; rfl

theorem firstState (h : ColdStarted r s w) (hzs : s.zs = SeqRecord.reset) :
    w.zs.st ≠ .paused ∧ (w.zs.st = .watch → (r.getD lostRecord).isOpen = true) := by
  cases hv : configured s with
  | false =>
    rw [h.zs, if_neg (ne_true_of_eq_false hv), hzs]
    exact ⟨nofun, nofun⟩
  | true =>
    have hst : w.zs.st = (firstZone (channelsTaken r s)).st := by rw [h.zs, if_pos hv]
    rw [hst]
    cases hmode : (cfg s).startMode with
    | listen => rw [firstZone_listen hmode]; exact ⟨nofun, nofun⟩
    | armed =>
      cases hopen : (r.getD lostRecord).isOpen with
      | true => exact ⟨by rw [firstZone_open hmode hopen]; nofun, fun _ => rfl⟩
      | false =>
        rw [firstZone_closed hmode hopen]
        split <;> exact ⟨nofun, nofun⟩

theorem rests_of_not_watch (h : ColdStarted r s w) (hzs : s.zs = SeqRecord.reset) (hst : w.zs.st ≠ .watch) :
    holdRuns w = false := by
  simp [holdRuns, hst, (h.firstState hzs).1]

theorem ta (h : ColdStarted r s w) (hv : configured s = true) : w.zs.ta = s.nodeTime := by rw [h.zs, if_pos hv]

theorem configured_of_watch (h : ColdStarted r s w) (hzs : s.zs = SeqRecord.reset) (hst : w.zs.st = .watch) :
    configured s = true := by
  refine Decidable.byContradiction fun hv => ?_
  rw [h.zs, if_neg hv, hzs] at hst
  exact absurd hst (by decide)

/-- The hold runs from step 8 where an open record is read, and has not run out unless it is of no time. -/
theorem hold (h : ColdStarted r s w) (hzs : s.zs = SeqRecord.reset)
    (hcalm : holdsAboveZero (cfg s) = true ∨ (r.getD lostRecord).isOpen = false) (hst : w.zs.st = .watch) :
    w.nodeTime < holdEnd w := by
  have hopen := (h.firstState hzs).2 hst
  have hlong : holdsAboveZero (cfg s) = true := hcalm.resolve_right (by rw [hopen]; decide)
  have hta : w.zs.ta = s.nodeTime := h.ta (h.configured_of_watch hzs hst)
  have hnow : w.nodeTime = s.nodeTime := (congrArg State.nodeTime h.around :)
  exact hold_later (by rw [h.cfg_eq]; exact hlong) (Nat.le_of_eq (hnow.trans hta.symm))

/-- The end of the cold start where the hold does not run out at once. -/
theorem waits (h : ColdStarted r s w) (hzs : s.zs = SeqRecord.reset)
    (hcalm : holdsAboveZero (cfg s) = true ∨ (r.getD lostRecord).isOpen = false) :
    ∃ z, startWaits w = w.setZs z ∧ z.st = w.zs.st ∧ z.grade = w.zs.grade ∧ z.currentStage = w.zs.currentStage ∧
      (w.zs.st = .watch → z.holdDue = some (holdEnd w)) := by
  by_cases hst : w.zs.st = .starting
  · rw [startWaits_starting hst]
    exact ⟨_, rfl, rfl, rfl, rfl, fun hwatch => absurd (hst.symm.trans hwatch) (by decide)⟩
  · by_cases hwatch : w.zs.st = .watch
    · have hruns : holdRuns w = true := by rw [holdRuns, hwatch]; rfl
      rw [startWaits_later hst (h.hold hzs hcalm hwatch), if_pos hruns]
      exact ⟨_, rfl, rfl, rfl, rfl, fun _ => rfl⟩
    · rw [startWaits_rests hst (h.rests_of_not_watch hzs hwatch)]
      exact ⟨w.zs, rfl, rfl, rfl, rfl, fun h => absurd h hwatch⟩

/-- A DISABLED channel stays so through the waits, also where a hold of no time runs out. -/
theorem disabled (h : ColdStarted r s w) (hzs : s.zs = SeqRecord.reset) (hv : configured s = true) {e : Channel}
    (hoff : (chanCfg s e).enabled = false) :
    chan (startWaits w) e = none := by
  have hnone : chan w e = none := by
    have hchan := chan_channelsTaken (r := r) hv e
    rw [hoff] at hchan
    rw [chan, h.cd]
    exact hchan
  have stands : StandsOrRuns e w (startWaits w) := by
    by_cases hst : w.zs.st = .starting
    · rw [startWaits_starting hst]
      exact .inl rfl
    · by_cases hwatch : w.zs.st = .watch
      · rw [startWaits, if_neg hst]
        exact StandsOrRuns.endsWatch e hwatch
      · rw [startWaits_rests hst (h.rests_of_not_watch hzs hwatch)]
        exact .inl rfl
  refine stands.elim (fun h => h.trans hnone) fun hruns => ?_
  have hshut := hruns.1
  rw [hasCmd, hnone] at hshut
  cases hshut

theorem firstRuns (h : ColdStarted r s w) (hv : configured s = true) {e : Channel}
    (hon : (chanCfg s e).enabled = true) :
    ∃ q, chan w e = some q ∧ q.cmd = firstCommand (cfg s).startMode (r.getD lostRecord).isOpen (chanCfg s e) ∧
      q.readsShut = (rawAck s e != (chanCfg s e).inverted) ∧ q.disagree = false ∧
      (q.conf = .confirmed ∨ (q.conf = .pending ∧ (chanCfg s e).ackUsed = true ∧
        q.ackDue = some (s.nodeTime + (chanCfg s e).ackTimeout * 1000))) := by
  obtain ⟨q, hq, hfirst⟩ := classifyChannel_first (chanCfg s e) (rawAck s e) (r.getD lostRecord).isOpen
    (cfg s).startMode s.nodeTime
  have hchan := chan_channelsTaken (r := r) hv e
  rw [if_pos hon, hq] at hchan
  refine ⟨q, ?_, hfirst⟩
  rw [chan, h.cd]
  exact hchan

/-- The state in which the cold start ends, block by block; `calm` is what keeps a hold from running out at once. -/
structure Ended (r : Option TripRecord) (s w u : State) (calm : Prop) : Prop where
  kept : zoneKept u = zoneKept w
  ta : u.zs.ta = w.zs.ta
  rests : w.zs.st ≠ .watch → u.zs.st = w.zs.st ∧ u.zs.grade = w.zs.grade ∧ u.cd = w.cd
  calm : calm → u.rcp = w.rcp ∧ u.cd = w.cd ∧ u.slc = w.slc ∧ (∀ f, active f u = active f w) ∧ u.zs.st = w.zs.st ∧
    u.zs.grade = w.zs.grade ∧ u.zs.currentStage = w.zs.currentStage ∧ (w.zs.st = .watch → u.zs.holdDue = some (holdEnd w))
  starting : w.zs.st = .starting → u.zs.startDue = some (max (w.nodeTime + threePs w) (w.zs.ta + (cfg w).q0 * 10000))
  disabled : configured s = true → ∀ e, (chanCfg s e).enabled = false → chan u e = none

theorem ended (h : ColdStarted r s w) (hzs : s.zs = SeqRecord.reset) : Ended r s w (takeHealth (startWaits w))
    (holdsAboveZero (cfg s) = true ∨ (r.getD lostRecord).isOpen = false) where
  kept := (zoneKept_takeHealth _).trans (zoneKept_startWaits w)
  ta := by
    rw [takeHealth_eq]
    exact (ZoneMoves.startsWaits w).ta_consoleHold.1
  rests hst := by
    rw [takeHealth_eq]
    by_cases hstart : w.zs.st = .starting
    · rw [startWaits_starting hstart]
      exact ⟨rfl, rfl, rfl⟩
    · rw [startWaits_rests hstart (h.rests_of_not_watch hzs hst)]
      exact ⟨rfl, rfl, rfl⟩
  calm hcalm := by
    obtain ⟨z, heq, hst, hgrade, hcurrent, hdue⟩ := h.waits hzs hcalm
    rw [takeHealth_eq, heq]
    exact ⟨rfl, rfl, rfl, fun _ => rfl, hst, hgrade, hcurrent, hdue⟩
  starting hst := by
    rw [takeHealth_eq, startWaits_starting hst]
    rfl
  disabled hv e hoff := by
    rw [takeHealth_eq]
    exact h.disabled hzs hv hoff

end ColdStarted

/-- A cold start that ends with the reset input asserted ends in a warm reset (R187). -/
theorem beginWarmReset_started (x : State) : (beginWarmReset x).phase = .warmReset ∧
    (x.rcp.closeWaits = false → (beginWarmReset x).rcp.record = x.rcp.record) ∧ (beginWarmReset x).pins = x.pins ∧
    (beginWarmReset x).pending = x.pending := by
  obtain ⟨-, -, -, -, hpins, -, hpending⟩ := zoneKept_fields (zoneKept_takeWaitingClose x)
  rw [← beginWarmReset_takeWaitingClose, beginWarmReset_eq (takeWaitingClose_closeWaits x)]
  refine ⟨rfl, fun hw => ?_, hpins, hpending⟩
  rw [takeWaitingClose, hw]
  rfl

theorem firstCommand_eq (mode : Mode) (isOpen : Bool) (c : ChannelConfig) : firstCommand mode isOpen c =
    match mode, c.kind with
    | .listen, _ => .run
    | .armed, .permit => .shut
    | .armed, .request => if isOpen = true ∧ c.shutdownStage ≠ 0 then .shut else .run := by
  unfold firstCommand
  cases mode with
  | listen => rfl
  | armed =>
    cases c.kind with
    | permit => rfl
    | request => simp

theorem testDue_eq (s : State) (t : Nat) : (if configured (s.setNodeTime t) then nextTestDue (s.setNodeTime t) else none) =
    if s.rcp.config.isSome = true ∧ (cfg s).testHours ≠ 0 then some (t + (cfg s).testHours * 36000000) else none := by
  by_cases hv : s.rcp.config.isSome = true
  · rw [if_pos (by exact hv), nextTestDue]
    by_cases h0 : (cfg s).testHours = 0
    · rw [if_pos (by exact h0), if_neg fun h => h.2 h0]
    · rw [if_neg (by exact h0), if_pos ⟨hv, h0⟩]
      rfl
  · rw [if_neg (by exact hv), if_neg fun h => hv h.1]

/-- Settles O48. -/
theorem coldStartEnds : Obligations.ColdStartEnds := by
  unfold Obligations.ColdStartEnds
  intro t d bytes s hp hlate hmax hdue hd hvtu hzs hprog hcd r c valid open_ calm anyShut
  have hexec := recordRead_taken bytes hp hlate hmax hdue hd
  have started := beforeWaits_started (parseRecord bytes) (s.setNodeTime t)
  have ended := started.ended hzs
  rw [finishColdStart_eq, startedUp_waits] at hexec
  generalize beforeWaits (parseRecord bytes) (s.setNodeTime t) = w at started ended hexec
  generalize takeHealth (startWaits w) = u at ended hexec
  obtain ⟨htime, hmp, hpv, hvtuKept, hpins, hphase, hpending⟩ := zoneKept_fields ended.kept
  have hslc := zoneKept_slc ended.kept
  have hstation := (zoneKept_rcp ended.kept).2.2.1
  have hwpins : w.pins = s.pins := by rw [started.around]; rfl
  have hwpending : w.pending = s.pending := by rw [started.around]; rfl
  have hwrcp : w.rcp = recordTaken (parseRecord bytes) s := by rw [started.around]; rfl
  refine ⟨fun hreset => ⟨_, hexec.trans (congrArg _ (if_pos ?_)), ?_⟩, fun hreset => ⟨u, hexec.trans (congrArg _ (if_neg ?_)), ?_⟩⟩
  · rw [hpins, hwpins]; exact hreset
  · obtain ⟨hresetPhase, hrecord, hresetPins, hresetPending⟩ := beginWarmReset_started u
    refine ⟨hresetPhase, fun hcalm => ?_, hresetPins.trans (hpins.trans hwpins), hresetPending.trans (hpending.trans hwpending)⟩
    have hrcp : u.rcp = recordTaken (parseRecord bytes) s := (ended.calm hcalm).1.trans hwrcp
    rw [hrecord (by rw [hrcp]; rfl), hrcp]
    rfl
  · rw [hpins, hwpins, hreset]; decide
  have hwtime : w.nodeTime = t := by rw [started.around]; rfl
  have hunvalid (h : ¬valid) : configured (s.setNodeTime t) = false := Bool.eq_false_iff.mpr h
  have hta (h : valid) : w.zs.ta = t := started.ta h
  have hgrade (h : valid) : w.zs.grade = if r.isOpen then r.grade else 0 := by rw [started.zs, if_pos (by exact h)]
  have hzone (h : valid) : w.zs.st = (firstZone (channelsTaken (parseRecord bytes) (s.setNodeTime t))).st := by
    rw [started.zs, if_pos (by exact h)]
  have hnoWatch (h : w.zs.st ≠ .watch) : u.zs.st = w.zs.st := (ended.rests h).1
  have hcalmSt (hcalm : calm) : u.zs.st = w.zs.st := by
    obtain ⟨-, -, -, -, hst, -⟩ := ended.calm hcalm
    exact hst
  have hlive (hv : valid) (e : Channel) : (chan w e).isSome = true ↔ (chanCfg s e).enabled = true := by
    have hchan := chan_channelsTaken (r := parseRecord bytes) (s := s.setNodeTime t) hv e
    have hw : chan w e = chan (channelsTaken (parseRecord bytes) (s.setNodeTime t)) e := by rw [chan, started.cd]; rfl
    rw [hw, hchan]
    by_cases hon : (chanCfg s e).enabled = true
    · rw [if_pos (by exact hon)]
      exact ⟨fun _ => hon, fun _ => rfl⟩
    · rw [if_neg (by exact hon)]
      exact ⟨nofun, fun h => absurd h hon⟩
  refine ⟨hpins.trans hwpins, hpending.trans hwpending, hphase.trans (by rw [started.around]), htime.trans hwtime,
    fun hcalm => (ended.calm hcalm).1.trans hwrcp, fun hnone => ?_, fun hcalm f hf => ?_, fun hv => ?_, fun hv => ⟨?_, ?_⟩,
    fun hv hcalm => ?_, fun hv hmode => ?_, fun hv hmode hopen hcalm => ?_, fun hv hmode hopen hany => ?_,
    fun hv hmode hopen hnone => ?_, fun hv e hoff => ended.disabled hv e hoff, fun hv hcalm e hon => ?_, fun hv => ?_, ?_, ?_, ?_,
    ?_, ?_, fun hcalm => ?_, ?_, ?_, fun hv hk => ?_⟩
  case refine_1 => rw [zoneKept_active ended.kept .recordLost nofun]; exact started.lost hnone
  case refine_2 =>
    obtain ⟨-, -, -, hactive, -⟩ := ended.calm hcalm
    exact (hactive f).trans (started.others f hf)
  case refine_3 =>
    have hz : w.zs = s.zs := by rw [started.zs, hunvalid hv]; rfl
    have hst : w.zs.st = .unconfigured := by rw [hz, hzs]; rfl
    obtain ⟨hust, -, hucd⟩ := ended.rests (by rw [hst]; decide)
    refine ⟨hust.trans hst, fun e => ?_, ?_, ?_⟩
    · have hnone : u.cd = ChannelState.reset :=
        hucd.trans (started.cd.trans ((channelsTaken_unconfigured (hunvalid hv)).trans hcd))
      rw [chan, hnone]
      exact Vector.getElem_replicate e.isLt
    · rw [hvtuKept, started.armed hvtu hprog, hunvalid hv]
      rfl
    · rw [hmp, started.det, hunvalid hv]
      rfl
  case refine_4 => exact (zoneKept_hm ended.kept).1.trans (started.mode hv)
  case refine_5 => exact ended.ta.trans (hta hv)
  case refine_6 =>
    obtain ⟨-, -, -, -, -, hug, -⟩ := ended.calm hcalm
    exact hug.trans (hgrade hv)
  case refine_7 =>
    have hst : w.zs.st = .running := by rw [hzone hv, firstZone_listen (s := s.setNodeTime t) hmode]
    exact (hnoWatch (by rw [hst]; decide)).trans hst
  case refine_8 =>
    obtain ⟨-, hucd, -, -, hust, -, hcurrent, hdue⟩ := ended.calm hcalm
    have hfirst := firstZone_open (r := parseRecord bytes) (s := s.setNodeTime t) hmode hopen
    have hst : w.zs.st = .watch := by rw [hzone hv, hfirst]
    have hend : holdEnd w = t + holdSeconds c r.grade * 10000 := by
      rw [holdEnd, hta hv, hgrade hv, if_pos hopen, started.cfg_eq]
      rfl
    have hstage : u.zs.currentStage = highestStage (channelsTaken (parseRecord bytes) (s.setNodeTime t)) := by
      rw [hcurrent, started.zs, if_pos (by exact hv), hfirst]
    have hchan (e : Channel) : chan u e = chan (channelsTaken (parseRecord bytes) (s.setNodeTime t)) e := by
      rw [chan, hucd, started.cd]
      rfl
    have hcfg (e : Channel) : chanCfg (channelsTaken (parseRecord bytes) (s.setNodeTime t)) e = chanCfg s e := by
      rw [channelsTaken_eq]
      rfl
    obtain ⟨hall, hsome⟩ := highestStage_spec (channelsTaken (parseRecord bytes) (s.setNodeTime t))
    simp only [← hstage, ← hchan, hcfg] at hall hsome
    exact ⟨hust.trans hst, (hdue hst).trans (congrArg some hend), hall, hsome⟩
  case refine_9 =>
    have hclosed : r.isOpen = false := Bool.eq_false_iff.mpr hopen
    have hshut := (anyShut_iff (r := parseRecord bytes) (s := s.setNodeTime t) hv hmode hclosed).mpr hany
    have hst : w.zs.st = .starting := by rw [hzone hv, firstZone_closed (s := s.setNodeTime t) hmode hclosed, if_pos hshut]
    refine ⟨(hnoWatch (by rw [hst]; decide)).trans hst, (ended.starting hst).trans ?_⟩
    rw [hwtime, hta hv, threePs, started.cfg_eq]
    rfl
  case refine_10 =>
    have hclosed : r.isOpen = false := Bool.eq_false_iff.mpr hopen
    have hshut := mt (anyShut_iff (r := parseRecord bytes) (s := s.setNodeTime t) hv hmode hclosed).mp hnone
    have hst : w.zs.st = .running := by rw [hzone hv, firstZone_closed (s := s.setNodeTime t) hmode hclosed, if_neg hshut]
    exact (hnoWatch (by rw [hst]; decide)).trans hst
  case refine_11 =>
    obtain ⟨-, hucd, -⟩ := ended.calm hcalm
    obtain ⟨q, hq, hcmd, hreads, hdisagree, hconf⟩ := started.firstRuns hv hon
    exact ⟨q, by rw [chan, hucd]; exact hq, hcmd.trans (firstCommand_eq ..), hreads, hdisagree, hconf⟩
  case refine_12 =>
    rw [hmp, started.det]
    change (if configured s = true ∧ active .sensorLost s = false ∧ active .selftestFail s = false then DetState.warmup else .idle) = _
    have hconf : configured s = true := hv
    cases active .sensorLost s <;> cases active .selftestFail s <;> simp [hconf]
  case refine_13 =>
    rw [hmp, started.test]
    exact testDue_eq s t
  case refine_14 => rw [hmp]; exact started.missing
  case refine_15 => rw [hslc, started.around]; rfl
  case refine_16 => rw [hslc, started.around]; rfl
  case refine_17 => rw [hslc, started.around]; rfl
  case refine_18 =>
    obtain ⟨-, -, huslc, -⟩ := ended.calm hcalm
    rw [huslc, started.around]
    have hplaced := place_slc .status (u := s.setNodeTime t) (s := s) rfl
    exact (congrArg LineCtl.queue hplaced :)
  case refine_19 =>
    have hpeer : peer u (ownId s) = peer (ownPresent (s.setNodeTime t)) (ownId (s.setNodeTime t)) := by
      rw [peer, hpv, started.around]
      rfl
    rw [hpeer, peer_ownPresent]
  case refine_20 => rw [hvtuKept]; exact started.wire
  case refine_21 =>
    have hconf : configured (s.setNodeTime t) = true := hv
    rw [hvtuKept, started.armed hvtu hprog, hconf, decide_eq_true (by exact hk)]
    rfl

end Sys2Proof.Machine

/-! # The end of a warm reset (R114, R129, R144, R150, R199) -/

namespace Sys2Proof.Machine

variable {s u w x : State} {c : Channel}

/-! ## What starts before the level tests -/

/-- What the end of a warm reset finds before its level tests, block by block. -/
structure ResetSet (s w : State) : Prop where
  around : w = { s with
    phase := .running, mp := w.mp, pv := (ownPresent s).pv, vtu := w.vtu, zs := w.zs, rcp := w.rcp
    slc := { (place .status s).slc with
      statusDue := some (s.nodeTime + (cfg s).ps * 10000), lastHeard := s.nodeTime
      heardDue := some (s.nodeTime + threePs s) } }
  det : w.mp.det =
    if configured s = true ∧ active .sensorLost s = false ∧ active .selftestFail s = false then .warmup else .idle
  missing : w.mp.missingDue = some (s.nodeTime + 100)
  wire : w.vtu.wire = if s.pins.wireAsserted then .rising else .released
  armed : w.vtu.armed = (s.vtu.armed || (configured s && decide (s.vtu.votes < (cfg s).k) &&
    !(s.mp.inProgress && decide ((cfg s).gsolo ≤ s.mp.grade)) && !s.pins.wireAsserted &&
    (match s.vtu.rearmDue with | some d => decide (d ≤ s.nodeTime) | none => true)))
  zs : w.zs = if configured s then { s.zs with
    resetDue := some (s.nodeTime + threePs s)
    gapDue := s.zs.gapDue.map (fun _ => s.nodeTime + (cfg s).shutdownGap * 1000) } else s.zs
  rcp : w.rcp = if s.rcp.writeInFlight then (startWrite false s).rcp else s.rcp

/-- The state whose channels the end of a warm reset tests. -/
def beforeTests (s : State) : State :=
  endResetRecord (endResetSequencer (armingEval (senseWire (ownPresent (startTimers (startDetector (s.setPhase .running)))))))

theorem endWarmReset_tests (s : State) : endWarmReset s =
    takeHealth (startWaits (endResetCauses (endResetChannels (beforeTests s)))) := rfl

theorem endResetSequencer_eq (s : State) : endResetSequencer s = s.setZs (if configured s then { s.zs with
    resetDue := some (s.nodeTime + threePs s)
    gapDue := s.zs.gapDue.map (fun _ => s.nodeTime + (cfg s).shutdownGap * 1000) } else s.zs) := by
  unfold endResetSequencer
  split <;> rfl

theorem endResetRecord_eq (s : State) : endResetRecord s =
    s.setRcp (if s.rcp.writeInFlight then (startWrite false s).rcp else s.rcp) := by
  unfold endResetRecord
  split <;> rfl

theorem beforeTests_set (s : State) : ResetSet s (beforeTests s) := by
  obtain ⟨count, hdet⟩ := startDetector_eq (s.setPhase .running)
  have hplaced (m : MotionState) : (place .status ((s.setPhase .running).setMp m)).slc = (place .status s).slc :=
    place_slc .status rfl
  unfold beforeTests
  rw [hdet, sensed_eq, hplaced, endResetSequencer_eq, endResetRecord_eq]
  refine ⟨rfl, rfl, rfl, rfl, rfl, rfl, rfl⟩

/-! ## No restart stage begins until the reset deadline -/

/-- No restart stage can begin: the reset deadline runs, or the node is UNCONFIGURED and has none (R174, R191). -/
def StageHeld (s : State) : Prop := s.zs.resetDue.isSome = true ∨ configured s = false

theorem ResetSet.held (h : ResetSet s w) : StageHeld w := by
  cases hv : configured s with
  | true => exact .inl (by rw [h.zs, if_pos hv]; rfl)
  | false => exact .inr (by rw [h.around, configured, h.rcp]; split <;> exact hv)

theorem StageHeld.of (h : StageHeld s) (hdue : u.zs.resetDue = s.zs.resetDue := by rfl)
    (hconf : u.rcp.config = s.rcp.config := by rfl) : StageHeld u := by
  refine h.imp (fun h => by rw [hdue]; exact h) fun h => ?_
  rw [configured, hconf]
  exact h

/-- A channel of an UNCONFIGURED node belongs to no restart stage. -/
theorem nextStageToRun_unconfigured (h : configured s = false) : nextStageToRun s = none := by
  refine nextStageToRun_none fun r hlow _ _ => List.eq_nil_iff_forall_not_mem.mpr fun c hc => ?_
  have hnone : s.rcp.config = none := Option.not_isSome_iff_eq_none.mp (ne_true_of_eq_false h)
  have hstage := ((mem_shutInRestart r s c).mp hc).2
  have hdefault : (chanCfg s c).restartStage = 0 := by
    rw [chanCfg, cfg, hnone]
    exact congrArg ChannelConfig.restartStage (Vector.getElem_replicate c.isLt)
  omega

/-- A beginning that is held back pauses, or finds no stage and completes the restart (R174, R175, R182). -/
theorem StageHeld.beginStage (h : StageHeld s) : (∃ causes : Causes, (causes.line = false ∧ causes.precheck = false) ∧
      beginStage s = pauseWith causes (stageLeft s)) ∨ beginStage s = completeRestart (stageLeft s) := by
  cases hconsole : s.zs.consoleHold with
  | true => exact .inl ⟨_, ⟨rfl, rfl⟩, beginStage_console hconsole⟩
  | false =>
    cases hreset : s.zs.resetDue with
    | some d => exact .inl ⟨_, ⟨rfl, rfl⟩, beginStage_reset hconsole (by rw [hreset]; rfl)⟩
    | none =>
      have hconf : configured s = false := h.resolve_left (by rw [hreset]; decide)
      have hnone : nextStageToRun (stageLeft s) = none := nextStageToRun_unconfigured hconf
      refine .inr ?_
      rw [beginStage_free ⟨hconsole, hreset⟩, hnone]

/-- Neither LINE nor PRECHECK, which the end of a warm reset takes out of a pause (R150), is a cause or held back. -/
structure LineFree (z : SeqRecord) : Prop where
  pause : z.pause.line = false ∧ z.pause.precheck = false
  held : z.held.line = false ∧ z.held.precheck = false

/-- `u` follows `s` by what the end of a warm reset has the zone do: no frame but STATUS is queued, the reset deadline
and the configuration stand, and neither LINE nor PRECHECK comes into a pause. -/
structure EndsReset (s u : State) : Prop where
  status : InOrder s.slc.queue → .status ∈ s.slc.queue → InOrder u.slc.queue ∧ .status ∈ u.slc.queue
  due : u.zs.resetDue = s.zs.resetDue
  config : u.rcp.config = s.rcp.config
  free : LineFree s.zs → LineFree u.zs

namespace EndsReset

theorem refl : EndsReset s s := ⟨fun ho hs => ⟨ho, hs⟩, rfl, rfl, id⟩

theorem held (h : EndsReset s u) (hs : StageHeld s) : StageHeld u := hs.of h.due h.config

/-- The queue, the reset deadline, the configuration and the causes stand unless another proof is given. -/
theorem of (h : EndsReset s u) (hslc : x.slc = u.slc := by rfl) (hdue : x.zs.resetDue = u.zs.resetDue := by rfl)
    (hconf : x.rcp.config = u.rcp.config := by rfl) (hpause : x.zs.pause = u.zs.pause := by rfl)
    (hheld : x.zs.held = u.zs.held := by rfl) : EndsReset s x where
  status := by rw [hslc]; exact h.status
  due := hdue.trans h.due
  config := hconf.trans h.config
  free hs := ⟨by rw [hpause]; exact (h.free hs).pause, by rw [hheld]; exact (h.free hs).held⟩

/-- Another pause-cause set. -/
theorem setsPause (h : EndsReset s u) {causes : Causes} (hc : LineFree s.zs → causes.line = false ∧ causes.precheck = false) :
    EndsReset s (u.setZs { u.zs with pause := causes }) :=
  ⟨h.status, h.due, h.config, fun hs => ⟨hc hs, (h.free hs).held⟩⟩

theorem queuesStatus (h : EndsReset s u) : EndsReset s (queueStatus u) where
  status ho hs := by
    obtain ⟨order, status⟩ := h.status ho hs
    refine ⟨order.place .status, ?_⟩
    rcases mem_place .status order with hin | ⟨-, -, heq⟩
    · exact hin
    · rw [queueStatus, heq]
      exact status
  due := by rw [queueStatus, place_setSlc]; exact h.due
  config := by rw [queueStatus, place_setSlc]; exact h.config
  free := by rw [queueStatus, place_setSlc]; exact h.free

theorem enters (h : EndsReset s u) (q : SeqState) : EndsReset s (enterState q u) := by
  unfold enterState
  split
  · exact h
  · exact queuesStatus (h.of (x := u.setZs { u.zs with st := q }))

theorem pauses (h : EndsReset s u) {causes : Causes} (hc : LineFree s.zs → causes.line = false ∧ causes.precheck = false) :
    EndsReset s (pauseWith causes u) := (h.setsPause hc).enters .paused

theorem completesRestart (h : EndsReset s u) : EndsReset s (completeRestart u) := by
  have left := (h.of (x := u.setZs { u.zs with
    grade := 0, currentStage := 0, nextRestart := 1, checkedStage := none, waiver := none })).enters .running
  unfold completeRestart
  generalize enterState .running _ = v at left ⊢
  exact left.of (by rw [rcpClose_eq]; rfl) (by rw [rcpClose_eq]; rfl)
    (congrArg (fun x => x.rcp.config) (zoneKept_rcpClose v) :) (by rw [rcpClose_eq]; rfl) (by rw [rcpClose_eq]; rfl)

theorem beginsStage (h : EndsReset s u) (hs : StageHeld s) : EndsReset s (beginStage u) := by
  have unpaused := h.setsPause (causes := noCauses) fun _ => ⟨rfl, rfl⟩
  have left : EndsReset s (stageLeft u) := unpaused.of
  rcases (h.held hs).beginStage with ⟨causes, hc, heq⟩ | heq
  · rw [heq]; exact left.pauses fun _ => hc
  · rw [heq]; exact left.completesRestart

theorem leavesPause (h : EndsReset s u) (hs : StageHeld s) : EndsReset s (leavePause u) := by
  unfold leavePause
  split
  · exact h.beginsStage hs
  · exact h

theorem holdFallsDue (h : EndsReset s u) (hs : StageHeld s) : EndsReset s (holdFalls u) := by
  have left : EndsReset s (u.setZs { u.zs with holdDue := none }) := h.of
  unfold holdFalls
  dsimp only
  split
  · split
    · exact left.enters .awaitPermit
    · exact left.beginsStage hs
  · have without := h.setsPause (causes := { u.zs.pause with aftershock := false }) fun hs => (h.free hs).pause
    exact leavesPause without.of hs
  all_goals exact left

theorem recomputesHold (h : EndsReset s u) (hs : StageHeld s) : EndsReset s (recomputeHold u) := by
  unfold recomputeHold
  split
  · split
    · exact h.holdFallsDue hs
    · exact h.of
  · exact h

theorem entersPaused (h : EndsReset s u) (hs : StageHeld s) {causes : Causes}
    (hc : LineFree s.zs → causes.line = false ∧ causes.precheck = false) : EndsReset s (enterPaused causes u) :=
  (h.pauses hc).recomputesHold hs

theorem commands (h : EndsReset s u) (named : List Channel) (cmd : ChanCmd) : EndsReset s (stageCommand named cmd u) :=
  h.of (by rw [stageCommand_eq]; rfl) (by rw [stageCommand_eq]; rfl) (by rw [stageCommand_eq]; rfl)
    (by rw [stageCommand_eq]; rfl) (by rw [stageCommand_eq]; rfl)

theorem setsZs {z : SeqRecord} (h : EndsReset s u) (hz : z.resetDue = u.zs.resetDue) (hpause : z.pause = u.zs.pause)
    (hheld : z.held = u.zs.held) : EndsReset s (u.setZs z) := h.of rfl hz rfl hpause hheld

theorem beginsShutdownStage (h : EndsReset s u) (k : Nat) : EndsReset s (beginShutdownStage k u) := by
  unfold beginShutdownStage
  dsimp only
  have commanded := (h.setsZs (z := { u.zs with
    stage := some k, acted := (shutdownChannels k u).any (hasCmd .run u) }) rfl rfl rfl).commands (shutdownChannels k u) .shut
  generalize stageCommand (shutdownChannels k u) .shut _ = v at commanded ⊢
  exact commanded.setsZs rfl rfl rfl

theorem runsShutdown (l : List Nat) (h : EndsReset s u) (hs : StageHeld s) : EndsReset s (runShutdown l u) := by
  induction l generalizing u with
  | nil => exact (h.enters .watch).recomputesHold hs
  | cons k ks ih =>
    have begun := h.beginsShutdownStage k
    unfold runShutdown
    dsimp only
    generalize beginShutdownStage k u = v at begun ⊢
    split
    · split
      · split
        · exact begun.of
        · exact ih begun.of
      · exact begun
    · exact ih h

theorem completesShutdownStage (h : EndsReset s u) (hs : StageHeld s) (k : Nat) : EndsReset s (completeShutdownStage k u) := by
  unfold completeShutdownStage
  dsimp only
  split
  · exact h.of
  · exact runsShutdown _ h.of hs

theorem endsRestartStage (h : EndsReset s u) (hs : StageHeld s) (r : Nat) : EndsReset s (endRestartStage r u) := by
  have ended : EndsReset s (u.setZs { u.zs with
      restartStage := none, nextRestart := r + 1, held := noCauses, inrushDue := none }) :=
    ⟨h.status, h.due, h.config, fun hs => ⟨(h.free hs).pause, rfl, rfl⟩⟩
  unfold endRestartStage
  dsimp only
  split
  · exact ended.of
  · exact ended.entersPaused hs fun hs => (h.free hs).held

theorem endsIfOver (h : EndsReset s u) (hs : StageHeld s) : EndsReset s (endIfOver u) := by
  unfold endIfOver
  split
  · split
    · exact h.endsRestartStage hs _
    · exact h
  · exact h

theorem leavesPending (h : EndsReset s u) (hs : StageHeld s) (c : Channel) (b : Bool) : EndsReset s (leftPending c b u) := by
  have shutdown : EndsReset s (shutdownReport c u) := by
    unfold shutdownReport
    dsimp only
    split
    · split
      · split
        · exact completesShutdownStage h.of hs _
        · exact h.of
      · exact h
    · exact h
  have restart : EndsReset s (restartReport c b u) := by
    unfold restartReport
    split
    · split
      · exact endsIfOver h.of hs
      · exact h
    · exact h
  unfold leftPending
  split
  · exact shutdown
  · exact restart
  all_goals exact h

theorem takesLevelTest (h : EndsReset s u) (hs : StageHeld s) (c : Channel) : EndsReset s (takeLevelTest c u) := by
  unfold takeLevelTest
  dsimp only
  split
  · split
    · exact leavesPending h.of hs c false
    · exact h.of
  · exact h

theorem endsChannels (h : EndsReset s u) (hs : StageHeld s) : EndsReset s (endResetChannels u) := by
  have all (l : List Channel) {v : State} (hv : EndsReset s v) : EndsReset s (l.foldl (fun st c => takeLevelTest c st) v) := by
    induction l generalizing v with
    | nil => exact hv
    | cons c cs ih => exact ih (hv.takesLevelTest hs c)
  have tested := all allChannels h
  unfold endResetChannels
  generalize allChannels.foldl (fun st c => takeLevelTest c st) u = v at tested ⊢
  rw [followUnconfirmed_eq]
  exact tested.of

theorem endsCauses (h : EndsReset s u) : EndsReset s (endResetCauses u) := by
  unfold endResetCauses
  split
  · exact h.setsPause fun hs => ⟨rfl, by rw [(h.free hs).pause.2, Bool.false_and]⟩
  · exact h

theorem takesHealth (h : EndsReset s u) : EndsReset s (takeHealth u) := by
  rw [takeHealth_eq]
  exact h.of

theorem startsWaits (h : EndsReset s u) (hs : StageHeld s) : EndsReset s (startWaits u) := by
  unfold startWaits
  split
  · exact h.of
  · exact h.recomputesHold hs

end EndsReset

/-- A hold that runs out while no stage can begin moves no channel and no fault. -/
theorem StageHeld.startWaits (h : StageHeld s) : (startWaits s).cd = s.cd ∧ (startWaits s).hm = s.hm := by
  have begins (z : SeqRecord) (hz : z.resetDue = s.zs.resetDue) :
      (Machine.beginStage (s.setZs z)).cd = s.cd ∧ (Machine.beginStage (s.setZs z)).hm = s.hm := by
    have hheld : StageHeld (s.setZs z) := h.of hz
    rcases hheld.beginStage with ⟨causes, -, heq⟩ | heq
    · obtain ⟨slc, hpaused⟩ := pauseWith_eq causes (stageLeft (s.setZs z))
      rw [heq, hpaused]
      exact ⟨rfl, rfl⟩
    · rw [heq, completeRestart, rcpClose_eq, enterState_eq]
      exact ⟨rfl, rfl⟩
  have falls : (holdFalls s).cd = s.cd ∧ (holdFalls s).hm = s.hm := by
    unfold holdFalls leavePause
    dsimp only
    split
    · split
      · rw [enterState_eq]; exact ⟨rfl, rfl⟩
      · exact begins _ rfl
    · split
      · exact begins _ rfl
      · exact ⟨rfl, rfl⟩
    all_goals exact ⟨rfl, rfl⟩
  unfold Machine.startWaits recomputeHold
  split
  · exact ⟨rfl, rfl⟩
  · split
    · split
      · exact falls
      · exact ⟨rfl, rfl⟩
    · exact ⟨rfl, rfl⟩

/-! ## The level tests that no stage in progress takes -/

/-- No stage is in progress that a channel could leave (R120, R179). -/
def NoStageRuns (z : SeqRecord) : Prop := z.st ≠ .restarting ∧ (z.st = .shutting → z.stage = none)

theorem leftPending_unheard (h : NoStageRuns s.zs) (c : Channel) (b : Bool) : leftPending c b s = s := by
  by_cases hst : s.zs.st = .shutting
  · unfold leftPending shutdownReport
    rw [hst, h.2 hst]
  · exact leftPending_elsewhere c b hst h.1

/-- A channel's fields after the level test. -/
def tested (s : State) (c : Channel) : Option ChanRun :=
  (chan s c).map (levelTest (chanCfg s c) (rawAck s c) s.nodeTime)

theorem takeLevelTest_unheard (h : NoStageRuns s.zs) (c : Channel) : takeLevelTest c s = setChan c (tested s c) s := by
  unfold takeLevelTest tested
  cases hc : chan s c with
  | none =>
    have hset : s.cd.runs.set c.val none c.isLt = s.cd.runs := by
      rw [← hc]
      exact Vector.set_getElem_self ..
    exact (congrArg (fun v => s.setCd { runs := v }) hset).symm
  | some q =>
    have hleft := leftPending_unheard (s := setChan c (some (levelTest (chanCfg s c) (rawAck s c) s.nodeTime q)) s) h c false
    dsimp only [Option.map_some]
    rw [hleft, ite_self]

theorem foldl_levelTests (l : List Channel) (hnodup : l.Nodup) : ∀ {s : State}, NoStageRuns s.zs →
    ∃ cd, l.foldl (fun st c => takeLevelTest c st) s = s.setCd cd ∧
      ∀ c, chan (s.setCd cd) c = if c ∈ l then tested s c else chan s c := by
  induction l with
  | nil => exact fun _ => ⟨_, rfl, fun c => rfl⟩
  | cons d ds ih =>
    intro s h
    obtain ⟨hd, hds⟩ := List.nodup_cons.mp hnodup
    obtain ⟨cd, heq, hchan⟩ := ih hds (s := setChan d (tested s d) s) h
    rw [List.foldl_cons, takeLevelTest_unheard h d, heq]
    refine ⟨cd, rfl, fun c => (hchan c).trans ?_⟩
    by_cases hc : c = d
    · subst hc
      rw [if_neg hd, if_pos List.mem_cons_self, chan_setChan_same]
    · have hother : chan (setChan d (tested s d) s) c = chan s c := chan_setChan_other (Ne.symm hc) _ _
      have htested : tested (setChan d (tested s d) s) c = tested s c :=
        congrArg (Option.map (levelTest (chanCfg s c) (rawAck s c) s.nodeTime)) hother
      rw [htested, hother]
      simp only [List.mem_cons, hc, false_or]

theorem endResetChannels_unheard (h : NoStageRuns s.zs) : ∃ cd hm, endResetChannels s = (s.setCd cd).setHm hm ∧
    ∀ c, chan (s.setCd cd) c = tested s c := by
  obtain ⟨cd, heq, hchan⟩ := foldl_levelTests allChannels (by decide) h
  unfold endResetChannels
  rw [heq, followUnconfirmed_eq]
  exact ⟨cd, _, rfl, fun c => (hchan c).trans (if_pos (mem_allChannels c))⟩

/-! ## The waits that run on -/

/-- The sequencer behind the causes and the waits of the end of a warm reset, where no hold of WATCH has run out and RESET
stays (R136, R140, R150). -/
structure WaitsRunOn (s : State) (passes : Bool) (z : SeqRecord) : Prop where
  stands : z.st = s.zs.st ∧ z.ta = s.zs.ta ∧ z.grade = s.zs.grade ∧ z.consoleHold = s.zs.consoleHold ∧
    z.nextRestart = s.zs.nextRestart ∧ z.gapDue = s.zs.gapDue ∧ z.checkedStage = s.zs.checkedStage
  start : s.zs.st = .starting → z.startDue = some (max (s.nodeTime + threePs s) (s.zs.ta + (cfg s).q0 * 10000))
  hold : s.zs.st = .watch → z.holdDue = some (holdEnd s)
  pause : s.zs.st = .paused → z.pause = { s.zs.pause with
    line := false, precheck := s.zs.pause.precheck && !passes
    aftershock := s.zs.pause.aftershock && decide (s.nodeTime < holdEnd s) }

/-- In PAUSED, a hold that has run out takes AFTERSHOCK with it, and RESET keeps the pause (R140, R150). -/
theorem recomputeHold_held (hst : s.zs.st = .paused) (hreset : s.zs.pause.reset = true) :
    ∃ due, recomputeHold s = s.setZs { s.zs with
      holdDue := due
      pause := { s.zs.pause with aftershock := s.zs.pause.aftershock && decide (s.nodeTime < holdEnd s) } } := by
  have hruns : holdRuns s = s.zs.pause.aftershock := by rw [holdRuns, hst]; rfl
  unfold recomputeHold
  rw [hruns]
  cases hafter : s.zs.pause.aftershock with
  | false =>
    refine ⟨s.zs.holdDue, (if_neg nofun).trans ?_⟩
    rw [Bool.false_and, ← hafter]
    rfl
  | true =>
    rw [if_pos rfl, Bool.true_and]
    by_cases hout : holdEnd s ≤ s.nodeTime
    · have hstays : { s.zs.pause with aftershock := false } ≠ noCauses := fun h =>
        absurd (hreset.symm.trans (congrArg Causes.reset h :)) (by decide)
      rw [if_pos hout, holdFalls_paused hst, leavePause_stays (.inr hstays), decide_eq_false (Nat.not_lt.mpr hout)]
      exact ⟨none, rfl⟩
    · rw [if_neg hout, decide_eq_true (Nat.not_le.mp hout), ← hafter]
      exact ⟨some (holdEnd s), rfl⟩

theorem waitsRunOn (hwatch : s.zs.st = .watch → s.nodeTime < holdEnd s) (hreset : s.zs.st = .paused → s.zs.pause.reset = true) :
    ∃ z, startWaits (endResetCauses s) = s.setZs z ∧ WaitsRunOn s (checkedPasses s) z := by
  by_cases hpaused : s.zs.st = .paused
  · have hne : s.zs.st ≠ .starting := by rw [hpaused]; decide
    have notWatch : s.zs.st ≠ .watch := by rw [hpaused]; decide
    unfold endResetCauses
    rw [if_pos hpaused, startWaits, if_neg (by exact hne)]
    obtain ⟨due, heq⟩ := recomputeHold_held (s := s.setZs { s.zs with pause := { s.zs.pause with
      line := false, precheck := s.zs.pause.precheck && !checkedPasses s } }) hpaused (hreset hpaused)
    rw [heq]
    exact ⟨_, rfl, ⟨rfl, rfl, rfl, rfl, rfl, rfl, rfl⟩, fun h => absurd h hne, fun h => absurd h notWatch, fun _ => rfl⟩
  · unfold endResetCauses
    rw [if_neg hpaused]
    by_cases hstart : s.zs.st = .starting
    · rw [startWaits_starting hstart]
      refine ⟨_, rfl, ⟨rfl, rfl, rfl, rfl, rfl, rfl, rfl⟩, fun _ => rfl, fun h => absurd (hstart.symm.trans h) (by decide), fun h => absurd h hpaused⟩
    · by_cases hw : s.zs.st = .watch
      · have hruns : holdRuns s = true := by rw [holdRuns, hw]; rfl
        rw [startWaits_later hstart (hwatch hw), if_pos hruns]
        exact ⟨_, rfl, ⟨rfl, rfl, rfl, rfl, rfl, rfl, rfl⟩, fun h => absurd h hstart, fun _ => rfl, fun h => absurd h hpaused⟩
      · rw [startWaits_rests hstart (by simp [holdRuns, hw, hpaused])]
        exact ⟨s.zs, rfl, ⟨rfl, rfl, rfl, rfl, rfl, rfl, rfl⟩, fun h => absurd h hstart, fun h => absurd h hw, fun h => absurd h hpaused⟩

/-! ## The whole end -/

theorem zoneKept_endResetChannels (s : State) : zoneKept (endResetChannels s) = zoneKept s := by
  have tests (c : Channel) (s : State) : zoneKept (takeLevelTest c s) = zoneKept s := by
    unfold takeLevelTest
    dsimp only
    split
    · split
      · exact zoneKept_leftPending ..
      · rfl
    · rfl
  have all (l : List Channel) (s : State) : zoneKept (l.foldl (fun st c => takeLevelTest c st) s) = zoneKept s := by
    induction l generalizing s with
    | nil => rfl
    | cons c cs ih => exact (ih _).trans (tests c s)
  exact (zoneKept_followUnconfirmed _).trans (all allChannels s)

theorem zoneKept_endResetCauses (s : State) : zoneKept (endResetCauses s) = zoneKept s := by
  unfold endResetCauses
  split <;> rfl

theorem endResetCauses_keeps (s : State) : (endResetCauses s).cd = s.cd ∧ (endResetCauses s).hm = s.hm := by
  unfold endResetCauses
  split <;> exact ⟨rfl, rfl⟩

/-- The end of a warm reset from the state whose channels it tests, block by block. -/
structure ResetEnded (s w u : State) : Prop where
  kept : zoneKept u = zoneKept w
  reset : EndsReset w u
  unconfirmed : active .channelUnconfirmed u = true ↔ ∃ e q, chan u e = some q ∧ q.conf = .unconfirmed
  runsOn : NoStageRuns w.zs → (w.zs.st = .watch → w.nodeTime < holdEnd w) → (w.zs.st = .paused → w.zs.pause.reset = true) →
    (∀ c, chan u c = tested w c) ∧ u.rcp = w.rcp ∧ u.icu = w.icu ∧ WaitsRunOn w (checkedPasses u) u.zs

theorem ResetSet.ended (h : ResetSet s w) :
    ResetEnded s w (takeHealth (startWaits (endResetCauses (endResetChannels w)))) where
  kept := (zoneKept_takeHealth _).trans ((zoneKept_startWaits _).trans ((zoneKept_endResetCauses _).trans
    (zoneKept_endResetChannels w)))
  reset := ((EndsReset.refl.endsChannels h.held).endsCauses.startsWaits h.held).takesHealth
  unconfirmed := by
    have held : StageHeld (endResetCauses (endResetChannels w)) :=
      (EndsReset.refl.endsChannels h.held).endsCauses.held h.held
    have hcauses := endResetCauses_keeps (endResetChannels w)
    obtain ⟨hcd, hhm⟩ := held.startWaits
    have hfollows := active_followUnconfirmed (allChannels.foldl (fun st c => takeLevelTest c st) w)
    change active .channelUnconfirmed (endResetChannels w) = true ↔
      ∃ e q, chan (endResetChannels w) e = some q ∧ q.conf = .unconfirmed at hfollows
    generalize startWaits (endResetCauses (endResetChannels w)) = y at hcd hhm
    rw [hcauses.1] at hcd
    rw [hcauses.2] at hhm
    have hactive : active .channelUnconfirmed (takeHealth y) = active .channelUnconfirmed (endResetChannels w) := by
      rw [takeHealth_eq, active, active, ← hhm]
      rfl
    have hchan (e : Channel) : chan (takeHealth y) e = chan (endResetChannels w) e := by
      rw [takeHealth_eq, chan, chan, ← hcd]
      rfl
    simp only [hactive, hchan]
    exact hfollows
  runsOn hidle hwatch hreset := by
    obtain ⟨cd, hm, heq, hchan⟩ := endResetChannels_unheard hidle
    obtain ⟨z, hz, hruns⟩ := waitsRunOn (s := endResetChannels w) (by rw [heq]; exact hwatch) (by rw [heq]; exact hreset)
    obtain ⟨-, -, -, -, -, -, hstage⟩ := hruns.stands
    rw [heq] at hz hruns hstage
    have hpasses : checkedPasses (((w.setCd cd).setHm hm).setZs z) = checkedPasses ((w.setCd cd).setHm hm) := by
      unfold checkedPasses
      rw [show (((w.setCd cd).setHm hm).setZs z).zs.checkedStage = ((w.setCd cd).setHm hm).zs.checkedStage from hstage]
      rfl
    rw [heq, hz, takeHealth_eq]
    refine ⟨hchan, rfl, rfl, ?_⟩
    change WaitsRunOn w (checkedPasses (((w.setCd cd).setHm hm).setZs z)) z
    rw [hpasses]
    exact ⟨hruns.stands, hruns.start, hruns.hold, hruns.pause⟩

end Sys2Proof.Machine

/-! The statement about the end of a warm reset (R114, R149, R150, R199). -/

namespace Sys2Proof.Machine

variable {s u w : State} {c : Channel} {t : Nat}

theorem levelTest_unused {k : ChannelConfig} (h : k.ackUsed = false) (high : Bool) (now : Nat) (q : ChanRun) :
    levelTest k high now q = q := if_neg (ne_true_of_eq_false h)

/-- The level test of a channel that uses its acknowledgement (R114). -/
theorem levelTest_used {k : ChannelConfig} (h : k.ackUsed = true) (high : Bool) (now : Nat) (q : ChanRun) :
    levelTest k high now q =
      let level := high != k.inverted
      let fits := level = decide (q.cmd = .shut)
      { q with
        readsShut := level, filterDue := none, conf := if fits then .confirmed else q.conf
        ackDue := if q.conf = .pending then (if fits then none else some (now + k.ackTimeout * 1000)) else q.ackDue
        disagree := if q.conf = .confirmed then decide (¬fits) else q.disagree } := by
  unfold levelTest
  rw [if_pos h]
  have hfits := levelMatches_iff q.cmd (readsShutAt k high)
  unfold readsShutAt at hfits ⊢
  dsimp only
  generalize (high != k.inverted) = level at hfits ⊢
  by_cases hmatch : level = decide (q.cmd = .shut)
  · have hlevel := hfits.mpr hmatch
    rw [hlevel]
    cases hconf : q.conf <;> simp [hmatch]
  · have hlevel := Bool.eq_false_iff.mpr (mt hfits.mp hmatch)
    rw [hlevel]
    cases hconf : q.conf <;> simp [hmatch]

namespace ResetSet

theorem cfg_eq (h : ResetSet s w) : cfg w = cfg s := by
  have hconf : w.rcp.config = s.rcp.config := by rw [h.rcp]; split <;> rfl
  rw [cfg, cfg, hconf]

theorem zone (h : ResetSet s w) : w.zs = { s.zs with resetDue := w.zs.resetDue, gapDue := w.zs.gapDue } := by
  rw [h.zs]
  split <;> rfl

theorem time (h : ResetSet s w) : w.nodeTime = s.nodeTime := by rw [h.around]

theorem holdEnd_eq (h : ResetSet s w) : holdEnd w = holdEnd s := by
  rw [holdEnd, h.zone, h.cfg_eq]
  rfl

theorem tested_eq (h : ResetSet s w) (c : Channel) : tested w c =
    (chan s c).map (levelTest (chanCfg s c) (rawAck s c) s.nodeTime) := by
  have hchan : chan w c = chan s c := by rw [h.around]; rfl
  have hraw : rawAck w c = rawAck s c := by rw [h.around]; rfl
  rw [tested, hchan, hraw, h.time, chanCfg, h.cfg_eq]
  rfl

end ResetSet

/-- Settles O50. -/
theorem warmResetEnds : Obligations.WarmResetEnds := by
  unfold Obligations.WarmResetEnds
  intro t s hlate hmax pins steady
  have hexec : exec (.endOfWarmReset t) s = .next (releaseReset (advance t s)) := rfl
  refine ⟨fun hp => ?_, fun hp => ?_⟩
  · have hadv : advance t s = s.setNodeTime t := by
      rcases hp with hp | hp | ⟨hp, hclose⟩
      · exact advance_reading (.inl hp) hlate hmax
      · exact advance_reading (.inr hp) hlate hmax
      · exact advance_running hp hlate hmax hclose
    have hnot : (s.setNodeTime t).phase ≠ .warmReset := by
      change s.phase ≠ .warmReset
      rcases hp with hp | hp | ⟨hp, -⟩ <;> rw [hp] <;> decide
    rw [hexec, hadv, releaseReset]
    exact congrArg _ (if_neg hnot)
  have hadv : advance t s = s.setNodeTime t :=
    advance_starting (by rw [hp]; decide) (by rw [hp]; decide) hlate hmax
  have set := beforeTests_set (setResetPin false (s.setNodeTime t))
  have ended := set.ended
  rw [hadv, releaseReset, if_pos (by exact hp), endWarmReset_tests] at hexec
  generalize beforeTests (setResetPin false (s.setNodeTime t)) = w at set ended hexec
  generalize takeHealth (startWaits (endResetCauses (endResetChannels w))) = u at ended hexec
  obtain ⟨htime, hmp, hpv, hvtu, hpins, hphase, hpending⟩ := zoneKept_fields ended.kept
  have hslc := zoneKept_slc ended.kept
  have hst : w.zs.st = s.zs.st := by rw [set.zone]; rfl
  have hend : holdEnd w = s.zs.ta + holdSeconds (cfg s) s.zs.grade * 10000 := set.holdEnd_eq
  have hwtime : w.nodeTime = t := set.time
  have hidle (h : steady) : NoStageRuns w.zs := by
    obtain ⟨hshut, hrestart, -⟩ := h
    exact ⟨by rw [hst]; exact hrestart, fun h => absurd (hst.symm.trans h) hshut⟩
  have runsOn (h : steady) := by
    obtain ⟨-, -, hwatch, hpaused⟩ := id h
    exact ended.runsOn (hidle h) (by rw [hst, hend, hwtime]; exact hwatch) (by rw [hst, set.zone]; exact hpaused)
  refine ⟨u, hexec, hphase.trans (by rw [set.around]), htime.trans hwtime, hpins.trans (by rw [set.around]; rfl),
    hpending.trans (by rw [set.around]; rfl), ?_, ?_, ?_, ?_, ?_, fun hq hroom => ?_, ?_, ?_, ?_, ended.unconfirmed, fun hv => ?_,
    fun e q hq hused h => ?_, fun e hunused h => ?_, fun hwrite h => ?_, fun hwrite h => ?_, fun h => ?_, fun hs => ?_,
    fun hs h => ?_, fun hs hv hgap hstage => ?_, fun hs h => ?_⟩
  case refine_1 => rw [hmp]; exact set.missing
  case refine_2 => rw [hmp]; exact set.det
  case refine_3 => rw [hslc, set.around]; rfl
  case refine_4 => rw [hslc, set.around]; rfl
  case refine_5 => rw [hslc, set.around]; rfl
  case refine_6 =>
    have hslcSet : w.slc.queue = (place .status s).slc.queue := by
      rw [set.around]
      exact (congrArg LineCtl.queue (place_slc .status (u := setResetPin false (s.setNodeTime t)) (s := s) rfl) :)
    have horder : InOrder w.slc.queue := by
      rw [hslcSet]
      exact ((queueOk_iff s).mp hq).place .status
    exact (ended.reset.status horder (by rw [hslcSet]; exact status_mem_of_room hroom)).2
  case refine_7 =>
    have hpeer : peer u (ownId s) = peer (ownPresent (setResetPin false (s.setNodeTime t))) (ownId (setResetPin false (s.setNodeTime t))) := by
      rw [peer, hpv, set.around]
      rfl
    rw [hpeer, peer_ownPresent]
  case refine_8 => rw [hvtu]; exact set.wire
  case refine_9 => rw [hvtu]; exact set.armed
  case refine_10 =>
    rw [ended.reset.due, set.zs, if_pos (by exact hv)]
    rfl
  case refine_11 =>
    obtain ⟨hchan, -⟩ := runsOn h
    rw [hchan, set.tested_eq, show chan (setResetPin false (s.setNodeTime t)) e = some q from hq, Option.map_some]
    exact congrArg some (levelTest_used hused (rawAck s e) t q)
  case refine_12 =>
    obtain ⟨hchan, -⟩ := runsOn h
    rw [hchan, set.tested_eq]
    change (chan s e).map (levelTest (chanCfg s e) (rawAck s e) t) = chan s e
    rw [funext (levelTest_unused hunused (rawAck s e) t), Option.map_id']
  case refine_13 =>
    obtain ⟨-, hrcp, -⟩ := runsOn h
    rw [hrcp, set.rcp, if_pos (by exact hwrite)]
    exact ⟨rfl, rfl, rfl⟩
  case refine_14 =>
    obtain ⟨-, hrcp, -⟩ := runsOn h
    rw [hrcp, set.rcp, if_neg (by exact ne_true_of_eq_false hwrite)]
    rfl
  case refine_15 =>
    obtain ⟨-, -, hicu, hwaits⟩ := runsOn h
    obtain ⟨hust, hta, hgrade, hconsole, hnext, -⟩ := hwaits.stands
    refine ⟨hust.trans hst, hta.trans ?_, hgrade.trans ?_, hconsole.trans ?_, hnext.trans ?_, hicu.trans (by rw [set.around]; rfl)⟩
    all_goals
      rw [set.zone]
      rfl
  case refine_16 =>
    have hsteady : steady := by
      refine ⟨?_, ?_, fun h => absurd (hs.symm.trans h) (by decide), fun h => absurd (hs.symm.trans h) (by decide)⟩
      all_goals
        rw [hs]
        decide
    obtain ⟨-, -, -, hwaits⟩ := runsOn hsteady
    rw [hwaits.start (hst.trans hs), hwtime, threePs, set.cfg_eq, set.zone]
    rfl
  case refine_17 =>
    obtain ⟨-, -, -, hwaits⟩ := runsOn h
    rw [hwaits.hold (hst.trans hs), hend]
  case refine_18 =>
    have hquiet : NoStageRuns w.zs := ⟨by rw [hst, hs]; decide, fun _ => by rw [set.zone]; exact hstage⟩
    obtain ⟨-, -, -, hwaits⟩ := ended.runsOn hquiet (fun h => absurd (hs.symm.trans (hst.symm.trans h)) (by decide))
      fun h => absurd (hs.symm.trans (hst.symm.trans h)) (by decide)
    obtain ⟨hust, -, -, -, -, hugap, -⟩ := hwaits.stands
    obtain ⟨d, hd⟩ := hgap
    have hwgap : w.zs.gapDue = s.zs.gapDue.map (fun _ => t + (cfg s).shutdownGap * 1000) := by
      rw [set.zs, if_pos (by exact hv)]
      rfl
    exact ⟨hust.trans (hst.trans hs), hugap.trans (hwgap.trans (by rw [hd]; rfl))⟩
  case refine_19 =>
    obtain ⟨-, -, -, hwaits⟩ := runsOn h
    obtain ⟨-, -, -, -, -, -, hchecked⟩ := hwaits.stands
    have hreset : s.zs.pause.reset = true := h.2.2.2 hs
    have hpasses : (!checkedPasses u) = (match s.zs.checkedStage with | some k => !precheck k u | none => false) := by
      have hstage : u.zs.checkedStage = s.zs.checkedStage := hchecked.trans (by rw [set.zone]; rfl)
      unfold checkedPasses
      rw [hstage]
      cases s.zs.checkedStage <;> rfl
    rw [hwaits.pause (hst.trans hs), hend, hwtime, hpasses, set.zone]
    exact ⟨rfl, hreset, rfl, rfl, rfl, rfl⟩

end Sys2Proof.Machine

/-! What is promised of the zone (O59), as one predicate that every operation of a running part keeps. -/

namespace Sys2Proof.Machine

/-- What the promises made of the zone read of the sequencer. -/
def zoneCore (z : SeqRecord) : SeqRecord :=
  { SeqRecord.reset with
    st := z.st, stage := z.stage, currentStage := z.currentStage, pause := z.pause, held := z.held
    restartGap := z.restartGap, restartStage := z.restartStage }

/-- The pause causes, the causes held back and the restart gap fit the state of the sequencer (R139, R181). -/
structure CausesFit (z : SeqRecord) : Prop where
  pause : z.pause = noCauses ↔ z.st ≠ .paused
  held : z.held = noCauses ∨ (z.st = .restarting ∧ z.restartStage.isSome = true)
  kinds : z.held.channel = false ∧ z.held.precheck = false ∧ z.held.line = false
  gap : z.restartGap = none ∨ (z.st = .restarting ∧ z.restartStage = none)

/-- The highest shutdown stage that the state of the sequencer promises to be SHUT (R121, R123). -/
def shedBound (z : SeqRecord) : Nat :=
  match z.st with
  | .watch => 8
  | .awaitPermit => 8
  | .shutting => max (z.stage.getD 0) z.currentStage
  | _ => 0

/-- No channel of the shutdown stages up to `n` is commanded RUN. -/
def ShutTo (n : Nat) (s : State) : Prop :=
  ∀ c, command s c = some .run → (chanCfg s c).shutdownStage = 0 ∨ n < (chanCfg s c).shutdownStage

/-- The promises made of the zone: `a` has those of the pause causes among them and `b` those of the shed channels, and
`w` says that the part may be in a warm reset. -/
structure Zone (a b w : Bool) (s : State) : Prop where
  start : s.phase = .running ∨ s.phase = .warmReset ∨ s.zs.st = .unconfigured
  phase : w = false → s.phase ≠ .warmReset
  causes : a = true → CausesFit s.zs
  reset : a = true → s.phase = .warmReset → s.zs.st ≠ .claiming ∧ (s.zs.st = .paused → s.zs.pause.reset = true)
  shed : b = true → ShutTo (shedBound s.zs) s

variable {a b w : Bool} {s u : State}

/-! ## What is promised, as the predicate has it -/

theorem startOk_iff (s : State) : startOk s = true ↔ s.phase = .running ∨ s.phase = .warmReset ∨ s.zs.st = .unconfigured := by
  simp [startOk, or_assoc]

theorem causesOk_iff (s : State) : causesOk s = true ↔ CausesFit s.zs ∧
    (s.phase = .warmReset → s.zs.st ≠ .claiming ∧ (s.zs.st = .paused → s.zs.pause.reset = true)) := by
  have hpause : (causesEmpty s.zs.pause == (s.zs.st != .paused)) = true ↔ (s.zs.pause = noCauses ↔ s.zs.st ≠ .paused) := by
    rw [beq_iff_eq, Bool.eq_iff_iff, causesEmpty_iff, bne_iff_ne]
  have hheld : (causesEmpty s.zs.held || (s.zs.st == .restarting && s.zs.restartStage.isSome)) = true ↔
      s.zs.held = noCauses ∨ (s.zs.st = .restarting ∧ s.zs.restartStage.isSome = true) := by
    rw [Bool.or_eq_true, causesEmpty_iff, Bool.and_eq_true, beq_iff_eq]
  have hkinds : (!(s.zs.held.channel || s.zs.held.precheck || s.zs.held.line)) = true ↔
      s.zs.held.channel = false ∧ s.zs.held.precheck = false ∧ s.zs.held.line = false := by
    simp [and_assoc]
  have hgap : (s.zs.restartGap.isNone || (s.zs.st == .restarting && s.zs.restartStage.isNone)) = true ↔
      s.zs.restartGap = none ∨ (s.zs.st = .restarting ∧ s.zs.restartStage = none) := by
    simp
  have hreset : (s.phase != .warmReset || (s.zs.st != .claiming && (s.zs.st != .paused || s.zs.pause.reset))) = true ↔
      (s.phase = .warmReset → s.zs.st ≠ .claiming ∧ (s.zs.st = .paused → s.zs.pause.reset = true)) := by
    simp [Decidable.imp_iff_not_or]
  unfold causesOk
  rw [Bool.and_eq_true, Bool.and_eq_true, Bool.and_eq_true, Bool.and_eq_true, hpause, hheld, hkinds, hgap, hreset]
  exact ⟨fun ⟨⟨⟨⟨hp, hh⟩, hk⟩, hg⟩, hr⟩ => ⟨⟨hp, hh, hk, hg⟩, hr⟩, fun ⟨⟨hp, hh, hk, hg⟩, hr⟩ => ⟨⟨⟨⟨hp, hh⟩, hk⟩, hg⟩, hr⟩⟩

theorem shutUpTo_iff (n : Nat) (s : State) : shutUpTo n s = true ↔ ShutTo n s := by
  unfold shutUpTo ShutTo
  simp only [List.all_eq_true, mem_allChannels, true_implies]
  refine forall_congr' fun c => ?_
  unfold hasCmd command
  cases hc : chan s c with
  | none => simp
  | some q => cases hq : q.cmd <;> simp [hq]

theorem shutTo_zero (s : State) : ShutTo 0 s := fun _ _ => Nat.eq_zero_or_pos _

theorem ShutTo.mono {m n : Nat} (h : ShutTo n s) (hm : m ≤ n) : ShutTo m s :=
  fun c hc => (h c hc).imp_right (Nat.lt_of_le_of_lt hm)

theorem shedOk_iff (s : State) : shedOk s = true ↔ ShutTo (shedBound s.zs) s := by
  unfold shedOk shedBound
  cases s.zs.st with
  | watch => exact shutUpTo_iff 8 s
  | awaitPermit => exact shutUpTo_iff 8 s
  | shutting => exact shutUpTo_iff _ s
  | unconfigured => exact ⟨fun _ => shutTo_zero s, fun _ => rfl⟩
  | starting => exact ⟨fun _ => shutTo_zero s, fun _ => rfl⟩
  | running => exact ⟨fun _ => shutTo_zero s, fun _ => rfl⟩
  | claiming => exact ⟨fun _ => shutTo_zero s, fun _ => rfl⟩
  | restarting => exact ⟨fun _ => shutTo_zero s, fun _ => rfl⟩
  | paused => exact ⟨fun _ => shutTo_zero s, fun _ => rfl⟩

theorem zone_iff (s : State) : Zone a b true s ↔
    startOk s = true ∧ (a = true → causesOk s = true) ∧ (b = true → shedOk s = true) := by
  rw [startOk_iff, causesOk_iff, shedOk_iff]
  exact ⟨fun h => ⟨h.start, fun ha => ⟨h.causes ha, h.reset ha⟩, h.shed⟩,
    fun ⟨hstart, hcauses, hshed⟩ => ⟨hstart, nofun, fun ha => (hcauses ha).1, fun ha => (hcauses ha).2, hshed⟩⟩

namespace Zone

/-- A part in a warm reset is let in. -/
theorem any (h : Zone a b false s) : Zone a b w s := ⟨h.start, fun _ => h.phase rfl, h.causes, h.reset, h.shed⟩

theorem awake (h : Zone a b w s) (hp : s.phase ≠ .warmReset) : Zone a b false s :=
  ⟨h.start, fun _ => hp, h.causes, h.reset, h.shed⟩

theorem running (h : Zone a b w s) (hp : s.phase = .running) : Zone a b false s := h.awake (by rw [hp]; decide)

/-- A part outside a warm reset whose sequencer is configured is running. -/
theorem runs (h : Zone a b false s) (hst : s.zs.st ≠ .unconfigured) : s.phase = .running :=
  h.start.resolve_right fun h' => h'.elim (h.phase rfl) hst

/-- The promises of a running part. -/
theorem of_running (hp : u.phase = .running) (hc : a = true → CausesFit u.zs) (hs : b = true → ShutTo (shedBound u.zs) u) :
    Zone a b w u :=
  ⟨.inl hp, fun _ => by rw [hp]; decide, hc, fun _ h => by rw [hp] at h; exact absurd h (by decide), hs⟩

/-- What an operation leaves alone stands. -/
theorem of (h : Zone a b w s) (hz : zoneCore u.zs = zoneCore s.zs := by rfl) (hp : u.phase = s.phase := by rfl)
    (hconf : u.rcp.config = s.rcp.config := by rfl) (hc : ∀ c, command u c = command s c := by intro c; rfl) :
    Zone a b w u := by
  have hst : u.zs.st = s.zs.st := (congrArg SeqRecord.st hz :)
  have hpause : u.zs.pause = s.zs.pause := (congrArg SeqRecord.pause hz :)
  have hcauses : CausesFit (zoneCore u.zs) ↔ CausesFit (zoneCore s.zs) := by rw [hz]
  have hbound : shedBound (zoneCore u.zs) = shedBound (zoneCore s.zs) := by rw [hz]
  refine ⟨by rw [hp, hst]; exact h.start, by rw [hp]; exact h.phase, fun ha => ?_, by rw [hp, hst, hpause]; exact h.reset,
    fun hb c hrun => ?_⟩
  · obtain ⟨hpause, hheld, hkinds, hgap⟩ := h.causes ha
    obtain ⟨hpause, hheld, hkinds, hgap⟩ := hcauses.mpr ⟨hpause, hheld, hkinds, hgap⟩
    exact ⟨hpause, hheld, hkinds, hgap⟩
  · have hcfg : chanCfg u c = chanCfg s c := by rw [chanCfg, chanCfg, cfg, cfg, hconf]
    have hb' : shedBound u.zs = shedBound s.zs := hbound
    rw [hcfg, hb']
    exact h.shed hb c ((hc c).symm.trans hrun)

theorem either {p : Prop} [Decidable p] (hu : Zone a b w u) (hs : Zone a b w s) : Zone a b w (if p then u else s) := by
  split
  · exact hu
  · exact hs

theorem whenDue {p : Prop} [Decidable p] (h : Zone a b w s) (hu : p → Zone a b w u) : Zone a b w (if p then u else s) := by
  split
  · exact hu ‹_›
  · exact h

theorem eitherOrder {f g : State → State} (first : Bool) (h : Zone a b w s) (hf : ∀ {v}, Zone a b w v → Zone a b w (f v))
    (hg : ∀ {v}, Zone a b w v → Zone a b w (g v)) : Zone a b w (inEitherOrder first f g s) := by
  unfold inEitherOrder
  split
  · exact hg (hf h)
  · exact hf (hg h)

/-! ## Faults, record and queue -/

theorem takesHealth (h : Zone a b w s) : Zone a b w (takeHealth s) := by rw [takeHealth_eq]; exact h.of

theorem raises (h : Zone a b w s) (f : FaultId) : Zone a b w (raiseFault f s) := by rw [raiseFault_eq]; exact h.of

theorem clears (h : Zone a b w s) (f : FaultId) : Zone a b w (clearFault f s) := by rw [clearFault_eq]; exact h.of

theorem follows (h : Zone a b w s) (f : FaultId) (v : Bool) : Zone a b w (followFault f v s) := by
  rw [followFault_eq]; exact h.of

theorem startsWrite (h : Zone a b w s) (again : Bool) : Zone a b w (startWrite again s) := h.of

theorem setsRecord (h : Zone a b w s) (r : TripRecord) : Zone a b w (setRecord r s) := by
  have hconf : (setRecord r s).rcp.config = s.rcp.config := (zoneKept_rcp (zoneKept_setRecord r s)).1
  rw [setRecord_eq]
  exact h.of (hconf := hconf)

theorem raisesRecord (h : Zone a b w s) (g : Nat) : Zone a b w (rcpRaise g s) := .either (h.setsRecord _) h

theorem permitsRecord (h : Zone a b w s) : Zone a b w (rcpPermit s) := .either (h.setsRecord _) h

theorem requestsTrip (h : Zone a b w s) (own origin : Cause) (votes grade : Nat) (l : List StationId) :
    Zone a b w (rcpTrip own origin votes grade l s) := by
  have hconf : (rcpTrip own origin votes grade l s).rcp.config = s.rcp.config := (zoneKept_rcp (zoneKept_rcpTrip ..)).1
  rw [rcpTrip_eq]
  exact h.of (hconf := hconf)

theorem takesClose (h : Zone a b w s) : Zone a b w (takeWaitingClose s) := by
  have hconf : (takeWaitingClose s).rcp.config = s.rcp.config := (zoneKept_rcp (zoneKept_takeWaitingClose s)).1
  rw [takeWaitingClose_eq]
  exact h.of (hconf := hconf)

theorem closes (h : Zone a b w s) : Zone a b w (rcpClose s) := by
  have hconf : (rcpClose s).rcp.config = s.rcp.config := (zoneKept_rcp (zoneKept_rcpClose s)).1
  rw [rcpClose_eq]
  exact h.of (hconf := hconf)

theorem rewrites (h : Zone a b w s) : Zone a b w (startRewrite s) := .either (h.startsWrite _) h

theorem places (h : Zone a b w s) (e : TxEntry) : Zone a b w (place e s) := by rw [place_setSlc]; exact h.of

theorem queuesRelease (h : Zone a b w s) (n : Nat) (r : ReleaseReason) : Zone a b w (queueRelease n r s) := by
  rw [queueRelease_eq]; exact h.of

theorem draws (h : Zone a b w s) : Zone a b w (drawn s) := h.of

/-! ## Channels and claims -/

theorem setsChan (h : Zone a b w s) {c : Channel} {r r' : ChanRun} (hr : chan s c = some r) (hcmd : r'.cmd = r.cmd) :
    Zone a b w (setChan c (some r') s) := by
  refine h.of (hc := fun e => ?_)
  unfold command
  by_cases he : e = c
  · subst he
    rw [chan_setChan_same, hr]
    exact congrArg some hcmd
  · rw [chan_setChan_other (Ne.symm he)]

theorem followsUnconfirmed (h : Zone a b w s) : Zone a b w (followUnconfirmed s) := h.follows _ _

theorem setsIcu (h : Zone a b w s) (i : ClaimState) : Zone a b w (s.setIcu i) := h.of

theorem removesClaim (h : Zone a b w s) (i : StationId) : Zone a b w (removeClaimOf i s) := h.of

theorem makesClaim (h : Zone a b w s) : Zone a b w (makeClaim s) :=
  (h.setsIcu _).places _

theorem requestsClaim (h : Zone a b w s) (n d : Nat) : Zone a b w (requestClaim n d s) :=
  (h.setsIcu _).makesClaim

theorem endsClaim (h : Zone a b w s) : Zone a b w (claimNone s) := h.of

theorem withdrawsAtSettle (h : Zone a b w s) : Zone a b w (withdrawAtSettle s) :=
  ((h.removesClaim _).setsIcu _).queuesRelease _ _

theorem completesClaim (h : Zone a b w s) (n t : Nat) : Zone a b w (claimCompleted n t s) := by
  unfold claimCompleted; split
  · exact h.of
  · exact h

theorem reportsCompletion (h : Zone a b w s) (f : Option Attempt) : Zone a b w (reportCompletion f s) := by
  unfold reportCompletion; repeat' split
  · exact h.completesClaim _ _
  all_goals exact h

theorem notesReceiveError (h : Zone a b w s) : Zone a b w (claimReceiveError s) := .either h.of h

end Zone

end Sys2Proof.Machine

/-! The operations of the sequencer keep what is promised of the zone (O59). -/

namespace Sys2Proof.Machine

variable {a b w : Bool} {s u : State} {z : SeqRecord}

/-! ## A sequencer that holds nothing back -/

/-- No cause is held back and the restart gap does not run. -/
structure NothingHeld (z : SeqRecord) : Prop where
  held : z.held = noCauses
  gap : z.restartGap = none

theorem CausesFit.free (h : CausesFit z) (hst : z.st ≠ .restarting) : NothingHeld z :=
  ⟨h.held.resolve_right fun hr => hst hr.1, h.gap.resolve_right fun hr => hst hr.1⟩

theorem NothingHeld.fits (h : NothingHeld z) (hpause : z.pause = noCauses ↔ z.st ≠ .paused) : CausesFit z :=
  ⟨hpause, .inl h.held, by rw [h.held]; exact ⟨rfl, rfl, rfl⟩, .inl h.gap⟩

theorem causesFit_paused (h : NothingHeld z) (hst : z.st = .paused) (hne : z.pause ≠ noCauses) : CausesFit z :=
  h.fits ⟨fun h => absurd h hne, fun h => absurd hst h⟩

theorem causesFit_elsewhere (h : NothingHeld z) (hst : z.st ≠ .paused) (hnone : z.pause = noCauses) : CausesFit z :=
  h.fits ⟨fun _ => hst, fun _ => hnone⟩

theorem phase_of_zoneKept (h : zoneKept u = zoneKept s) : u.phase = s.phase := (congrArg State.phase h :)

/-- The part is running, or it is in a warm reset and nothing is promised of the causes. -/
def Acts (a w : Bool) (s : State) : Prop := s.phase = .running ∨ (a = false ∧ w = true ∧ s.phase = .warmReset)

theorem Acts.same (h : Acts a w s) (hp : u.phase = s.phase) : Acts a w u := by
  unfold Acts
  rw [hp]
  exact h

theorem shedBound_restarting (h : z.st = .restarting) : shedBound z = 0 := by rw [shedBound, h]

theorem shedBound_unconfigured (h : z.st = .unconfigured) : shedBound z = 0 := by rw [shedBound, h]

theorem shedBound_paused (h : z.st = .paused) : shedBound z = 0 := by rw [shedBound, h]

namespace Zone

/-- A part that acts, in a state that promises nothing of the channels. -/
theorem unshed (hp : Acts a w u) (hbound : shedBound u.zs = 0) (hc : a = true → CausesFit u.zs) : Zone a b w u := by
  have hshed (_ : b = true) : ShutTo (shedBound u.zs) u := by rw [hbound]; exact shutTo_zero u
  rcases hp with hp | ⟨ha, hw, hp⟩
  · exact of_running hp hc hshed
  · exact ⟨.inr (.inl hp), fun h => absurd (h.symm.trans hw) (by decide), hc, fun h => absurd (ha.symm.trans h) (by decide), hshed⟩

/-! ## The beginning of a restart stage -/

theorem pauses (hrun : Acts a w s) (hfree : a = true → NothingHeld s.zs) {causes : Causes} (hne : causes ≠ noCauses) :
    Zone a b w (pauseWith causes s) := by
  obtain ⟨slc, heq⟩ := pauseWith_eq causes s
  rw [heq]
  exact unshed hrun rfl fun ha => causesFit_paused ⟨(hfree ha).held, (hfree ha).gap⟩ rfl hne

theorem runsStage (hrun : Acts a w s) (hfree : a = true → NothingHeld s.zs) (hpause : a = true → s.zs.pause = noCauses)
    (r : Nat) : Zone a b w (runStage r s) := by
  have hphase : (runStage r s).phase = s.phase := phase_of_zoneKept (zoneKept_runStage r s)
  obtain ⟨⟨waiver, hzs⟩, -⟩ := runStage_runs r s
  generalize runStage r s = u at hphase hzs
  generalize u.zs.runPending = pending at hzs
  refine unshed (hrun.same hphase) (by rw [hzs]; rfl) fun ha => ?_
  rw [hzs]
  exact causesFit_elsewhere ⟨(hfree ha).held, (hfree ha).gap⟩ (by decide : SeqState.restarting ≠ .paused) (hpause ha)

theorem completesRestart (hrun : Acts a w s) (hfree : a = true → NothingHeld s.zs)
    (hpause : a = true → s.zs.pause = noCauses) : Zone a b w (completeRestart s) := by
  obtain ⟨slc, heq⟩ := completeRestart_eq s
  rw [heq]
  exact closes (unshed hrun rfl fun ha =>
    causesFit_elsewhere ⟨(hfree ha).held, (hfree ha).gap⟩ (by decide : SeqState.running ≠ .paused) (hpause ha))

theorem beginsClaim (hrun : Acts a w s) (hfree : a = true → NothingHeld s.zs) (hpause : a = true → s.zs.pause = noCauses)
    (r : Nat) : Zone a b w (beginClaim r s) := by
  unfold beginClaim
  dsimp only
  generalize hv : s.setZs { s.zs with stageWeight := weightOfStage r s } = v
  have hvrun : Acts a w v := by rw [← hv]; exact hrun
  have free (ha : a = true) : NothingHeld v.zs := by rw [← hv]; exact ⟨(hfree ha).held, (hfree ha).gap⟩
  have none (ha : a = true) : v.zs.pause = noCauses := by rw [← hv]; exact hpause ha
  have claims : Zone a b w (enterState .claiming v) := by
    rw [enterState_eq]
    exact unshed hvrun rfl fun ha =>
      causesFit_elsewhere ⟨(free ha).held, (free ha).gap⟩ (by decide : SeqState.claiming ≠ .paused) (none ha)
  split
  · exact runsStage hvrun free none r
  · split
    · exact claims.requestsClaim _ _
    · split
      · exact runsStage hvrun free none r
      · exact pauses hvrun free (by decide)

theorem beginsPrecheck (hrun : Acts a w s) (hfree : a = true → NothingHeld s.zs)
    (hpause : a = true → s.zs.pause = noCauses) (r : Nat) : Zone a b w (beginPrecheck r s) := by
  unfold beginPrecheck
  split
  · exact beginsClaim hrun hfree hpause r
  · split
    · exact beginsClaim (s := s.setZs { s.zs with checkedStage := none }) hrun
        (fun ha => ⟨(hfree ha).held, (hfree ha).gap⟩) hpause r
    · exact pauses (s := s.setZs { s.zs with checkedStage := some r }) hrun
        (fun ha => ⟨(hfree ha).held, (hfree ha).gap⟩) (by decide)

theorem beginsStage (hrun : Acts a w s) (hheld : a = true → s.zs.held = noCauses) :
    Zone a b w (beginStage s) := by
  have hleft : Acts a w (stageLeft s) := hrun
  have left (ha : a = true) : NothingHeld (stageLeft s).zs := ⟨hheld ha, rfl⟩
  have none (ha : a = true) : (stageLeft s).zs.pause = noCauses := rfl
  cases hconsole : s.zs.consoleHold with
  | true => rw [beginStage_console hconsole]; exact pauses hleft left (by decide)
  | false =>
    cases hreset : s.zs.resetDue with
    | some d =>
      rw [beginStage_reset hconsole (by rw [hreset]; rfl)]
      exact pauses hleft left (by decide)
    | none =>
      rw [beginStage_free ⟨hconsole, hreset⟩]
      generalize stageLeft s = v at hleft left none
      split
      case h_1 r _ =>
        exact beginsPrecheck (s := v.setZs { v.zs with nextRestart := r }) hleft
          (fun ha => ⟨(left ha).held, (left ha).gap⟩) none r
      case h_2 => exact completesRestart hleft left none

/-- The causes of a pause have changed: the restart goes on when none is left. -/
theorem leavesPause (hrun : Acts a w s) (hst : s.zs.st = .paused) (hfree : a = true → NothingHeld s.zs) :
    Zone a b w (leavePause s) := by
  by_cases hpause : s.zs.pause = noCauses
  · rw [leavePause_begins hst hpause]
    exact beginsStage hrun fun ha => (hfree ha).held
  · rw [leavePause_stays (.inr hpause)]
    exact unshed hrun (by rw [shedBound, hst]) fun ha => causesFit_paused (hfree ha) hst hpause

/-! ## The hold -/

theorem holdFallsDue (h : Zone a b false s) (hruns : holdRuns s = true) : Zone a b false (holdFalls s) := by
  have hst : s.zs.st = .watch ∨ s.zs.st = .paused := by
    simp only [holdRuns, Bool.or_eq_true, Bool.and_eq_true, beq_iff_eq] at hruns
    exact hruns.imp_right And.left
  rcases hst with hst | hst
  · have hrun := h.runs (by rw [hst]; decide)
    have free (ha : a = true) : NothingHeld s.zs := (h.causes ha).free (by rw [hst]; decide)
    have hbound : shedBound s.zs = 8 := by rw [shedBound, hst]
    rw [holdFalls_watch hst]
    split
    · refine places (s := s.setZs { s.zs with st := .awaitPermit, holdDue := none })
        (of_running hrun (fun ha => ?_) fun hb => ?_) .status
      · exact causesFit_elsewhere ⟨(free ha).held, (free ha).gap⟩ (by decide : SeqState.awaitPermit ≠ .paused)
          ((h.causes ha).pause.mpr (by rw [hst]; decide))
      · have hshed := h.shed hb
        rw [hbound] at hshed
        exact hshed
    · exact beginsStage (.inl hrun) fun ha => (free ha).held
  · have hrun := h.runs (by rw [hst]; decide)
    have free (ha : a = true) : NothingHeld s.zs := (h.causes ha).free (by rw [hst]; decide)
    rw [holdFalls_paused hst]
    exact leavesPause (s := s.setZs _) (.inl hrun) hst fun ha => ⟨(free ha).held, (free ha).gap⟩

theorem recomputesHold (h : Zone a b false s) : Zone a b false (recomputeHold s) := by
  unfold recomputeHold
  split
  case isTrue hruns =>
    split
    · exact h.holdFallsDue hruns
    · exact h.of
  case isFalse => exact h

theorem entersWatch (hrun : s.phase = .running) (hfree : a = true → NothingHeld s.zs)
    (hpause : a = true → s.zs.pause = noCauses) (hshed : b = true → ShutTo 8 s) : Zone a b false (enterWatch s) := by
  refine recomputesHold ?_
  rw [enterState_eq]
  exact of_running hrun (fun ha => causesFit_elsewhere ⟨(hfree ha).held, (hfree ha).gap⟩ (by decide : SeqState.watch ≠ .paused)
    (hpause ha)) hshed

theorem entersPaused (hrun : s.phase = .running) (hfree : a = true → NothingHeld s.zs) {causes : Causes}
    (hne : causes ≠ noCauses) : Zone a b false (enterPaused causes s) := (pauses (.inl hrun) hfree hne).recomputesHold

/-! ## Shutdown -/

/-- A shutdown stage begun has every channel of it SHUT, and no other channel has moved (R119). -/
theorem shutTo_begun {k : Nat} (h : StageBegun k s u) (c : Channel) (hc : command u c = some .run) :
    command s c = some .run ∧ (chanCfg s c).shutdownStage ≠ k := by
  by_cases hin : c ∈ shutdownChannels k s
  · obtain ⟨q, hq, hcmd⟩ := (hasCmd_iff .shut u c).mp (h.shut c hin)
    rw [command, hq] at hc
    exact absurd (hcmd.symm.trans (Option.some_inj.mp hc)) (by decide)
  · have hsame : command s c = some .run := by rw [command, ← h.others c hin]; exact hc
    refine ⟨hsame, fun hk => hin ((mem_shutdownChannels k s c).mpr ⟨?_, hk⟩)⟩
    rw [command] at hsame
    rw [← Option.isSome_map (f := fun r : ChanRun => r.cmd), hsame]
    rfl

/-- The sequencer and the channels as the stages of a list are to be shut down: the channels of every other stage are
SHUT already (R119 to R121). -/
structure Shedding (a b : Bool) (l : List Nat) (s : State) : Prop where
  run : s.phase = .running
  st : s.zs.st = .shutting
  free : a = true → NothingHeld s.zs ∧ s.zs.pause = noCauses
  order : l.Pairwise (· < ·)
  later : ∀ k ∈ l, s.zs.currentStage < k ∧ k ≤ 8
  shut : b = true → ∀ c, command s c = some .run →
    (chanCfg s c).shutdownStage = 0 ∨ 8 < (chanCfg s c).shutdownStage ∨ (chanCfg s c).shutdownStage ∈ l

/-- Between two stages, with the stages up to the current one SHUT. -/
theorem stageDone (hrun : s.phase = .running) (hst : s.zs.st = .shutting) (hstage : s.zs.stage = none)
    (hfree : a = true → NothingHeld s.zs ∧ s.zs.pause = noCauses) (hshed : b = true → ShutTo s.zs.currentStage s) :
    Zone a b false s := by
  refine of_running hrun (fun ha => causesFit_elsewhere (hfree ha).1 (by rw [hst]; decide) (hfree ha).2) fun hb => ?_
  have hbound : shedBound s.zs = s.zs.currentStage := by
    unfold shedBound
    rw [hst, hstage]
    exact Nat.max_eq_right (Nat.zero_le _)
  rw [hbound]
  exact hshed hb

/-- A stage that has begun may be in progress or complete (R121). -/
theorem shedding_begun {k : Nat} {ks : List Nat} (h : Shedding a b (k :: ks) s) (hb : StageBegun k s u) :
    Zone a b false u ∧ Zone a b false (u.setZs { u.zs with currentStage := k, stage := none }) ∧
      Shedding a b ks (u.setZs { u.zs with currentStage := k, stage := none }) := by
  obtain ⟨-, -, -, -, -, -, hcfg, -, hzs⟩ := hb.same
  have hphase : u.phase = s.phase := by
    obtain ⟨cd, hm, heq⟩ := hb.around
    rw [heq]
    rfl
  obtain ⟨run, st, free, order, later, shut⟩ := h
  obtain ⟨hfirst, hrest⟩ := List.pairwise_cons.mp order
  have hust : u.zs.st = .shutting := by rw [hzs]; exact st
  have hfree (ha : a = true) : NothingHeld u.zs ∧ u.zs.pause = noCauses := by
    obtain ⟨⟨hheld, hgap⟩, hpause⟩ := free ha
    rw [hzs]
    exact ⟨⟨hheld, hgap⟩, hpause⟩
  have hlater (hb' : b = true) (c : Channel) (hc : command u c = some .run) :
      (chanCfg u c).shutdownStage = 0 ∨ 8 < (chanCfg u c).shutdownStage ∨ (chanCfg u c).shutdownStage ∈ ks := by
    obtain ⟨hrunning, hne⟩ := shutTo_begun hb c hc
    rw [hcfg]
    exact (shut hb' c hrunning).imp_right fun h => h.imp_right fun h => (List.mem_cons.mp h).resolve_left hne
  obtain ⟨hcurrent, hk⟩ := later k List.mem_cons_self
  have hhigh (hb' : b = true) : ShutTo k u := fun c hc =>
    (hlater hb' c hc).imp_right fun h => h.elim (fun h => Nat.lt_of_le_of_lt hk h) fun h => hfirst _ h
  have hstage : shedBound u.zs = k := by
    rw [hzs]
    unfold shedBound
    rw [show ({ s.zs with stage := some k, acted := _, shutPending := _ } : SeqRecord).st = .shutting from st]
    exact Nat.max_eq_left (Nat.le_of_lt hcurrent)
  have hnotPaused : u.zs.st ≠ .paused := by rw [hust]; decide
  refine ⟨of_running (hphase.trans run) (fun ha => causesFit_elsewhere (hfree ha).1 hnotPaused (hfree ha).2)
      fun hb' => hstage.symm ▸ hhigh hb',
    stageDone (s := u.setZs { u.zs with currentStage := k, stage := none }) (hphase.trans run) hust rfl (fun ha => ?_) hhigh,
    ⟨hphase.trans run, hust, fun ha => ?_, hrest, fun j hj => ?_, hlater⟩⟩
  · exact ⟨⟨(hfree ha).1.held, (hfree ha).1.gap⟩, (hfree ha).2⟩
  · exact ⟨⟨(hfree ha).1.held, (hfree ha).1.gap⟩, (hfree ha).2⟩
  · exact ⟨hfirst j hj, (later j (List.mem_cons_of_mem k hj)).2⟩

theorem runsShutdown (l : List Nat) : ∀ {s : State}, Shedding a b l s → Zone a b false (runShutdown l s) := by
  induction l with
  | nil =>
    intro s h
    exact entersWatch h.run (fun ha => (h.free ha).1) (fun ha => (h.free ha).2) fun hb c hc =>
      (h.shut hb c hc).imp_right fun h => h.resolve_right List.not_mem_nil
  | cons k ks ih =>
    intro s h
    by_cases hk : stageHasChannels s k = true
    case neg =>
      rw [runShutdown, if_neg hk]
      obtain ⟨run, st, free, order, later, shut⟩ := h
      refine ih ⟨run, st, free, (List.pairwise_cons.mp order).2, fun j hj => later j (List.mem_cons_of_mem k hj),
        fun hb c hc => (shut hb c hc).imp_right fun h => h.imp_right fun h => (List.mem_cons.mp h).resolve_left fun heq => hk ?_⟩
      refine (stageHasChannels_iff s k).mpr ⟨c, ?_, heq⟩
      rw [command] at hc
      rw [← Option.isSome_map (f := fun r : ChanRun => r.cmd), hc]
      rfl
    case pos =>
      obtain ⟨begun, done, next⟩ := shedding_begun h (beginShutdownStage_begun k s)
      rw [runShutdown_cons ks hk]
      generalize beginShutdownStage k s = v at begun done next ⊢
      split
      · split
        · exact done.of
        · exact ih next
      · exact begun

theorem mem_allStages (k : Nat) : k ∈ allStages ↔ 1 ≤ k ∧ k ≤ 8 := by
  simp only [allStages, List.mem_cons, List.not_mem_nil, or_false]
  omega

/-- The stages behind one that is SHUT, with every stage before it (R121). -/
theorem shedding_after {k : Nat} (hrun : s.phase = .running) (hst : s.zs.st = .shutting) (hcurrent : s.zs.currentStage = k)
    (hfree : a = true → NothingHeld s.zs ∧ s.zs.pause = noCauses) (hshed : b = true → ShutTo k s) :
    Shedding a b (stagesAfter k) s := by
  refine ⟨hrun, hst, hfree, (by decide : allStages.Pairwise (· < ·)).filter _, fun j hj => ?_, fun hb c hc => ?_⟩
  · obtain ⟨-, hlow, hhigh⟩ := (mem_stagesAfter j k).mp hj
    omega
  · refine (hshed hb c hc).imp_right fun h => ?_
    by_cases h8 : 8 < (chanCfg s c).shutdownStage
    · exact .inl h8
    · exact .inr ((mem_stagesAfter _ k).mpr ⟨by omega, by omega, h⟩)

theorem completesShutdownStage {k : Nat} (h : Zone a b false s) (hst : s.zs.st = .shutting) (hstage : s.zs.stage = some k) :
    Zone a b false (completeShutdownStage k s) := by
  have hrun := h.runs (by rw [hst]; decide)
  have hnotPaused : s.zs.st ≠ .paused := by rw [hst]; decide
  have free (ha : a = true) : NothingHeld s.zs ∧ s.zs.pause = noCauses :=
    ⟨(h.causes ha).free (by rw [hst]; decide), (h.causes ha).pause.mpr hnotPaused⟩
  have shed (hb : b = true) : ShutTo k s := by
    refine (h.shed hb).mono ?_
    unfold shedBound
    rw [hst, hstage]
    exact Nat.le_max_left k _
  have free' (ha : a = true) : NothingHeld (s.setZs { s.zs with currentStage := k, stage := none }).zs ∧
      (s.setZs { s.zs with currentStage := k, stage := none }).zs.pause = noCauses :=
    ⟨⟨(free ha).1.held, (free ha).1.gap⟩, (free ha).2⟩
  have done : Zone a b false (s.setZs { s.zs with currentStage := k, stage := none }) :=
    stageDone hrun hst rfl free' shed
  unfold completeShutdownStage
  dsimp only
  split
  · exact done.of
  · exact runsShutdown _ (shedding_after hrun hst rfl free' shed)

theorem startsShutdown (hrun : s.phase = .running) : Zone a b false (shutdownStart s) := by
  unfold shutdownStart
  dsimp only
  have hst : (enterState .shutting s).zs.st = .shutting := by rw [enterState_eq]; rfl
  have hphase : (enterState .shutting s).phase = .running := by rw [enterState_eq]; exact hrun
  generalize enterState .shutting s = v at hst hphase
  refine runsShutdown allStages ⟨hphase, hst, fun _ => ⟨⟨rfl, rfl⟩, rfl⟩, by decide, fun k hk => ?_, fun _ c _ => ?_⟩
  · exact (mem_allStages k).mp hk
  · rw [mem_allStages]
    exact (by omega : ∀ n : Nat, n = 0 ∨ 8 < n ∨ 1 ≤ n ∧ n ≤ 8) _

/-! ## Trips and activity -/

theorem hasTripEffect (h : Zone a b false s) : Zone a b false (tripEffect s) := by
  have aborted (hrun : s.phase = .running) : (abortRestart s).phase = .running :=
    (phase_of_zoneKept (zoneKept_abortRestart s)).trans hrun
  have runs (hst : s.zs.st ≠ .unconfigured) : s.phase = .running := h.runs hst
  unfold tripEffect
  split
  case h_1 => exact h
  case h_4 => exact h
  case h_2 hst | h_3 hst | h_5 hst | h_6 hst => exact startsShutdown (runs (by rw [hst]; decide))
  case h_7 hst | h_8 hst | h_9 hst => exact startsShutdown (aborted (runs (by rw [hst]; decide)))

theorem tripsZone (h : Zone a b false s) (g : Nat) : Zone a b false (zsTrip g s) := by
  unfold zsTrip
  split
  · exact h
  · exact hasTripEffect h.of

theorem takesActivity (h : Zone a b w s) (t g : Nat) : Zone a b w (takeActivity t g s) := by
  have reported : Zone a b w (s.setZs { s.zs with ta := max s.zs.ta t }) := h.of
  unfold takeActivity
  dsimp only
  split
  · exact raisesRecord reported.of g
  · exact reported

/-- A withdrawal leaves the phase and the sequencer as they are. -/
theorem withdrawClaim_same (s : State) : (withdrawClaim s).zs = s.zs ∧ (withdrawClaim s).phase = s.phase := by
  obtain ⟨icu, slc, heq, -⟩ := withdrawClaim_eq s
  rw [heq]
  exact ⟨rfl, rfl⟩

/-- A pause that replaces the own claim (R145, R148). -/
theorem withdrawsAndPauses (h : Zone a b false s) (hst : s.zs.st = .claiming) {causes : Causes} (hne : causes ≠ noCauses) :
    Zone a b false (enterPaused causes (withdrawClaim s)) := by
  obtain ⟨hzs, hphase⟩ := withdrawClaim_same s
  refine entersPaused (hphase.trans (h.runs (by rw [hst]; decide))) (fun ha => ?_) hne
  rw [hzs]
  exact (h.causes ha).free (by rw [hst]; decide)

/-- A pause that replaces the restart gap (R145, R148). -/
theorem leavesGap (h : Zone a b false s) (hst : s.zs.st = .restarting) (hstage : s.zs.restartStage = none) {causes : Causes}
    (hne : causes ≠ noCauses) : Zone a b false (enterPaused causes (s.setZs { s.zs with restartGap := none })) := by
  refine entersPaused (s := s.setZs { s.zs with restartGap := none }) (h.runs (by rw [hst]; decide)) (fun ha => ⟨?_, rfl⟩) hne
  exact (h.causes ha).held.resolve_right fun hr => absurd hr.2 (by rw [hstage]; decide)

/-- A cause held back in a restart stage (R146, R148). -/
theorem holdsBack (h : Zone a b false s) (hst : s.zs.st = .restarting) (hstage : s.zs.restartStage.isSome = true) {causes : Causes}
    (hkinds : a = true → causes.channel = false ∧ causes.precheck = false ∧ causes.line = false) :
    Zone a b false (s.setZs { s.zs with held := causes }) := by
  refine unshed (.inl (h.runs (by rw [hst]; decide))) (shedBound_restarting hst) fun ha => ?_
  exact ⟨(h.causes ha).pause, .inr ⟨hst, hstage⟩, hkinds ha, (h.causes ha).gap⟩

theorem hasActivityEffect (h : Zone a b false s) (aftershock : Bool) : Zone a b false (activityEffect aftershock s) := by
  unfold activityEffect
  split
  case h_1 => exact h.of
  case h_2 hst =>
    refine entersWatch (h.runs (by rw [hst]; decide)) (fun ha => (h.causes ha).free (by rw [hst]; decide))
      (fun ha => (h.causes ha).pause.mpr (by rw [hst]; decide)) fun hb => ?_
    have hshed := h.shed hb
    rw [shedBound, hst] at hshed
    exact hshed
  case h_3 hst => exact .either (h.withdrawsAndPauses hst (by decide)) h
  case h_4 hst =>
    split
    · split
      case isTrue hstage => exact h.holdsBack hst hstage fun ha => (h.causes ha).kinds
      case isFalse hstage => exact h.leavesGap hst (by simpa using hstage) (by decide)
    · exact h
  case h_5 hst =>
    refine .either (entersPaused (h.runs (by rw [hst]; decide)) (fun ha => (h.causes ha).free (by rw [hst]; decide)) fun hne => ?_) h
    exact absurd (congrArg Causes.aftershock hne) (by decide : true ≠ false)
  all_goals exact h

theorem reportsActivity (h : Zone a b false s) (t g : Nat) (aftershock : Bool) :
    Zone a b false (activity t g aftershock s) := by
  unfold activity
  split
  · exact h
  · refine hasActivityEffect ?_ aftershock
    split
    · exact h.takesActivity t g
    · exact (h.takesActivity t g).recomputesHold

/-! ## The ends of a stage -/

theorem endsRestartStage (h : Zone a b false s) (hst : s.zs.st = .restarting) (hstage : s.zs.restartStage.isSome = true)
    (r : Nat) : Zone a b false (endRestartStage r s) := by
  have hrun := h.runs (by rw [hst]; decide)
  have hgap (ha : a = true) : s.zs.restartGap = none :=
    (h.causes ha).gap.resolve_right fun hg => absurd (hg.2 ▸ hstage) (by decide)
  unfold endRestartStage
  dsimp only
  generalize hv : s.setZs { s.zs with restartStage := none, nextRestart := r + 1, held := noCauses, inrushDue := none } = v
  have hvrun : v.phase = .running := by rw [← hv]; exact hrun
  have hvst : v.zs.st = .restarting := by rw [← hv]; exact hst
  split
  case isTrue =>
    refine unshed (.inl hvrun) (shedBound_restarting hvst) fun ha => ?_
    subst hv
    exact ⟨(h.causes ha).pause, .inl rfl, ⟨rfl, rfl, rfl⟩, .inr ⟨hst, rfl⟩⟩
  case isFalse hne =>
    refine entersPaused hvrun (fun ha => ?_) fun h => hne ((causesEmpty_iff _).mpr h)
    subst hv
    exact ⟨rfl, hgap ha⟩

theorem endsIfOver (h : Zone a b false s) (hst : s.zs.st = .restarting) : Zone a b false (endIfOver s) := by
  unfold endIfOver
  split
  case h_1 hstage => exact .either (h.endsRestartStage hst (by rw [hstage]; rfl) _) h
  case h_2 => exact h

theorem leavesPending (h : Zone a b false s) (c : Channel) (unconfirmed : Bool) : Zone a b false (leftPending c unconfirmed s) := by
  unfold leftPending
  split
  case h_1 hst =>
    unfold shutdownReport
    split
    case h_1 k hk =>
      have moved : Zone a b false (s.setZs { s.zs with shutPending := s.zs.shutPending.filter (fun d => d != c) }) := h.of
      exact .either (.either (moved.completesShutdownStage hst hk) moved) h
    case h_2 => exact h
  case h_2 hst =>
    unfold restartReport
    split
    · have moved : Zone a b false (s.setZs { s.zs with
          runPending := s.zs.runPending.filter (fun d => d != c), unconfMark := s.zs.unconfMark || unconfirmed }) := h.of
      exact .either (moved.endsIfOver hst) h
    · exact h
  all_goals exact h

/-! ## The line, the console and the confirmation -/

theorem redecides (h : Acts a w s) (hfree : a = true → NothingHeld s.zs) (hpause : a = true → s.zs.pause = noCauses) :
    Zone a b w (redecideStage s) := by
  obtain ⟨hzs, hphase⟩ := withdrawClaim_same s
  have hacts := h.same hphase
  unfold redecideStage
  dsimp only
  rw [← hzs] at hfree hpause
  exact .either (runsStage hacts hfree hpause _) (pauses hacts hfree (by decide))

theorem acts (h : Zone a b w s) (hst : s.zs.st ≠ .unconfigured) (hno : a = true → s.phase ≠ .warmReset) : Acts a w s := by
  rcases h.start with hp | hp | hp
  · exact .inl hp
  · cases a with
    | true => exact absurd hp (hno rfl)
    | false => cases w with
      | true => exact .inr ⟨rfl, rfl, hp⟩
      | false => exact absurd hp (h.phase rfl)
  · exact absurd hp hst

/-- The line may become unusable or usable again in a warm reset too, where RESET keeps a pause (R149). -/
theorem changesLine (h : Zone a b w s) (before : Bool) : Zone a b w (lineChange before s) := by
  unfold lineChange
  refine .either h (.either (h.whenDue fun hst => ?_) (h.whenDue fun ⟨hst, hline⟩ => ?_))
  · have hacts : Acts a w s := h.acts (by rw [hst]; decide) fun ha hp => (h.reset ha hp).1 hst
    exact redecides hacts (fun ha => (h.causes ha).free (by rw [hst]; decide))
      fun ha => (h.causes ha).pause.mpr (by rw [hst]; decide)
  · have free (ha : a = true) : NothingHeld s.zs := (h.causes ha).free (by rw [hst]; decide)
    by_cases hreset : a = true ∧ s.phase = .warmReset
    · obtain ⟨ha, hp⟩ := hreset
      have hkept : s.zs.pause.reset = true := (h.reset ha hp).2 hst
      have hne : ({ s.zs.pause with line := false } : Causes) ≠ noCauses := fun hnone =>
        absurd (hkept.symm.trans (congrArg Causes.reset hnone :)) (by decide)
      rw [leavePause_stays (.inr hne)]
      refine ⟨h.start, h.phase, fun ha => ?_, fun ha hp => ⟨(h.reset ha hp).1, fun _ => hkept⟩, fun _ => ?_⟩
      · exact causesFit_paused ⟨(free ha).held, (free ha).gap⟩ hst hne
      · rw [shedBound_paused (by exact hst)]
        exact shutTo_zero _
    · have hacts : Acts a w s := h.acts (by rw [hst]; decide) fun ha hp => hreset ⟨ha, hp⟩
      exact leavesPause (s := s.setZs { s.zs with pause := { s.zs.pause with line := false } }) hacts hst
        fun ha => ⟨(free ha).held, (free ha).gap⟩

theorem holdsZone (h : Zone a b false s) : Zone a b false (zsHold s) := by
  have flagged : Zone a b false (s.setZs { s.zs with consoleHold := true }) := h.of
  unfold zsHold
  dsimp only
  split
  case h_1 hst => exact flagged.withdrawsAndPauses hst (by decide)
  case h_2 hst =>
    split
    case isTrue hstage => exact flagged.holdsBack hst hstage fun ha => (flagged.causes ha).kinds
    case isFalse hstage => exact flagged.leavesGap hst (by simpa using hstage) (by decide)
  case h_3 hst =>
    have free (ha : a = true) : NothingHeld s.zs := (h.causes ha).free (by rw [show s.zs.st = _ from hst]; decide)
    refine unshed (.inl (flagged.runs (by rw [hst]; decide))) (shedBound_paused hst) fun ha =>
      causesFit_paused ⟨(free ha).held, (free ha).gap⟩ hst fun hne => ?_
    exact absurd (congrArg Causes.console hne) (by decide : true ≠ false)
  all_goals exact flagged

theorem resumesZone (h : Zone a b false s) : Zone a b false (zsResume s) := by
  unfold zsResume
  generalize hv : s.setZs { s.zs with
      consoleHold := false, pause := afterResume s.zs.pause, held := afterResume s.zs.held,
      waiver := if s.zs.pause.precheck || s.zs.held.precheck then s.zs.checkedStage else s.zs.waiver } = v
  by_cases hst : s.zs.st = .paused
  · refine leavesPause (.inl ?_) ?_ fun ha => ?_
    · rw [← hv]
      exact h.runs (by rw [hst]; decide)
    · rw [← hv]
      exact hst
    · have hfree := (h.causes ha).free (by rw [hst]; decide)
      subst hv
      exact ⟨congrArg afterResume hfree.held, hfree.gap⟩
  · rw [leavePause_stays (.inl (by rw [← hv]; exact hst))]
    subst hv
    refine ⟨h.start, h.phase, fun ha => ?_, fun _ hp => absurd hp (h.phase rfl), h.shed⟩
    obtain ⟨hpause, hheld, ⟨-, -, hline⟩, hgap⟩ := h.causes ha
    exact ⟨⟨fun _ => hst, fun _ => congrArg afterResume (hpause.mpr hst)⟩, hheld.imp_left (congrArg afterResume),
      ⟨rfl, rfl, hline⟩, hgap⟩

theorem confirmsZone (h : Zone a b false s) : Zone a b false (zsConfirm s) := by
  unfold zsConfirm
  refine h.whenDue fun hst => ?_
  exact runsStage (.inl (h.runs (by rw [hst]; decide))) (fun ha => (h.causes ha).free (by rw [hst]; decide))
    (fun ha => (h.causes ha).pause.mpr (by rw [hst]; decide)) _

theorem settlesClose (h : Zone a b false s) : Zone a b false (settleClose s) := .either h.takesClose.recomputesHold h

end Zone

end Sys2Proof.Machine

/-! The blocks beside the sequencer keep what is promised of the zone (O59). -/

namespace Sys2Proof.Machine

namespace Zone

variable {a b w : Bool} {s u : State}

/-! ## The vote unit -/

theorem reportsPrecheck (h : Zone a b false s) (before : Bool) : Zone a b false (precheckReport before s) := by
  unfold precheckReport
  split
  case h_1 =>
    refine h.whenDue fun ⟨hst, _⟩ => ?_
    exact leavesPause (s := s.setZs _) (.inl (h.runs (by rw [hst]; decide))) hst fun ha =>
      ⟨((h.causes ha).free (by rw [hst]; decide)).held, ((h.causes ha).free (by rw [hst]; decide)).gap⟩
  case h_2 => exact h

theorem evaluatesArming (h : Zone a b w s) : Zone a b w (armingEval s) := .either h.of h

theorem tripsArmed (h : Zone a b false s) (own origin : Cause) (votes grade : Nat) :
    Zone a b false (tripArmed own origin votes grade s) := by
  have placed : Zone a b false (place (.trip own origin votes (tripGrade grade s) s.nodeTime) (disarm s)) :=
    (h.of : Zone a b false (disarm s)).places _
  have drives {v : State} (hv : Zone a b false v) : Zone a b false (startDrive v) := hv.of
  exact ((Zone.either placed (drives placed)).draws.eitherOrder _ (fun hv => hv.tripsZone _)
    fun hv => hv.requestsTrip _ _ _ _ _).settlesClose

theorem trips (h : Zone a b false s) (own origin : Cause) (votes grade : Nat) :
    Zone a b false (tripOccasion own origin votes grade s) := by
  unfold tripOccasion
  refine .either ?_ h
  split
  · exact h.tripsArmed ..
  · exact h.of

theorem votes (h : Zone a b false s) : Zone a b false (voteTest s) := by
  have counted : Zone a b false (s.setVtu { s.vtu with votes := (countedSet s).length }) := h.of
  exact .either (.either (counted.trips ..) counted.evaluatesArming) h

theorem votesSolo (h : Zone a b false s) : Zone a b false (soloTest s) := .either (h.trips ..) h

theorem followsExclusion (h : Zone a b false s) (before : Bool) : Zone a b false (followExclusion before s) :=
  .either h (h.of : Zone a b false (refreshOwnWindow s)).votes

theorem tripArrives (h : Zone a b false s) (p : TripPayload) : Zone a b false (vtuTripArrival p s) :=
  .either (h.trips ..).permitsRecord (h.trips ..)

theorem releasesWire (h : Zone a b false s) : Zone a b false (wireReleases s) := by
  have released : Zone a b false (s.setVtu { s.vtu with wire := .released, confirmDue := none, stuckDue := none }) := h.of
  exact (Zone.either (released.clears _) released).evaluatesArming

/-! ## The Peer View -/

theorem setsPeer (h : Zone a b w s) (i : StationId) (e : PeerEntry) : Zone a b w (setPeer i e s) := h.of

theorem comparesDigests (h : Zone a b w s) : Zone a b w (digestCompare s) := h.follows _ _

theorem updatesPresence (h : Zone a b w s) (i : StationId) (t : Nat) : Zone a b w (presenceUpdate i t s) :=
  .either (h.setsPeer _ _).comparesDigests (h.setsPeer _ _)

theorem storesObservation (h : Zone a b w s) (i : StationId) (o : Observation) : Zone a b w (storeObservation i o s) := by
  unfold storeObservation; dsimp only; repeat' split
  all_goals exact h.setsPeer _ _

/-! ## The motion processor -/

theorem setsMp (h : Zone a b w s) (m : MotionState) : Zone a b w (s.setMp m) := h.of

theorem abortsTest (h : Zone a b w s) : Zone a b w (abortTest s) := .either h.of h

theorem reportsToVtu (h : Zone a b false s) (raised : Bool) : Zone a b false (reportToVtu raised s) :=
  .either h.votes.votesSolo h.votes

theorem handsReport (h : Zone a b false s) (ph : ReportPhase) (raised aftershock : Bool) :
    Zone a b false (handReport ph raised aftershock s) := by
  have stored := h.storesObservation (ownId s)
    { event := s.mp.event, phase := ph, onset := some s.mp.onsetTime, peak := s.mp.pmg, grade := s.mp.grade }
  unfold handReport; dsimp only
  generalize storeObservation _ _ s = x at stored ⊢
  have queued : Zone a b false (if x.hm.mode = .armed ∧ excluded x = false then
      place (.observe s.mp.event ph s.mp.onsetTime s.mp.pmg s.mp.grade) x else x) := .either (stored.places _) stored
  exact queued.draws.eitherOrder _ (fun hv => hv.reportsToVtu _) fun hv => hv.reportsActivity _ _ _

theorem issues (h : Zone a b false s) (ph : ReportPhase) (raised aftershock : Bool) :
    Zone a b false (issueReport ph raised aftershock s) := (h.setsMp _).handsReport ph raised aftershock

theorem endsEvent (h : Zone a b false s) (next : DetState) (raised : Bool) : Zone a b false (endEvent next raised s) :=
  (h.setsMp _).issues _ _ _

theorem takesVerdict (h : Zone a b false s) : Zone a b false (takeVerdict s) :=
  ((h.setsMp _).follows _ _).followsExclusion _

theorem takesEventSample (h : Zone a b false s) (p : Sample) : Zone a b false (eventSample p s) := by
  rw [eventSample_eq]
  exact .either ((h.setsMp _).endsEvent _ _) (.either ((h.setsMp _).issues _ _ _) ((h.setsMp _).reportsActivity _ _ _))

theorem takesMaskedSample (h : Zone a b false s) (p : Sample) : Zone a b false (maskedSample p s) :=
  .either (.either (h.setsMp _).takesVerdict (h.setsMp _)) (.either ((h.setsMp _).setsMp _) (h.setsMp _))

theorem takesSample (h : Zone a b false s) (p : Sample) : Zone a b false (pipeline p s) := by
  unfold pipeline; split
  · exact h.setsMp _
  · exact h.setsMp _
  · exact .either ((h.setsMp _).issues _ _ _) (h.setsMp _)
  · exact h.takesEventSample p
  · exact h.takesMaskedSample p

theorem countsRecovery (h : Zone a b false s) : Zone a b false (countRecovery s) := by
  have recovered : Zone a b false (followExclusion (excluded s)
      (clearFault .sensorLost (s.setMp { s.mp with recovery := 0 }))) := ((h.setsMp _).clears _).followsExclusion _
  exact .either (.either (.either (recovered.setsMp _) recovered) (h.setsMp _)) h

theorem processesSample (h : Zone a b false s) (x y z : RawCount) : Zone a b false (processSample x y z s) :=
  ((h.setsMp _).takesSample _).countsRecovery

theorem losesSensor (h : Zone a b false s) : Zone a b false (loseSensor s) := by
  have ended : Zone a b false (eventEnded s) := .either (h.endsEvent _ _) h
  have before : Zone a b false (beforeLoss s) := .either (ended.abortsTest.setsMp _) ended
  rw [loseSensor_eq]
  exact ((before.setsMp _).raises _).followsExclusion _

theorem countsMissing (h : Zone a b false s) : Zone a b false (countMissing s) :=
  .either (h.setsMp _).losesSensor (h.setsMp _)

/-! ## The line -/

theorem setsLine (h : Zone a b w s) (l : LineCtl) : Zone a b w (s.setSlc l) := h.of

theorem failsAttempt (h : Zone a b w s) : Zone a b w (failAttempt s) := by
  unfold failAttempt; split
  · exact h.setsLine _
  · exact h

theorem completesAttempt (h : Zone a b w s) : Zone a b w (completeAttempt s) := by
  unfold completeAttempt; split
  · exact h.setsLine _
  · exact h

theorem scoresUp (h : Zone a b w s) (kind : ErrKind) : Zone a b w (scoreUp kind s) :=
  .either (((h.setsLine _).raises _).changesLine _) (h.setsLine _)

theorem scoresDown (h : Zone a b w s) : Zone a b w (scoreDown s) :=
  .either (((h.setsLine _).clears _).changesLine _) (h.setsLine _)

theorem hearsLine (h : Zone a b w s) : Zone a b w (hearLine s) :=
  .either (((h.setsLine _).clears _).changesLine _) (h.setsLine _)

theorem completesFrame (h : Zone a b w s) : Zone a b w (frameCompleted s) :=
  .either ((h.setsLine _).scoresDown.completesAttempt.reportsCompletion _) h

theorem takesConflict (h : Zone a b w s) : Zone a b w (takeConflict s) := (h.setsLine _).raises _

/-! ## Frames and commands -/

theorem setsMode (h : Zone a b w s) (m : Mode) : Zone a b w (setMode m s) :=
  (h.of : Zone a b w (s.setHm { s.hm with mode := m })).takesHealth.places _

theorem changesMode (h : Zone a b false s) (m : Mode) : Zone a b false (changeMode m s) := by
  have cleared : Zone a b false (s.setVtu { s.vtu with wouldTrip := 0 }) := h.of
  have emptied : Zone a b false (removeEntry 3 (removeEntry 1 s)) := h.of
  cases m with
  | armed => exact (cleared.setsMode _).votes
  | listen => exact emptied.setsMode _

theorem takesCommand {effect : State → CmdResult × State} (hc : Command effect) (h : Zone a b false s) :
    Zone a b false (effect s).2 := by
  cases hc with
  | permit =>
    unfold permitEffect; split
    case isTrue hst =>
      exact beginsStage (.inl (h.runs (by rw [hst]; decide))) fun ha => ((h.causes ha).free (by rw [hst]; decide)).held
    case isFalse => exact h
  | hold => exact h.holdsZone
  | resume => exact h.resumesZone
  | shutdown =>
    unfold shutdownEffect; split
    · exact h.trips ..
    · exact h
  | test =>
    unfold testEffect; split
    · exact h.of
    · exact h
  | mode m =>
    unfold modeEffect; split
    · exact .either h (h.changesMode m)
    · exact h
  | ackFaults => exact h.of
  | report => exact h.places _

theorem isDelivered {deliver : State → State} (hd : Delivery deliver) (h : Zone a b false s) : Zone a b false (deliver s) := by
  cases hd with
  | trip p => exact h.abortsTest.draws.eitherOrder _ (fun hv => hv.tripArrives p) fun hv => hv.reportsActivity _ _ _
  | observe i p =>
    have stored := h.storesObservation i (observationOf p s)
    have tested := Zone.either (p := freshPhase p.phase) stored.abortsTest stored
    exact tested.draws.eitherOrder _ (fun hv => hv.votes) fun hv => hv.reportsActivity _ _ _
  | claim i p => exact h.of
  | release i p => exact h.of
  | status i p => exact (h.setsPeer _ _).comparesDigests
  | command code i p he =>
    unfold deliverCommand
    exact .either (.either (h.takesCommand he).of h.of) h

theorem takesFrame {deliver : State → State} (hd : Delivery deliver) (h : Zone a b false s) (i : StationId) :
    Zone a b false (takeFrame i deliver s) := by
  have heard := h.scoresDown.hearsLine
  have present := heard.updatesPresence i (hearLine (scoreDown s)).slc.tEnd
  exact .either heard.takesConflict (.either (present.isDelivered hd) present)

end Zone

end Sys2Proof.Machine

/-! Every step keeps what is promised of the zone (O59). -/

namespace Sys2Proof.Machine

/-! ## The zone at a warm reset -/

/-- The causes and the state of the sequencer at a warm reset: RESET pauses a claim and a restart gap, and is added to a
pause and to what a restart stage holds back (the table of R149). -/
theorem resetZone_cases (z : SeqRecord) :
    ((z.st = .claiming ∨ (z.st = .restarting ∧ z.restartStage = none)) ∧ (resetZone z).st = .paused ∧
        (resetZone z).pause = { noCauses with reset := true } ∧ (resetZone z).held = z.held) ∨
      (z.st = .paused ∧ (resetZone z).st = .paused ∧ (resetZone z).pause = { z.pause with reset := true } ∧
        (resetZone z).held = z.held) ∨
      ((z.st = .restarting ∧ z.restartStage.isSome = true) ∧ (resetZone z).st = .restarting ∧ (resetZone z).pause = z.pause ∧
        (resetZone z).held = { z.held with reset := true }) ∨
      ((z.st ≠ .claiming ∧ z.st ≠ .paused ∧ z.st ≠ .restarting) ∧ (resetZone z).st = z.st ∧ (resetZone z).pause = z.pause ∧
        (resetZone z).held = z.held) := by
  unfold resetZone
  cases hst : z.st
  case claiming => exact .inl ⟨.inl rfl, rfl, rfl, rfl⟩
  case paused => exact .inr (.inl ⟨rfl, by simp⟩)
  case restarting =>
    cases hstage : z.restartStage with
    | none => exact .inl ⟨.inr ⟨rfl, rfl⟩, by simp⟩
    | some r => exact .inr (.inr (.inl ⟨⟨rfl, rfl⟩, by simp⟩))
  all_goals exact .inr (.inr (.inr ⟨by decide, by simp⟩))

theorem resetZone_paused {z : SeqRecord} (h : (resetZone z).st = .paused) : (resetZone z).pause.reset = true := by
  rcases resetZone_cases z with ⟨-, -, hpause, -⟩ | ⟨-, -, hpause, -⟩ | ⟨-, hst, -, -⟩ | ⟨⟨-, hpaused, -⟩, hst, -, -⟩
  · rw [hpause]
  · rw [hpause]
  · exact absurd (hst.symm.trans h) (by decide)
  · exact absurd (hst.symm.trans h) hpaused

theorem resetZone_claiming (z : SeqRecord) : (resetZone z).st ≠ .claiming := by
  rcases resetZone_cases z with ⟨-, hst, -, -⟩ | ⟨-, hst, -, -⟩ | ⟨-, hst, -, -⟩ | ⟨⟨hclaiming, -, -⟩, hst, -, -⟩
  all_goals rw [hst]
  · decide
  · decide
  · decide
  · exact hclaiming

theorem causesFit_resetZone {z : SeqRecord} (h : CausesFit z) : CausesFit (resetZone z) := by
  have hgap : (resetZone z).restartGap = none := rfl
  have hstage : (resetZone z).restartStage = z.restartStage := rfl
  rcases resetZone_cases z with ⟨hz, hst, hpause, hheld⟩ | ⟨hz, hst, hpause, hheld⟩ | ⟨⟨hz, hsome⟩, hst, hpause, hheld⟩ |
    ⟨⟨-, hpaused, hrestarting⟩, hst, hpause, hheld⟩
  · have hnone : z.held = noCauses := h.held.resolve_right fun ⟨hr, hs⟩ => hz.elim
      (fun hc => absurd (hc.symm.trans hr) (by decide)) fun hg => absurd (hg.2 ▸ hs) (by decide)
    exact causesFit_paused ⟨hheld.trans hnone, hgap⟩ hst (by rw [hpause]; decide)
  · refine causesFit_paused ⟨hheld.trans (h.free (by rw [hz]; decide)).held, hgap⟩ hst fun hnone => ?_
    exact absurd (congrArg Causes.reset (hpause.symm.trans hnone) :) (by decide : true ≠ false)
  · refine ⟨?_, .inr ⟨hst, hstage ▸ hsome⟩, by rw [hheld]; exact h.kinds, .inl hgap⟩
    rw [hst, hpause, h.pause, hz]
  · refine causesFit_elsewhere ⟨hheld.trans (h.free hrestarting).held, hgap⟩ ?_ (hpause.trans (h.pause.mpr hpaused))
    rw [hst]
    exact hpaused

theorem shedBound_resetZone (z : SeqRecord) : shedBound (resetZone z) ≤ shedBound z := by
  have hstage : (resetZone z).stage = z.stage := rfl
  have hcurrent : (resetZone z).currentStage = z.currentStage := rfl
  rcases resetZone_cases z with ⟨-, hst, -, -⟩ | ⟨-, hst, -, -⟩ | ⟨-, hst, -, -⟩ | ⟨-, hst, -, -⟩
  · exact Nat.le_trans (Nat.le_of_eq (shedBound_paused hst)) (Nat.zero_le _)
  · exact Nat.le_trans (Nat.le_of_eq (shedBound_paused hst)) (Nat.zero_le _)
  · exact Nat.le_trans (Nat.le_of_eq (shedBound_restarting hst)) (Nat.zero_le _)
  · exact Nat.le_of_eq (by rw [shedBound, shedBound, hst, hstage, hcurrent])

/-- Without LINE and PRECHECK there is nothing that the end of a warm reset takes out of a pause (R150). -/
theorem LineFree.stands {z : SeqRecord} (h : LineFree z) (passes : Bool) :
    ({ z.pause with line := false, precheck := z.pause.precheck && passes } : Causes) = z.pause := by
  obtain ⟨⟨hline, hprecheck⟩, -⟩ := h
  generalize z.pause = c at hline hprecheck
  cases c
  cases hline
  cases hprecheck
  rfl

/-! ## The zone at the end of a cold start -/

/-- The causes and the gap are those of an UNCONFIGURED sequencer, which has none. -/
theorem causesFit_firstZone {x : State} (h : CausesFit x.zs) (hst : x.zs.st = .unconfigured) : CausesFit (firstZone x) := by
  have free := h.free (by rw [hst]; decide)
  have none := h.pause.mpr (by rw [hst]; decide)
  unfold firstZone
  split
  · exact causesFit_elsewhere ⟨free.held, free.gap⟩ (by decide : SeqState.running ≠ .paused) none
  · split
    · exact causesFit_elsewhere ⟨free.held, free.gap⟩ (by decide : SeqState.watch ≠ .paused) none
    · split
      · exact causesFit_elsewhere ⟨free.held, free.gap⟩ (by decide : SeqState.starting ≠ .paused) none
      · exact causesFit_elsewhere ⟨free.held, free.gap⟩ (by decide : SeqState.running ≠ .paused) none

/-- The sequencer starts in no state that promises shed channels but WATCH, in ARMED mode with the record open (R188). -/
theorem shedBound_firstZone (x : State) : shedBound (firstZone x) = 0 ∨
    (shedBound (firstZone x) = 8 ∧ (cfg x).startMode = .armed ∧ x.rcp.record.isOpen = true) := by
  unfold firstZone
  cases hmode : (cfg x).startMode with
  | listen => exact .inl rfl
  | armed =>
    dsimp only
    split
    case isTrue hopen => exact .inr ⟨rfl, rfl, hopen⟩
    case isFalse => split <;> exact .inl rfl

/-- The first commands of a node in ARMED mode with an open record leave RUN no channel of a shutdown stage (R112). -/
theorem shutTo_channelsTaken {r : Option TripRecord} {s : State} (hv : configured s = true) (n : Nat)
    (hmode : (cfg s).startMode = .armed) (hopen : (r.getD lostRecord).isOpen = true) : ShutTo n (channelsTaken r s) := by
  intro c hc
  rw [command, chan_channelsTaken hv] at hc
  have hcfg : chanCfg (channelsTaken r s) c = chanCfg s c := by rw [channelsTaken_eq]; rfl
  rw [hcfg]
  split at hc
  case isFalse => exact absurd hc nofun
  case isTrue =>
    obtain ⟨q, hq, hcmd, -⟩ := classifyChannel_first (chanCfg s c) (rawAck s c) (r.getD lostRecord).isOpen (cfg s).startMode s.nodeTime
    rw [hq] at hc
    have hfirst := hcmd.symm.trans (Option.some_inj.mp hc)
    rw [firstCommand_eq, hmode, hopen] at hfirst
    by_cases hzero : (chanCfg s c).shutdownStage = 0
    · exact .inl hzero
    · cases hkind : (chanCfg s c).kind
      all_goals
        rw [hkind] at hfirst
        simp [hzero] at hfirst

theorem ColdStarted.shed {r : Option TripRecord} {s w : State} (h : ColdStarted r s w) (hst : s.zs.st = .unconfigured) :
    ShutTo (shedBound w.zs) w := by
  obtain ⟨around, hcd, hzs⟩ : w.rcp = recordTaken r s ∧ w.cd = (channelsTaken r s).cd ∧ _ := ⟨by rw [h.around], h.cd, h.zs⟩
  cases hv : configured s with
  | false =>
    rw [if_neg (by rw [hv]; decide)] at hzs
    rw [hzs, shedBound_unconfigured hst]
    exact shutTo_zero w
  | true =>
    rw [if_pos hv] at hzs
    have hbound : shedBound w.zs = shedBound (firstZone (channelsTaken r s)) := by rw [hzs]; rfl
    have htaken : cfg (channelsTaken r s) = cfg s ∧ (channelsTaken r s).rcp.record = r.getD lostRecord := by
      rw [channelsTaken_eq]
      exact ⟨rfl, rfl⟩
    rcases shedBound_firstZone (channelsTaken r s) with hzero | ⟨height, hmode, hopen⟩
    · rw [hbound, hzero]
      exact shutTo_zero w
    · rw [htaken.1] at hmode
      rw [htaken.2] at hopen
      intro c hc
      have hcfg : chanCfg w c = chanCfg (channelsTaken r s) c := by
        rw [chanCfg, chanCfg, htaken.1, cfg, cfg, around]
        rfl
      rw [hbound, hcfg]
      refine shutTo_channelsTaken hv _ hmode hopen c (Eq.trans ?_ hc)
      rw [command, command, chan, chan, hcd]

namespace Zone

variable {a b w : Bool} {s u : State}

/-! ## Deadlines and edges -/

theorem changesInput (h : Zone a b w s) (c : Channel) (high : Bool) : Zone a b w (ackInputChange c high s) := by
  have pinned : Zone a b w (setAckPin c high s) := h.of
  unfold ackInputChange; dsimp only; repeat' split
  · refine pinned.setsChan ‹_› ?_
    unfold filterChange; repeat' split
    all_goals rfl
  · exact pinned
  · exact pinned

theorem filters (h : Zone a b false s) (c : Channel) : Zone a b false (filterDeadline c s) := by
  refine h.whenDue fun _ => ?_
  split
  case h_1 r hr =>
    have changed : Zone a b false (setChan c (some { filteredChange (readsShutAt (chanCfg s c) (rawAck s c)) r with
        filterDue := none }) s) := h.setsChan hr (Rests.filteredChange_cmd _ _)
    refine .either (h.setsChan hr rfl) (reportsPrecheck ?_ _)
    exact .either (changed.followsUnconfirmed.leavesPending _ _) changed.followsUnconfirmed
  case h_2 => exact h

theorem timesOut (h : Zone a b false s) (c : Channel) : Zone a b false (ackDeadline c s) := by
  refine h.whenDue fun _ => ?_
  split
  case h_1 r hr =>
    have unconfirmed : Zone a b false (Machine.setChan c (some { r with conf := .unconfirmed, ackDue := none }) s) :=
      h.setsChan hr rfl
    exact unconfirmed.followsUnconfirmed.leavesPending _ _
  case h_2 => exact h

theorem writes (h : Zone a b w s) : Zone a b w (recordWriteAck s) :=
  h.whenDue fun _ => (((h.of : Zone a b w (s.setRcp { s.rcp with
    writeInFlight := false, attemptDue := none, retry := false })).follows _ _).follows _ _).rewrites

theorem attempts (h : Zone a b w s) : Zone a b w (attemptDeadline s) := by
  have failed : Zone a b w (s.setRcp { s.rcp with failedAt := some s.nodeTime }) := h.of
  exact h.whenDue fun _ => .either (((failed.of : Zone a b w (State.setRcp _ _)).raises _).rewrites) (failed.startsWrite _)

/-- The gap deadline begins the stages behind the current one, which is SHUT with every stage before it (R122). -/
theorem endsGap (h : Zone a b false s) : Zone a b false (gapDeadline s) := by
  refine h.whenDue fun hd => ?_
  have hst := gapFalls_st hd
  refine runsShutdown _ (shedding_after (h.runs (by rw [hst]; decide)) hst rfl (fun ha => ?_) fun hb => ?_)
  · have hfree := (h.causes ha).free (by rw [hst]; decide)
    exact ⟨⟨hfree.held, hfree.gap⟩, (h.causes ha).pause.mpr (by rw [hst]; decide)⟩
  · refine (h.shed hb).mono ?_
    rw [shedBound, hst]
    exact Nat.le_max_right _ _

/-- RESET leaves a pause and the causes held back (R144). -/
theorem endsResetWait (h : Zone a b false s) : Zone a b false (resetDeadline s) := by
  refine h.whenDue fun _ => ?_
  generalize hv : s.setZs { s.zs with
      resetDue := none, pause := { s.zs.pause with reset := false }, held := { s.zs.held with reset := false } } = v
  by_cases hst : s.zs.st = .paused
  · refine leavesPause (.inl ?_) ?_ fun ha => ?_
    · rw [← hv]
      exact h.runs (by rw [hst]; decide)
    · rw [← hv]
      exact hst
    · have hfree := (h.causes ha).free (by rw [hst]; decide)
      subst hv
      exact ⟨congrArg (fun c : Causes => { c with reset := false }) hfree.held, hfree.gap⟩
  · rw [leavePause_stays (.inl (by rw [← hv]; exact hst))]
    subst hv
    refine ⟨h.start, h.phase, fun ha => ?_, fun _ hp => absurd hp (h.phase rfl), h.shed⟩
    obtain ⟨hpause, hheld, hkinds, hgap⟩ := h.causes ha
    exact ⟨⟨fun _ => hst, fun _ => congrArg (fun c : Causes => { c with reset := false }) (hpause.mpr hst)⟩,
      hheld.imp_left (congrArg fun c : Causes => { c with reset := false }), hkinds, hgap⟩

/-- The restart gap runs behind a stage, when nothing is held back (R181). -/
theorem endsRestartGap (h : Zone a b false s) : Zone a b false (restartGapDeadline s) := by
  refine h.whenDue fun hd => ?_
  have hst := restartGapFalls_st hd
  refine beginsStage (.inl (h.runs (by rw [hst]; decide))) fun ha => ?_
  have hgap : s.zs.restartGap ≠ none := fun hnone => by
    simp only [restartGapFalls, hnone, due, Bool.and_false] at hd
    exact absurd hd (by decide)
  obtain ⟨-, hnone⟩ := (h.causes ha).gap.resolve_left hgap
  exact (h.causes ha).held.resolve_right fun hr => absurd (hnone ▸ hr.2) (by decide)

theorem endsInrush (h : Zone a b false s) : Zone a b false (inrushDeadline s) :=
  h.whenDue fun hd => endsIfOver (s := s.setZs { s.zs with inrushDue := none }) h.of (inrushFalls_st (s := s) hd)

theorem fallsDue {f : State → State} (hf : Deadline f) (h : Zone a b false s) : Zone a b false (f s) := by
  cases hf with
  | selftest => exact h.whenDue fun _ => .either h.of h.of
  | idConflict => exact h.whenDue fun _ => (h.setsLine _).clears _
  | heard => exact h.whenDue fun _ => ((h.setsLine _).raises _).changesLine _
  | statusPeriod => exact h.whenDue fun _ => (h.setsLine _).places _
  | silence i => exact h.whenDue fun _ => ((h.removesClaim i).setsPeer _ _).comparesDigests
  | window i => exact h.whenDue fun _ => (h.setsPeer _ _).votes
  | assertion =>
    have rises : Zone a b false (wireRises (setWirePin true s)) := (h.of : Zone a b false (setWirePin true s)).of
    exact .either rises.abortsTest h.of
  | release => exact .either (h.of : Zone a b false (setWirePin false s)).releasesWire h.of
  | confirm =>
    exact h.whenDue fun _ => ((h.of : Zone a b false (s.setVtu { s.vtu with
      wire := .asserted, confirmDue := none })).reportsActivity _ _ _).trips ..
  | stuck =>
    exact h.whenDue fun _ => ((h.of : Zone a b false (s.setVtu { s.vtu with
      wire := .stuck, stuckDue := none })).raises _).evaluatesArming
  | rearm =>
    exact h.whenDue fun _ => (h.of : Zone a b false (s.setVtu { s.vtu with rearmDue := none })).evaluatesArming
  | drive => exact h.whenDue fun _ => h.of
  | ackInput c high => exact h.changesInput c high
  | filter c => exact h.filters c
  | ack c => exact h.timesOut c
  | gap => exact h.endsGap
  | hold =>
    refine h.whenDue fun hd => h.holdFallsDue ?_
    simp only [holdTimeFalls, Bool.and_eq_true] at hd
    exact hd.1.2
  | startWait =>
    refine h.whenDue fun hd => ?_
    have hst := startFalls_st hd
    exact beginsStage (.inl (h.runs (by rw [hst]; decide))) fun ha => ((h.causes ha).free (by rw [hst]; decide)).held
  | reset => exact h.endsResetWait
  | settle => exact h.whenDue fun _ => .either (h.setsIcu _).confirmsZone h.withdrawsAtSettle
  | backoff => exact h.whenDue fun _ => h.makesClaim
  | claimExpiry i => exact h.whenDue fun _ => h.removesClaim _
  | ownExpiry => exact h.whenDue fun _ => (h.removesClaim _).endsClaim
  | inrush => exact h.endsInrush
  | restartGap => exact h.endsRestartGap
  | writeAck => exact h.writes
  | attempt => exact h.attempts

/-! ## Resets -/

theorem resets (id : StationId) (range16 : Bool) (identity : Byte) (s : State) :
    Zone a b w (coldReset id range16 identity s) := by
  have fresh : Zone a b w ({ State.reset with
      pins := s.pins, draws := s.draws, pending := s.pending, phase := .readImage
      rcp := { RecordState.reset with stationId := id, range16 := range16, readDue := some 200 }
      mp := { MotionState.reset with sensorRange16 := range16, sensorRate200 := true, sensorDrdy := true } } : State) :=
    ⟨.inr (.inr rfl), fun _ h => absurd h (by decide : Phase.readImage ≠ .warmReset),
      fun _ => causesFit_elsewhere ⟨rfl, rfl⟩ (by decide : SeqState.unconfigured ≠ .paused) rfl,
      fun _ h => absurd h (by decide : Phase.readImage ≠ .warmReset), fun _ => shutTo_zero _⟩
  exact .either fresh (fresh.raises _)

/-- A part that reads its memory has the sequencer UNCONFIGURED. -/
theorem unconfigured (h : Zone a b w s) (hp : s.phase ≠ .running ∧ s.phase ≠ .warmReset) : s.zs.st = .unconfigured :=
  (h.start.resolve_left hp.1).resolve_left hp.2

theorem takesImage (h : Zone a b w s) (hp : s.phase = .readImage) (c : Option NodeConfig) (digest : Nat) :
    Zone a b w (takeImage c digest s) := by
  have hst := h.unconfigured (by rw [hp]; decide)
  have read (l : LineCtl) (r : RecordState) : Zone a b w (((s.setRcp r).setPhase .readRecord).setSlc l) := by
    refine ⟨.inr (.inr hst), fun _ h => absurd h (by decide : Phase.readRecord ≠ .warmReset), h.causes,
      fun _ h => absurd h (by decide : Phase.readRecord ≠ .warmReset), fun _ => ?_⟩
    rw [shedBound_unconfigured (by exact hst)]
    exact shutTo_zero _
  exact .either (read _ _) ((read _ _).raises _)

theorem beginsWarmReset (h : Zone a b false s) : Zone a b true (beginWarmReset s) := by
  rw [← beginWarmReset_takeWaitingClose, beginWarmReset_eq (takeWaitingClose_closeWaits s)]
  have taken := h.takesClose
  generalize takeWaitingClose s = v at taken ⊢
  refine ⟨.inr (.inl rfl), nofun, fun ha => causesFit_resetZone (taken.causes ha),
    fun _ _ => ⟨resetZone_claiming _, resetZone_paused⟩, fun hb c hc => ?_⟩
  refine ((taken.shed hb).mono (shedBound_resetZone v.zs)) c (Eq.trans ?_ hc)
  have hcancelled (f : Channel → Option ChanRun) : (Vector.ofFn f)[c] = f c := Vector.getElem_ofFn c.isLt
  rw [command, command, chan, chan]
  refine Eq.trans ?_ (congrArg (Option.map fun r : ChanRun => r.cmd) (hcancelled _)).symm
  rw [Option.map_map]
  rfl

theorem startsWaits (h : Zone a b false s) : Zone a b false (startWaits s) := by
  have floored : Zone a b false (recomputeStart (s.setZs { s.zs with startFloor := s.nodeTime + threePs s })) := h.of
  exact .either floored h.recomputesHold

/-- The first state of the sequencer promises what the first commands keep (R112, R188). -/
theorem endsColdStart (h : Zone a b true s) (hp : s.phase = .readRecord) (r : Option TripRecord) :
    Zone a b true (finishColdStart r s) := by
  have hst := h.unconfigured (by rw [hp]; decide)
  have started := beforeWaits_started r s
  have began : Zone a b false (beforeWaits r s) := by
    have hfirst : (channelsTaken r s).zs = s.zs := by rw [channelsTaken_eq]; rfl
    generalize beforeWaits r s = w at started
    refine of_running (by rw [started.around]) (fun ha => ?_) fun hb => ?_
    · rw [started.zs]
      split
      · have fits : CausesFit (firstZone (channelsTaken r s)) :=
          causesFit_firstZone (by rw [hfirst]; exact h.causes ha) (by rw [hfirst]; exact hst)
        exact ⟨fits.pause, fits.held, fits.kinds, fits.gap⟩
      · exact h.causes ha
    · exact started.shed hst
  have ended : Zone a b false (startedUp r s) := by
    rw [startedUp_waits]
    exact began.startsWaits.takesHealth
  rw [finishColdStart_eq]
  exact .either ended.beginsWarmReset ended.any

theorem takesLevelTest (h : Zone a b false s) (c : Channel) : Zone a b false (takeLevelTest c s) := by
  unfold takeLevelTest
  split
  case h_1 q hq =>
    have tested := h.setsChan hq (r' := levelTest (chanCfg s c) (rawAck s c) s.nodeTime q) (Rests.levelTest_cmd _ _ _ _)
    exact .either (tested.leavesPending c false) tested
  case h_2 => exact h

theorem takesLevelTests (h : Zone a b false s) : Zone a b false (endResetChannels s) := by
  have all (l : List Channel) {v : State} (hv : Zone a b false v) :
      Zone a b false (l.foldl (fun st c => takeLevelTest c st) v) := by
    induction l generalizing v with
    | nil => exact hv
    | cons c cs ih => exact ih (hv.takesLevelTest c)
  exact (all allChannels h).followsUnconfirmed

theorem beforeTests (h : Zone a b true s) : Zone a b false (Machine.beforeTests s) := by
  have woken : Zone a b false (s.setPhase .running) := of_running rfl h.causes h.shed
  have set := beforeTests_set s
  refine woken.of ?_ ?_ ?_ fun c => ?_
  · rw [set.zs]
    split <;> rfl
  · rw [set.around]
    rfl
  · rw [set.rcp]
    split <;> rfl
  · rw [set.around]
    rfl

/-- LINE and a PRECHECK that passes leave a pause that RESET or another cause keeps (R150). -/
theorem leavesLine (h : Zone a b true s) (hp : s.phase = .warmReset) :
    Zone a b false (endResetCauses (endResetChannels (Machine.beforeTests s))) := by
  have set := beforeTests_set s
  have before := h.beforeTests
  have tested := before.takesLevelTests
  have free := (EndsReset.refl.endsChannels set.held).free
  have hzs : (Machine.beforeTests s).zs.st = s.zs.st ∧ (Machine.beforeTests s).zs.pause = s.zs.pause := by
    rw [set.zs]
    split <;> exact ⟨rfl, rfl⟩
  have hreset (ha : a = true) (hst : s.zs.st = .paused) : (endResetChannels (Machine.beforeTests s)).zs.pause.reset = true := by
    have hpaused := hzs.1.trans hst
    obtain ⟨cd, hm, heq, -⟩ := endResetChannels_unheard (s := Machine.beforeTests s)
      ⟨by rw [hpaused]; decide, fun h => absurd (hpaused.symm.trans h) (by decide)⟩
    rw [heq]
    exact (congrArg Causes.reset hzs.2 :).trans ((h.reset ha hp).2 hst)
  generalize endResetChannels (Machine.beforeTests s) = v at tested free hreset
  unfold endResetCauses
  split
  case isFalse => exact tested
  case isTrue hst =>
    refine unshed (.inl (tested.runs (by rw [hst]; decide))) (shedBound_paused hst) fun ha => ?_
    have hfree := (tested.causes ha).free (by rw [hst]; decide)
    refine causesFit_paused ⟨hfree.held, hfree.gap⟩ hst fun hnone => ?_
    by_cases hs : s.zs.st = .paused
    · exact absurd ((hreset ha hs).symm.trans (congrArg Causes.reset hnone :)) (by decide)
    · have hbefore := (before.causes ha).pause.mpr (by rw [hzs.1]; exact hs)
      obtain ⟨-, hprecheck, hline⟩ := (before.causes ha).kinds
      have hv := free ⟨by rw [hbefore]; exact ⟨rfl, rfl⟩, hline, hprecheck⟩
      exact absurd hst ((tested.causes ha).pause.mp ((hv.stands _).symm.trans hnone))

theorem endsWarmReset (h : Zone a b true s) (hp : s.phase = .warmReset) : Zone a b true (endWarmReset s) := by
  have left := h.leavesLine hp
  rw [endWarmReset_tests]
  exact left.startsWaits.takesHealth.any

/-! ## The steps -/

theorem awake_of_sampling (h : sampling s = true) : s.phase ≠ .warmReset := by
  intro hp
  rw [sampling, hp] at h
  exact absurd h (by decide)

theorem takesEffect (he : Effect s u) (h : Zone a b true s) : Zone a b true u := by
  cases he with
  | nothing => exact h
  | falls hf =>
    rcases hf.falls s with ⟨hp, -⟩ | ⟨p, heq⟩
    · exact ((h.running hp).fallsDue hf).any
    · rw [heq]; exact h.of
  | pins p => exact h.of
  | sample x y z hs => exact ((h.awake (awake_of_sampling hs)).processesSample x y z).any
  | missing hs => exact (h.awake (awake_of_sampling hs)).countsMissing.any
  | follows => exact h.of
  | sends => exact h.of
  | loses => exact h.failsAttempt.of
  | bitError => exact (h.failsAttempt.of : Zone a b true (setLine .seeking (failAttempt s))).scoresUp _
  | completes => exact h.completesFrame
  | receiveError kind => exact ((h.of : Zone a b true (setLine .seeking s)).scoresUp _).notesReceiveError
  | arrives i hp hl hd => exact (((h.running hp).setsLine _).takesFrame hd i).any
  | image c digest hp => exact h.takesImage hp c digest
  | retries => exact h.of
  | record r hp => exact h.endsColdStart hp r
  | resets hp => exact ((h.running hp).of : Zone a b false (setResetPin true s)).beginsWarmReset
  | endOfReset hp => exact (h.of : Zone a b true (setResetPin false s)).endsWarmReset hp

theorem passes (t : Nat) (s : State) (h : Zone a b w s) : Zone a b w (advance t s) := by
  have left : Zone a b w (leaveNodeTime t s) := .either h.takesClose h
  exact .either h left.of

theorem kept (h : step s = .next u) (hs : Zone a b true s) : Zone a b true u :=
  step_keeps (fun _ _ h => h.of) (fun _ h => h.draws) passes (fun _ _ _ _ _ => resets _ _ _ _) (fun _ _ he h => h.takesEffect he) h hs

end Zone

/-- Settles O59: the promises of the zone are one predicate, which every effect of a step keeps. -/
theorem zonePromisesAreKept : Obligations.ZonePromisesAreKept := by
  intro s u h hstart
  have kept (a b : Bool) (hcauses : a = true → causesOk s = true) (hshed : b = true → shedOk s = true) : Zone a b true u :=
    ((zone_iff s).mpr ⟨hstart, hcauses, hshed⟩).kept h
  obtain ⟨start, -, -⟩ := (zone_iff u).mp (kept false false nofun nofun)
  exact ⟨start, fun hc => ((zone_iff u).mp (kept true false (fun _ => hc) nofun)).2.1 rfl,
    fun hs => ((zone_iff u).mp (kept false true nofun fun _ => hs)).2.2 rfl⟩

end Sys2Proof.Machine

/-! What elementary changes keep of the faults, the claims, the times, the health output and a close that waits (the clauses
of O57). -/

namespace Sys2Proof.Machine

/-! ## The promises in other words -/

/-- A close is taken, or waits over an open record that no trip request of now has come before (R196). -/
theorem rcpClose_waits {s : State} (h : (rcpClose s).rcp.closeWaits = true) :
    (rcpClose s).rcp.record = s.rcp.record ∧ s.rcp.record.isOpen = true ∧
      (rcpClose s).rcp.lastTripReq = s.rcp.lastTripReq ∧ s.rcp.lastTripReq ≠ some s.nodeTime := by
  unfold rcpClose at h ⊢
  split at h
  next hw =>
    split at h
    · rw [takeClose_closeWaits] at h; cases h
    next ho => rw [if_pos hw, if_neg ho]; exact ⟨rfl, hw.1, rfl, hw.2⟩
  · rw [takeClose_closeWaits] at h; cases h

theorem mem_allFaults (f : FaultId) : f ∈ allFaults := by cases f <;> decide

theorem faultsOk_iff (s : State) : faultsOk s = true ↔
    (∀ f, active f s = true → hasFault f s.hm.sticky = true) ∧ active .selftestAborted s = false := by
  simp only [faultsOk, Bool.and_eq_true, List.all_eq_true, Bool.or_eq_true, Bool.not_eq_true']
  refine and_congr_left fun _ => ⟨fun h f hf => ?_, fun h f _ => ?_⟩
  · exact (h f (mem_allFaults f)).resolve_left (by simp [hf])
  · cases hf : active f s with
    | false => exact .inl rfl
    | true => exact .inr (h f hf)

theorem claimsOk_iff (s : State) : claimsOk s = true ↔ (s.icu.list.map (fun e => e.station)).Nodup :=
  decide_eq_true_iff

theorem healthOk_iff (s : State) : healthOk s = true ↔ s.hm.healthy = fit s := beq_iff_eq

/-- The health output taken afresh is as R213 has it. -/
theorem healthOk_takeHealth (s : State) : healthOk (takeHealth s) = true := by
  have hfit : fit (takeHealth s) = fit s := by rw [takeHealth_eq]; rfl
  rw [healthOk_iff, hfit]
  unfold takeHealth
  cases hf : fit s with
  | false => rfl
  | true =>
    rw [if_pos rfl]
    split
    · assumption
    · rfl

theorem closeOk_iff (s : State) : closeOk s = true ↔ (s.rcp.closeWaits = true →
    s.phase = .running ∧ s.rcp.record.isOpen = true ∧ s.rcp.lastTripReq ≠ some s.nodeTime) := by
  cases h : s.rcp.closeWaits <;> simp [closeOk, running, h, and_assoc]

namespace Moves

variable {motion line b : Bool} {s u : State}

/-- A clearing makes no fault active. -/
theorem active_of_clearFault {f g : FaultId} {v : State} (h : active g (clearFault f v) = true) :
    active g v = true := by
  by_cases hfg : f = g
  · subst hfg; rw [active_clearFault_same] at h; cases h
  · rwa [active_clearFault_other hfg] at h

/-- Active faults stay in the sticky set, and SELFTEST-ABORTED out of the active set (R210). -/
theorem keeps_faults (h : Moves motion line s b u) (hs : faultsOk s = true) : faultsOk u = true := by
  induction h with
  | refl => exact hs
  | byPlace e _ ih => rw [place_eq]; exact ih
  | byRelease n r _ ih => rw [queueRelease_eq]; exact ih
  | byRequest a o v g l _ ih => rw [rcpTrip_eq]; exact ih
  | byClose _ ih => rw [rcpClose_eq]; exact ih
  | bySettle _ ih => rw [takeWaitingClose_eq]; exact ih
  | byRaise f _ ha _ _ ih =>
    rw [faultsOk_iff] at ih ⊢
    refine ⟨fun g hg => ?_, (active_raiseFault_other ha _).trans ih.2⟩
    by_cases hfg : f = g
    · subst hfg; exact sticky_raiseFault_same f _
    · rw [active_raiseFault_other hfg] at hg
      simpa [raiseFault, hasFault_putFault_other hfg] using ih.1 g hg
  | byClear f _ _ _ ih =>
    rw [faultsOk_iff] at ih ⊢
    rw [sticky_clearFault]
    refine ⟨fun g hg => ih.1 g (active_of_clearFault hg), Bool.not_eq_true _ ▸ fun hg => ?_⟩
    exact absurd (active_of_clearFault hg) (by simp [ih.2])
  | byNotice _ ih =>
    rw [faultsOk_iff] at ih ⊢
    refine ⟨fun g hg => ?_, ih.2⟩
    by_cases hg' : FaultId.selftestAborted = g
    · subst hg'; exact hasFault_putFault_same _ _ _
    · exact (hasFault_putFault_other hg' _ _).trans (ih.1 g hg)
  | byAck _ ih => rw [faultsOk_iff] at ih ⊢; exact ⟨fun g hg => hg, ih.2⟩
  | byMode m _ ih => rw [takeHealth_eq]; exact ih
  | byMp _ _ ih | byTest _ _ _ ih | bySlc _ _ _ ih | byPv _ _ ih | byVtu _ _ ih | byCd _ _ ih | byPins _ _ ih
  | byDrawn _ ih | byZs _ _ ih | byIcu _ _ ih | byAppend _ _ ih | byRemove _ _ ih | byRcp _ _ _ _ ih
  | byResult _ _ _ ih => exact ih

theorem nodup_appendClaim (e : InrushEntry) {v : State} (h : (v.icu.list.map (fun e => e.station)).Nodup) :
    ((appendClaim e v).icu.list.map (fun e => e.station)).Nodup := by
  have hl : (appendClaim e v).icu.list = dropStation e.station v.icu.list ++ [e] := rfl
  rw [hl, List.map_append, List.nodup_append]
  refine ⟨h.sublist (List.filter_sublist.map _), List.nodup_cons.mpr ⟨List.not_mem_nil, List.nodup_nil⟩, ?_⟩
  simp only [dropStation, List.mem_map, List.mem_filter, List.map_cons, List.map_nil, List.mem_singleton,
    forall_exists_index, and_imp]
  rintro _ x _ hx rfl _ rfl
  simpa using hx

/-- The inrush list holds at most one claim of a station (R151). -/
theorem keeps_claims (h : Moves motion line s b u) (hs : claimsOk s = true) : claimsOk u = true := by
  induction h with
  | refl => exact hs
  | byIcu _ hl ih => rw [claimsOk_iff] at ih ⊢; exact ih.sublist (hl.map _)
  | byAppend e _ ih => rw [claimsOk_iff] at ih ⊢; exact nodup_appendClaim e ih
  | byPlace e _ ih => rw [place_eq]; exact ih
  | byRelease n r _ ih => rw [queueRelease_eq]; exact ih
  | byRequest a o v g l _ ih => rw [rcpTrip_eq]; exact ih
  | byClose _ ih => rw [rcpClose_eq]; exact ih
  | bySettle _ ih => rw [takeWaitingClose_eq]; exact ih
  | byRaise f _ _ _ _ ih => rw [raiseFault_eq]; exact ih
  | byClear f _ _ _ ih => rw [clearFault_eq]; exact ih
  | byMode m _ ih => rw [takeHealth_eq]; exact ih
  | byMp _ _ ih | byTest _ _ _ ih | bySlc _ _ _ ih | byPv _ _ ih | byVtu _ _ ih | byCd _ _ ih | byPins _ _ ih
  | byDrawn _ ih | byZs _ _ ih | byRemove _ _ ih | byRcp _ _ _ _ ih | byNotice _ ih
  | byAck _ ih | byResult _ _ _ ih => exact ih

/-- Ta is never ahead of now (R131). -/
theorem keeps_ta (h : Moves motion line s b u) (hs : s.zs.ta ≤ s.nodeTime) : u.zs.ta ≤ s.nodeTime := by
  induction h with
  | refl => exact hs
  | byZs hm hz ih => exact Nat.le_trans hz (Nat.max_le.mpr ⟨ih, Nat.le_of_eq hm.nodeTime_phase.1⟩)
  | byPlace e _ ih => rw [place_eq]; exact ih
  | byRelease n r _ ih => rw [queueRelease_eq]; exact ih
  | byRequest a o v g l _ ih => rw [rcpTrip_eq]; exact ih
  | byClose _ ih => rw [rcpClose_eq]; exact ih
  | bySettle _ ih => rw [takeWaitingClose_eq]; exact ih
  | byRaise f _ _ _ _ ih => rw [raiseFault_eq]; exact ih
  | byClear f _ _ _ ih => rw [clearFault_eq]; exact ih
  | byMode m _ ih => rw [takeHealth_eq]; exact ih
  | byMp _ _ ih | byTest _ _ _ ih | bySlc _ _ _ ih | byPv _ _ ih | byVtu _ _ ih | byCd _ _ ih | byPins _ _ ih
  | byDrawn _ ih | byIcu _ _ ih | byAppend _ _ ih | byRemove _ _ ih | byRcp _ _ _ _ ih | byNotice _ ih
  | byAck _ ih | byResult _ _ _ ih => exact ih

theorem keeps_times (h : Moves motion line s b u) (hs : timesOk s = true) : timesOk u = true := by
  rw [timesOk_iff] at hs ⊢
  rw [h.nodeTime_phase.1]
  exact ⟨hs.1, h.keeps_ta hs.2⟩

/-- The health output toggles exactly while the node is fit (R213). -/
theorem keeps_health (h : Moves motion line s b u) (hs : healthOk s = true) : healthOk u = true := by
  induction h with
  | refl => exact hs
  | byPlace e _ ih => rw [place_eq]; exact ih
  | byRelease n r _ ih => rw [queueRelease_eq]; exact ih
  | byRequest a o v g l _ ih => rw [rcpTrip_eq]; exact ih
  | byClose _ ih => rw [rcpClose_eq]; exact ih
  | bySettle _ ih => rw [takeWaitingClose_eq]; exact ih
  | byRaise f _ _ _ _ _ => exact healthOk_takeHealth _
  | byClear f _ _ _ _ => exact healthOk_takeHealth _
  | byMode m _ _ => exact healthOk_takeHealth _
  | byMp _ _ ih | byTest _ _ _ ih | bySlc _ _ _ ih | byPv _ _ ih | byVtu _ _ ih | byCd _ _ ih | byPins _ _ ih
  | byDrawn _ ih | byZs _ _ ih | byIcu _ _ ih | byAppend _ _ ih | byRemove _ _ ih | byRcp _ _ _ _ ih
  | byNotice _ ih | byAck _ ih | byResult _ _ _ ih => exact ih

/-- A close waits over an open record, and not behind a trip request of now unless one has just been taken. -/
def CloseWaits (b : Bool) (u : State) : Prop :=
  u.rcp.closeWaits = true →
    u.rcp.record.isOpen = true ∧ (b = false → u.rcp.lastTripReq ≠ some u.nodeTime)

theorem keeps_closeWaits (h : Moves motion line s b u) (hs : CloseWaits false s) : CloseWaits b u := by
  induction h with
  | refl => exact hs
  | byRcp _ ho hc hl ih =>
    intro hw
    rw [State.setRcp_rcp, hc] at hw
    rw [State.setRcp_rcp, ho, hl]
    exact ih hw
  | byRequest a o v g l _ ih =>
    intro _
    refine ⟨?_, nofun⟩
    unfold rcpTrip
    rw [(setRecord_rcp _ _).1]
    unfold recordAfterTrip; split
    · assumption
    · rfl
  | byClose _ _ =>
    intro hw
    obtain ⟨hr, ho, hl, hn⟩ := rcpClose_waits hw
    rw [hr, hl, (zoneKept_fields (zoneKept_rcpClose _)).1]
    exact ⟨ho, fun _ => hn⟩
  | bySettle _ _ => intro hw; rw [takeWaitingClose_closeWaits] at hw; cases hw
  | byPlace e _ ih => rw [place_eq]; exact ih
  | byRelease n r _ ih => rw [queueRelease_eq]; exact ih
  | byRaise f _ _ _ _ ih => rw [raiseFault_eq]; exact ih
  | byClear f _ _ _ ih => rw [clearFault_eq]; exact ih
  | byMode m _ ih => rw [takeHealth_eq]; exact ih
  | byMp _ _ ih | byTest _ _ _ ih | bySlc _ _ _ ih | byPv _ _ ih | byVtu _ _ ih | byCd _ _ ih | byPins _ _ ih
  | byDrawn _ ih | byZs _ _ ih | byIcu _ _ ih | byAppend _ _ ih | byRemove _ _ ih
  | byNotice _ ih | byAck _ ih | byResult _ _ _ ih => exact ih

/-- A close waits only in a running part with a record to close (R196). -/
theorem keeps_close (h : Moves motion line s false u) (hrun : s.phase = .running) (hs : closeOk s = true) :
    closeOk u = true := by
  rw [closeOk_iff] at hs ⊢
  intro hw
  obtain ⟨ho, hn⟩ := h.keeps_closeWaits (fun hw => ⟨(hs hw).2.1, fun _ => (hs hw).2.2⟩) hw
  exact ⟨h.nodeTime_phase.2.trans hrun, ho, hn rfl⟩

end Moves

namespace Passes

variable {line : Bool} {s u : State}

theorem keeps_faults (h : Passes line s u) (hs : faultsOk s = true) : faultsOk u = true := by
  induction h with
  | refl => exact hs
  | byMoves _ hm ih => exact hm.keeps_faults ih
  | byPhase _ _ ih | byRecord _ _ ih | byMode _ _ ih => exact ih

theorem keeps_claims (h : Passes line s u) (hs : claimsOk s = true) : claimsOk u = true := by
  induction h with
  | refl => exact hs
  | byMoves _ hm ih => exact hm.keeps_claims ih
  | byPhase _ _ ih | byRecord _ _ ih | byMode _ _ ih => exact ih

theorem keeps_times (h : Passes line s u) (hs : timesOk s = true) : timesOk u = true := by
  induction h with
  | refl => exact hs
  | byMoves _ hm ih => exact hm.keeps_times ih
  | byPhase _ _ ih | byRecord _ _ ih | byMode _ _ ih => exact ih

end Passes

end Sys2Proof.Machine

/-! What O57 comes to. All of it holds of every step but the clause of a waiting close, and that clause holds exactly when the
free value `Config.order` always has a close taken at once. `Config.order` is an uninterpreted constant, so O57 is left
unsettled here: these lemmas prove neither it nor its negation. -/

namespace Sys2Proof.Machine

variable {s u : State}

/-! ## A close that waits in a warm reset -/

/-- Node 5 in a warm reset with a frame of its own on the line, suppressed and PAUSED for the line alone, with no channel SHUT
and its record open. -/
def endsPauseInReset (n : Nat) : State :=
  { watchNode with
    phase := .warmReset, draws := n, cd := testChans .run
    zs := { watchNode.zs with st := .paused, pause := { noCauses with line := true }, holdDue := none }
    hm := { node.hm with
      healthy := false, active := putFault .lineSuppressed true noFaults, sticky := putFault .lineSuppressed true noFaults }
    slc := { node.slc with line := .sending, score := 65, inFlight := none } }

/-- The same node with the end of the frame taken into account and suppression about to end. -/
def suppressionEnds (n : Nat) : State :=
  (endsPauseInReset n).setSlc { (endsPauseInReset n).slc with line := .counting, tEnd := now, score := 64 }

/-- The same node as it hands its close to the RCP (R182). -/
def handsClose (n : Nat) : State :=
  let left := stageLeft (lineLeaves (clearFault .lineSuppressed (suppressionEnds n)))
  enterState .running (left.setZs { left.zs with
    grade := 0, currentStage := 0, nextRestart := 1, checkedStage := none, waiver := none })

/-- The end of suppression ends the pause, and no stage is left to be run. -/
theorem suppressionEnds_closes (n : Nat) : clearLineFault .lineSuppressed (suppressionEnds n) = rcpClose (handsClose n) := by
  have hfrees : Frees .lineSuppressed (suppressionEnds n) := ⟨rfl, rfl, rfl, rfl⟩
  have hbegins : leavePause (lineLeaves (clearFault .lineSuppressed (suppressionEnds n))) =
      beginStage (lineLeaves (clearFault .lineSuppressed (suppressionEnds n))) := leavePause_begins rfl rfl
  have hnone : nextStageToRun (stageLeft (lineLeaves (clearFault .lineSuppressed (suppressionEnds n)))) = none := rfl
  rw [clearLineFault_frees hfrees, hbegins, beginStage_free ⟨rfl, rfl⟩, hnone]
  rfl

theorem frameCompleted_closes (n : Nat) : frameCompleted (endsPauseInReset n) = rcpClose (handsClose n) := by
  have hscore := scoreDown_ends (s := (endsPauseInReset n).setSlc { (endsPauseInReset n).slc with
    line := .counting, tEnd := (endsPauseInReset n).nodeTime }) rfl (Nat.le_refl 64)
  have hflight := (scoreDown_line ((endsPauseInReset n).setSlc { (endsPauseInReset n).slc with
    line := .counting, tEnd := (endsPauseInReset n).nodeTime })).2.2.1
  have hlowered := hscore.trans (suppressionEnds_closes n)
  rw [hlowered] at hflight
  have hnone : (rcpClose (handsClose n)).slc.inFlight = none :=
    Option.not_isSome_iff_eq_none.mp (by rw [hflight]; exact Bool.false_ne_true)
  rw [frameCompleted, if_pos (by rfl)]
  dsimp only
  rw [hlowered, hnone, completeAttempt, hnone]
  rfl

theorem step_closes (n : Nat) :
    step ((endsPauseInReset n).setPending [.frameCompleted now]) = .next (rcpClose (handsClose n)) := by
  have hstep : step ((endsPauseInReset n).setPending [.frameCompleted now]) =
      .next (frameCompleted (advance now (endsPauseInReset n))) := rfl
  have hphase : (endsPauseInReset n).phase = .warmReset := rfl
  have hnow : advance now (endsPauseInReset n) = endsPauseInReset n := by
    rw [advance, if_neg (by rw [hphase]; decide), leaveNodeTime, if_neg fun h => absurd (hphase.symm.trans h.1) (by decide)]
    rfl
  rw [hstep, hnow, frameCompleted_closes]

/-- Where the draw has the close wait, it waits in a part that is not running. -/
theorem not_closeOk_of_order {n : Nat} (h : Config.order n = false) : closeOk (rcpClose (handsClose n)) = false := by
  have hwaits : (handsClose n).rcp.record.isOpen = true ∧ (handsClose n).rcp.lastTripReq ≠ some (handsClose n).nodeTime :=
    ⟨rfl, nofun⟩
  have hdraw : drawOrder (handsClose n) = false := h
  rw [rcpClose, if_pos hwaits, hdraw]
  rfl

/-! ## A close that is always taken at once -/

/-- Every draw has a close taken in the step that hands it over. -/
def ClosesAtOnce : Prop := ∀ n, Config.order n = true

namespace ClosesAtOnce

theorem rcpClose_taken (h : ClosesAtOnce) (s : State) : (rcpClose s).rcp.closeWaits = false := by
  unfold rcpClose drawOrder
  rw [h, if_pos rfl]
  split
  · exact takeClose_closeWaits _
  · exact takeClose_closeWaits _

theorem moves {motion line b : Bool} (hall : ClosesAtOnce) (h : Moves motion line s b u) (hs : s.rcp.closeWaits = false) :
    u.rcp.closeWaits = false := by
  induction h with
  | refl => exact hs
  | byRcp _ _ hc _ ih => exact hc.trans ih
  | byRequest a o v g l _ ih => exact (setRecord_rcp _ _).2.1.trans ih
  | byClose _ _ => exact hall.rcpClose_taken _
  | bySettle _ _ => exact takeWaitingClose_closeWaits _
  | byPlace e _ ih => rw [place_eq]; exact ih
  | byRelease n r _ ih => rw [queueRelease_eq]; exact ih
  | byRaise f _ _ _ _ ih => rw [raiseFault_eq]; exact ih
  | byClear f _ _ _ ih => rw [clearFault_eq]; exact ih
  | byMode m _ ih => rw [takeHealth_eq]; exact ih
  | byMp _ _ ih | byTest _ _ _ ih | bySlc _ _ _ ih | byPv _ _ ih | byVtu _ _ ih | byCd _ _ ih | byPins _ _ ih
  | byDrawn _ ih | byZs _ _ ih | byIcu _ _ ih | byAppend _ _ ih | byRemove _ _ ih
  | byNotice _ ih | byAck _ ih | byResult _ _ _ ih => exact ih

end ClosesAtOnce

theorem closeOk_of_none (h : u.rcp.closeWaits = false) : closeOk u = true := by rw [closeOk, h]; rfl

theorem none_of_closeOk (h : closeOk u = true) (hp : u.phase ≠ .running) : u.rcp.closeWaits = false :=
  Bool.eq_false_iff.mpr fun hw => hp ((closeOk_iff u).mp h hw).1

theorem beginWarmReset_closeWaits (s : State) : (beginWarmReset s).rcp.closeWaits = false := by
  rw [← beginWarmReset_takeWaitingClose, beginWarmReset_eq (takeWaitingClose_closeWaits s)]
  exact takeWaitingClose_closeWaits s

theorem Course.keeps_close (hall : ClosesAtOnce) (h : Course s u) (hs : closeOk s = true) : closeOk u = true := by
  cases h with
  | moved h =>
    by_cases hp : s.phase = .running
    · exact h.keeps_close hp hs
    · exact closeOk_of_none (hall.moves h (none_of_closeOk hs hp))
  | image c digest hp =>
    have hnone := none_of_closeOk hs (by rw [hp]; decide)
    unfold takeImage
    dsimp only
    split
    · exact closeOk_of_none hnone
    · exact closeOk_of_none (by rw [raiseFault_eq]; exact hnone)
  | record r hp =>
    have hnone : (beforeWaits r s).rcp.closeWaits = false := by rw [(beforeWaits_started r s).around]; rfl
    have hwaits : Moves false false (beforeWaits r s) false (startedUp r s) := Moves.refl.startsWaits.takesHealth
    rw [finishColdStart_eq]
    unfold resetIfAsserted
    split
    · exact closeOk_of_none (beginWarmReset_closeWaits _)
    · exact closeOk_of_none (hall.moves hwaits hnone)
  | resets _ => exact closeOk_of_none (beginWarmReset_closeWaits _)
  | endOfReset hp =>
    have hnone := none_of_closeOk hs (by rw [hp]; decide)
    exact closeOk_of_none (hall.moves (Moves.endsWarmReset (line := true) (setResetPin false s)) hnone)

/-! ## The other clauses -/

theorem Course.keeps_health (h : Course s u) (hs : healthOk s = true) : healthOk u = true := by
  cases h with
  | moved h => exact h.keeps_health hs
  | image c digest hp =>
    have hstill : s.hm.healthy = false := by rw [(healthOk_iff s).mp hs, fit, running, hp]; rfl
    unfold takeImage
    dsimp only
    split
    · exact (healthOk_iff _).mpr hstill
    · exact healthOk_takeHealth _
  | record r _ =>
    rw [finishColdStart_eq]
    unfold resetIfAsserted
    split
    · exact healthOk_takeHealth _
    · exact healthOk_takeHealth _
  | resets _ => exact healthOk_takeHealth _
  | endOfReset _ => exact healthOk_takeHealth _

/-- Node time runs on, and a waiting close may be taken as it does (R1, R196). -/
theorem advance_eq (t : Nat) (s : State) : ∃ rcp z n, advance t s = ((s.setRcp rcp).setZs z).setNodeTime n ∧
    z.ta = s.zs.ta ∧ s.nodeTime ≤ n ∧ (s.nodeTime ≤ maxNodeTime → n ≤ maxNodeTime) := by
  unfold advance leaveNodeTime
  split
  · exact ⟨s.rcp, s.zs, s.nodeTime, rfl, rfl, Nat.le_refl _, id⟩
  · have hbound (h : s.nodeTime ≤ maxNodeTime) : max s.nodeTime (min t maxNodeTime) ≤ maxNodeTime := by omega
    split
    · rw [takeWaitingClose_eq]
      exact ⟨_, _, _, rfl, rfl, Nat.le_max_left _ _, hbound⟩
    · exact ⟨s.rcp, s.zs, _, rfl, rfl, Nat.le_max_left _ _, hbound⟩

theorem timesOk_advance (t : Nat) (s : State) (h : timesOk s = true) : timesOk (advance t s) = true := by
  obtain ⟨rcp, z, n, heq, hta, hlow, hhigh⟩ := advance_eq t s
  obtain ⟨hmax, hpast⟩ := (timesOk_iff s).mp h
  rw [heq]
  exact (timesOk_iff _).mpr ⟨hhigh hmax, Nat.le_trans (Nat.le_of_eq hta) (Nat.le_trans hpast hlow)⟩

theorem closeOk_advance (t : Nat) (s : State) (h : closeOk s = true) : closeOk (advance t s) = true := by
  by_cases hw : s.rcp.closeWaits = true
  · obtain ⟨hrun, -⟩ := (closeOk_iff s).mp h hw
    rw [advance, if_neg (by rw [hrun]; decide), leaveNodeTime]
    split
    next => exact closeOk_of_none (takeWaitingClose_closeWaits s)
    next hno =>
      have hstands : max s.nodeTime (min t maxNodeTime) = s.nodeTime := by
        have hlate : ¬s.nodeTime < t := fun hlt => hno ⟨hrun, hlt⟩
        omega
      rw [hstands]
      exact h
  · refine closeOk_of_none ?_
    have hnone := Bool.eq_false_iff.mpr hw
    unfold advance leaveNodeTime
    repeat' split
    · exact hnone
    · exact takeWaitingClose_closeWaits s
    · exact hnone

/-- The state after a cold reset meets every promise of O57. -/
theorem coldReset_meets (id : StationId) (range16 : Bool) (identity : Byte) (s : State) :
    faultsOk (coldReset id range16 identity s) = true ∧ claimsOk (coldReset id range16 identity s) = true ∧
      timesOk (coldReset id range16 identity s) = true ∧ healthOk (coldReset id range16 identity s) = true ∧
      closeOk (coldReset id range16 identity s) = true := by
  unfold coldReset
  dsimp only
  split
  · exact ⟨rfl, rfl, rfl, rfl, rfl⟩
  · refine ⟨?_, ?_, ?_, healthOk_takeHealth _, ?_⟩
    all_goals
      rw [raiseFault, takeHealth_eq]
      rfl

/-- An antiphase pair changes every 10 ticks and not in between (R213). -/
theorem antiphase_toggles (id since n : Nat) {k : Nat} (hk : k < 10) :
    antiphase id since (since + (10 * n + k)) = antiphase id since (since + 10 * n) ∧
      antiphase id since (since + (10 * n + 10)) =
        ((antiphase id since (since + 10 * n)).2, (antiphase id since (since + 10 * n)).1) := by
  have hwithin : (since + (10 * n + k) - since) / 10 = n := by omega
  have hstart : (since + 10 * n - since) / 10 = n := by omega
  have hnext : (since + (10 * n + 10) - since) / 10 = n + 1 := by omega
  unfold antiphase
  rw [hwithin, hstart, hnext]
  refine ⟨rfl, ?_⟩
  rcases Nat.mod_two_eq_zero_or_one n with h | h
  · rw [h, show (n + 1) % 2 = 1 by omega]
    cases Config.firstLineHigh id <;> rfl
  · rw [h, show (n + 1) % 2 = 0 by omega]
    cases Config.firstLineHigh id <;> rfl

theorem step_keeps_faults (h : step s = .next u) (hs : faultsOk s = true) : faultsOk u = true := by
  refine step_keeps (P := fun s => faultsOk s = true) (fun _ _ h => h) (fun _ h => h) (fun t s hs => ?_)
    (fun a b c d _ => (coldReset_meets a b c d).1) (fun _ _ he h => he.course.passes.keeps_faults h) h hs
  obtain ⟨_, _, _, heq, -⟩ := advance_eq t s
  rw [heq]
  exact hs

theorem step_keeps_claims (h : step s = .next u) (hs : claimsOk s = true) : claimsOk u = true := by
  refine step_keeps (P := fun s => claimsOk s = true) (fun _ _ h => h) (fun _ h => h) (fun t s hs => ?_)
    (fun a b c d _ => (coldReset_meets a b c d).2.1) (fun _ _ he h => he.course.passes.keeps_claims h) h hs
  obtain ⟨_, _, _, heq, -⟩ := advance_eq t s
  rw [heq]
  exact hs

theorem step_keeps_times (h : step s = .next u) (hs : timesOk s = true) : timesOk u = true :=
  step_keeps (P := fun s => timesOk s = true) (fun _ _ h => h) (fun _ h => h) timesOk_advance
    (fun a b c d _ => (coldReset_meets a b c d).2.2.1) (fun _ _ he h => he.course.passes.keeps_times h) h hs

theorem step_keeps_health (h : step s = .next u) (hs : healthOk s = true) : healthOk u = true := by
  refine step_keeps (P := fun s => healthOk s = true) (fun _ _ h => h) (fun _ h => h) (fun t s hs => ?_)
    (fun a b c d _ => (coldReset_meets a b c d).2.2.2.1) (fun _ _ he h => he.course.keeps_health h) h hs
  obtain ⟨_, _, _, heq, -⟩ := advance_eq t s
  rw [heq]
  exact hs

theorem step_keeps_close (hall : ClosesAtOnce) (h : step s = .next u) (hs : closeOk s = true) : closeOk u = true :=
  step_keeps (P := fun s => closeOk s = true) (fun _ _ h => h) (fun _ h => h) closeOk_advance
    (fun a b c d _ => (coldReset_meets a b c d).2.2.2.2) (fun _ _ he h => he.course.keeps_close hall h) h hs

/-- Why O57 is left open: its clause of a waiting close says of the uninterpreted constant `Config.order` what no
proof can see (notes/assumptions/30.md). -/
theorem faultsClaimsAndTimesAreKept_iff : Obligations.FaultsClaimsAndTimesAreKept ↔ ClosesAtOnce := by
  refine ⟨fun h n => ?_, fun hall => ⟨fun s u h => ?_, fun s => ⟨fun hstill => ?_, fun hbeats => ?_, fun n k hbeats hk => ?_⟩⟩⟩
  · refine eq_true_of_ne_false fun hn => ?_
    obtain ⟨-, -, -, -, hclose⟩ := h.1 _ _ (step_closes n)
    exact absurd ((not_closeOk_of_order hn).symm.trans (hclose rfl rfl)) (by decide)
  · exact ⟨step_keeps_faults h, step_keeps_claims h, step_keeps_times h, step_keeps_health h, fun _ => step_keeps_close hall h⟩
  · rw [healthLines, if_neg (by rw [hstill]; decide)]
  · rw [healthLines, if_pos hbeats]
    rfl
  · have hlines (t : Nat) : healthLines { s with nodeTime := s.hm.healthSince + t } =
        antiphase 16 s.hm.healthSince (s.hm.healthSince + t) := if_pos hbeats
    dsimp only
    rw [hlines, hlines, hlines]
    exact antiphase_toggles 16 s.hm.healthSince n hk

end Sys2Proof.Machine
